-- ==== Sys2Proof/Word.lean ====
section
/-! DEFINITION. The byte, the station and mast numbers, and the update of one place of a fixed table. -/

namespace Sys2Proof

/-- One byte of a frame (R187). -/
abbrev Byte := BitVec 8

/-- A station, by its place 0..31 in the station table; its number is one more (R2). -/
abbrev Stn := Fin 32

/-- A wind mast, by its place 0..3; its number is one more (R86). -/
abbrev MastNo := Fin 4

/-- Rewrites one place of a fixed table. -/
def upd {α : Type} {n : Nat} (v : Vector α n) (i : Fin n) (f : α → α) : Vector α n :=
  v.set i.val (f (v.get i)) i.isLt

/-- The 32 stations in ascending number. -/
def allStns : List Stn := List.finRange 32

/-- The four masts in ascending number. -/
def allMasts : List MastNo := List.finRange 4

end Sys2Proof
end

