-- ==== Sys2Proof/Syntax.lean ====
section
/-! DEFINITION. The commands of the coordinator: one constructor per row of the table of operations and events. -/

namespace Sys2Proof

/-- The two control links (R173). -/
inductive Link where
  | S | O
deriving DecidableEq, Repr

/-- The three lines that have a searching receiver (R173). -/
inductive Line where
  | linkS | linkO | site
deriving DecidableEq, Repr

/-- The commands. A line event carries the bytes that came in on the line with it. A request event is the
taking of the oldest frame of a link's input FIFO (R176): its arguments are that frame's payload, so it
carries only the link, and that only where either link may carry the request. An expiry carries the station
or mast whose timer it is. -/
inductive Instr where
  /-- POWER_ON_RESET (R186). -/
  | powerOnReset
  /-- LINK_FRAME_RECEIVED (R174): the bytes that complete a good frame on a control link. -/
  | linkFrameReceived (l : Link) (bytes : List Byte)
  /-- BAD_FRAME (R173): the bytes that complete a candidate that is discarded. -/
  | badFrame (ln : Line) (bytes : List Byte)
  /-- TRANSMIT_FRAME_END (R177). -/
  | transmitFrameEnd (l : Link)
  /-- SLEW (R39). -/
  | slew
  /-- CANCEL (R47). -/
  | cancel
  /-- FLUSH (R48). -/
  | flush
  /-- RESUME (R46). -/
  | resume
  /-- REST (R17). -/
  | rest
  /-- STEER (R51). -/
  | steer
  /-- HALT (R57). -/
  | halt
  /-- STOW_ALL (R116). -/
  | stowAll
  /-- UNSTOW (R118). -/
  | unstow
  /-- SNOW_ON (R125). -/
  | snowOn
  /-- SNOW_OFF (R125). -/
  | snowOff
  /-- CONSOLE_LOCK (R150). -/
  | consoleLock
  /-- CONSOLE_UNLOCK (R150). -/
  | consoleUnlock
  /-- WRITE_OFF (R84). -/
  | writeOff
  /-- ENABLE (R8). -/
  | enable
  /-- DISABLE (R9). -/
  | disable
  /-- SET (R181). -/
  | setParam
  /-- GET (R182). -/
  | getParam
  /-- CLEAR (R183). -/
  | clearAll
  /-- Q_STATION (R19). -/
  | qStation (l : Link)
  /-- Q_POWER (R85). -/
  | qPower (l : Link)
  /-- Q_WIND (R101). -/
  | qWind (l : Link)
  /-- Q_CAMPAIGN (R123). -/
  | qCampaign (l : Link)
  /-- Q_QUEUE (R50). -/
  | qQueue (l : Link)
  /-- Q_LOCKOUT (R158). -/
  | qLockout (l : Link)
  /-- ACK (R180). -/
  | ack (l : Link)
  /-- DUMP (R185). -/
  | dump (l : Link)
  /-- UNKNOWN_REQUEST_KIND (R176). -/
  | unknownRequestKind (l : Link)
  /-- MAST (R88): the bytes that complete a MAST frame on the site line. -/
  | mast (bytes : List Byte)
  /-- PRECIP (R126): the bytes that complete a PRECIP frame on the site line. -/
  | precip (bytes : List Byte)
  /-- FEEDER (R61): the bytes that complete a FEEDER frame on the site line. -/
  | feeder (bytes : List Byte)
  /-- SITE_FRAME_IGNORED (R174): the bytes that complete any other good frame on the site line. -/
  | siteFrameIgnored (bytes : List Byte)
  /-- STATUS_REPLY (R165): the whole frame of a good reply on the drive bus. -/
  | statusReply (bytes : List Byte)
  /-- BAD_REPLY (R164): the whole frame of a reply that is not good. -/
  | badReply (bytes : List Byte)
  /-- REPLY_TIMEOUT_EXPIRY (R166). -/
  | replyTimeoutExpiry
  /-- KEYS (R149): the whole frame of a good reply on the panel line. -/
  | keys (bytes : List Byte)
  /-- PANEL_REPLY_MISSED (R148): the frame of a reply that is not good, or none for a missing reply. -/
  | panelReplyMissed (bytes : Option (List Byte))
  /-- PANEL_SILENCE_EXPIRY (R148). -/
  | panelSilenceExpiry (i : Stn)
  /-- WARNING_EXPIRY (R156). -/
  | warningExpiry (i : Stn)
  /-- SILENCE_EXPIRY (R91). -/
  | silenceExpiry (m : MastNo)
  /-- DWELL_EXPIRY (R98). -/
  | dwellExpiry
  /-- DEADLINE_EXPIRY (R117). -/
  | deadlineExpiry
  /-- CLEAR_TIMER_EXPIRY (R128). -/
  | clearTimerExpiry
  /-- TIMER_A_EXPIRY (R133). -/
  | timerAExpiry (i : Stn)
  /-- TIMER_B_EXPIRY (R135). -/
  | timerBExpiry (i : Stn)
  /-- IDLE_EXPIRY (R140). -/
  | idleExpiry (i : Stn)
  /-- COLLECTING_START (R173): the bytes up to a delimiter and a LEN in range. -/
  | collectingStart (ln : Line) (bytes : List Byte)
deriving DecidableEq, Repr

end Sys2Proof
end

