-- ==== Sys2Proof/Decode.lean ====
section
/-! DEFINITION. Which command a table word or a request frame spells. -/

namespace Sys2Proof

/-- The table gives no row any bits, so no word spells a command. -/
def decodeTableWord (_nbits _w : Nat) : Option Instr := none

/-- The command that takes a Link S request of this KIND (R189), if the kind is one of that link. -/
def scheduleRequest (k : Byte) : Option Instr :=
  match k.toNat with
  | 0x01 => some .slew
  | 0x02 => some .cancel
  | 0x03 => some .flush
  | 0x04 => some .resume
  | 0x05 => some .rest
  | _ => none

/-- The command that takes a Link O request of this KIND (R189), if the kind is one of that link. -/
def consoleRequest (k : Byte) : Option Instr :=
  match k.toNat with
  | 0x10 => some .steer
  | 0x11 => some .halt
  | 0x12 => some .stowAll
  | 0x13 => some .unstow
  | 0x14 => some .snowOn
  | 0x15 => some .snowOff
  | 0x16 => some .consoleLock
  | 0x17 => some .consoleUnlock
  | 0x18 => some .writeOff
  | 0x19 => some .enable
  | 0x1A => some .disable
  | 0x1B => some .setParam
  | 0x1C => some .getParam
  | 0x1D => some .clearAll
  | _ => none

/-- The command that takes a request of this KIND that either link may carry (R189). -/
def sharedRequest (l : Link) (k : Byte) : Option Instr :=
  match k.toNat with
  | 0x50 => some (.qStation l)
  | 0x51 => some (.qPower l)
  | 0x52 => some (.qWind l)
  | 0x53 => some (.qCampaign l)
  | 0x54 => some (.qQueue l)
  | 0x55 => some (.qLockout l)
  | 0x56 => some (.ack l)
  | 0x57 => some (.dump l)
  | _ => none

/-- The kind is a request of this link (R176). -/
def ownRequest (l : Link) (k : Byte) : Option Instr :=
  match sharedRequest l k with
  | some c => some c
  | none => match l with
    | .S => scheduleRequest k
    | .O => consoleRequest k

/-- The kind is a request of either link (R176). -/
def anyRequestKind (k : Byte) : Bool :=
  (ownRequest .S k).isSome || (ownRequest .O k).isSome

/-- The command that takes a frame of this KIND from the FIFO of this link. -/
def requestOf (l : Link) (k : Byte) : Instr :=
  (ownRequest l k).getD (.unknownRequestKind l)

end Sys2Proof
end

