-- ==== Sys2Proof/Config.lean ====
section
/-! DEFINITION. The free values: choices that the manual leaves to the part, as constants without a body. -/

namespace Sys2Proof.Config

/-- R11: in a reply that shows LOCAL, whether the lockout manager's reaction is taken before the move to MANUAL
("Either may be taken first"). A fresh choice for each reply, by the number of choices made so far. -/
opaque lockoutBeforeSwitch : Nat → Bool

/-- R165: in a reply that both confirms a heater stop and changes whether the station is STOWED, whether the snow
melt controller takes the reply before the station's motion is judged ("the blocks take the reply in no fixed
order"). A fresh choice for each such reply. -/
opaque heaterBeforeMotion : Nat → Bool

/-- R190: what a power figure above 65535 shows in its two bytes: the manual gives no encoding of it. The same figure shows the same. -/
opaque widePower : Nat → BitVec 16

end Sys2Proof.Config
end

