-- ==== Sys2Proof/Machine/Types.lean ====
section
/-! DEFINITION. The named values of the manual: states, phases, outcomes, codes and the like. Constructors stand in
the order of the owning tables, which gives their codes (R190). -/

namespace Sys2Proof.Machine

/-- Wind stage (R93). -/
inductive Stage where
  | calm | breezy | high | stow
deriving DecidableEq, Repr

/-- The stages that have levels and a dwell (R93). -/
inductive UpStage where
  | breezy | high | stow
deriving DecidableEq, Repr

/-- Why the stage stands where it is (R93). -/
inductive StageCause where
  | wind | feed | start
deriving DecidableEq, Repr

/-- Why a campaign was started (R102). -/
inductive CampCause where
  | wind | feed | start | operator
deriving DecidableEq, Repr

/-- The thirteen motion states (R3). -/
inductive Motion where
  | disabled | unknown | lost | fault | manual | held | pointed | parked | stowed | admitting | slewing | stowing
  | stopping
deriving DecidableEq, Repr

/-- Axis phase (R2). -/
inductive Phase where
  | braked | holding | accel | cruise | decel
deriving DecidableEq, Repr

/-- Stow pin (R2). -/
inductive Pin where
  | pinOut | pinIn | travel | jammed
deriving DecidableEq, Repr

/-- Control switch of a cabinet (R2). -/
inductive Switch where
  | remote | localDrive
deriving DecidableEq, Repr

/-- Reasons of EXCLUDED, in the order of the outcome vocabulary (R190). -/
inductive Reason where
  | disabled | unknown | lost | fault | manual | stowed | lockout
deriving DecidableEq, Repr

/-- The outcome vocabulary (chapter 3). -/
inductive MoveOutcome where
  | arrived | short | outOfLimits | excluded (r : Reason) | cancelled | preempted | halted | lockout | shed | lost
  | fault | driveRefused | cleared | localDrive
deriving DecidableEq, Repr

/-- The owner of a motion (R2). -/
inductive Owner where
  | group (n : Nat) | steer (n : Nat) | stow | snow
deriving DecidableEq, Repr

/-- Rest posture (R5). -/
inductive Posture where
  | held | pointed | parked
deriving DecidableEq, Repr

/-- Lockout status (R146). -/
inductive LockStatus where
  | unknown | pending | inForce | releasing | free
deriving DecidableEq, Repr

/-- Kind of a lockout entry (R144). -/
inductive LockKind where
  | motion | full
deriving DecidableEq, Repr

/-- State of a lockout entry (R144). -/
inductive LockState where
  | pending | inForce
deriving DecidableEq, Repr

/-- Release phase (R145). -/
inductive ReleasePhase where
  | none | waitRest | warning
deriving DecidableEq, Repr

/-- Lamp on a panel (R148). -/
inductive Lamp where
  | dark | flash | steady
deriving DecidableEq, Repr

/-- State of a heater channel (R129). -/
inductive HeaterState where
  | idle | offPhase | wait | starting | on | stopping | barred
deriving DecidableEq, Repr

/-- What a STOPPING channel goes on to (R129). -/
inductive AfterStop where
  | offPhase | newCycle
deriving DecidableEq, Repr

/-- Snow mode (R124). -/
inductive SnowMode where
  | off | on
deriving DecidableEq, Repr

/-- What last set the snow mode ON (R124). -/
inductive SnowSource where
  | command | auto
deriving DecidableEq, Repr

/-- Precipitation class; `dry` is NONE (R124). -/
inductive PrecipClass where
  | dry | light | moderate | heavy
deriving DecidableEq, Repr

/-- Step of an idle park (R141). -/
inductive ParkStep where
  | waitingPower | moving | braking
deriving DecidableEq, Repr

/-- Wrap mode of a target (R25). -/
inductive Wrap where
  | nearest | explicit
deriving DecidableEq, Repr

/-- Start mode of a group (R38). -/
inductive StartMode where
  | gang | stagger
deriving DecidableEq, Repr

/-- State of a group (R38). -/
inductive GroupState where
  | queued | active
deriving DecidableEq, Repr

/-- State of a steer (R51). -/
inductive SteerState where
  | queued | waitingRest | active
deriving DecidableEq, Repr

/-- Display state of a queue (R49). -/
inductive Display where
  | frozen | suspended | running | empty
deriving DecidableEq, Repr

/-- Class of a grant; none is an absent class (R63). -/
inductive GrantClass where
  | stow | ordinary | heat
deriving DecidableEq, Repr

/-- Hold of a grant (R63). -/
inductive Hold where
  | live | frozen | writtenOff
deriving DecidableEq, Repr

/-- State of the campaign (R102). -/
inductive CampState where
  | none | active | holding | calm | ending
deriving DecidableEq, Repr

/-- Status of a roster entry (R103). -/
inductive RosterStatus where
  | waitingRest | waitingPower | moving | pinning | braking | stowed | stowedNoPin | excluded (r : Reason) | halted
  | interrupted (o : MoveOutcome) | unpinning | unpinned | unpinFailed | locked
deriving DecidableEq, Repr

/-- Condition of a mast after its last frame (R86). -/
inductive Condition where
  | normal | degraded | noReading
deriving DecidableEq, Repr

/-- Notice flags (R179), in the order of their bits (R190). -/
inductive NoticeFlag where
  | stage | campaign | lockout | station | power | queue | snow | late | lostInput | lostReport
deriving DecidableEq, Repr

/-- Reply codes (R190). -/
inductive Code where
  | done | full | badArg | wrongLink | noSuch | state
deriving DecidableEq, Repr

/-- Rejection codes of a cabinet (R164). -/
inductive RejectCode where
  | fault | localDrive | limit | pin | heater
deriving DecidableEq, Repr

/-- Verdict of a status reply (R164). -/
inductive Verdict where
  | none | accepted | rejected (c : RejectCode)
deriving DecidableEq, Repr

/-- Kind of a plan (R23). -/
inductive PlanKind where
  | ordinary | stow | snow
deriving DecidableEq, Repr

/-- Order of the stages, CALM lowest. -/
def Stage.rank : Stage → Nat
  | .calm => 0
  | .breezy => 1
  | .high => 2
  | .stow => 3

/-- The stage an upper stage is. -/
def UpStage.stage : UpStage → Stage
  | .breezy => .breezy
  | .high => .high
  | .stow => .stow

/-- The upper stage that a stage is; CALM is none. -/
def Stage.up? : Stage → Option UpStage
  | .calm => none
  | .breezy => some .breezy
  | .high => some .high
  | .stow => some .stow

/-- The stage one lower (R98). -/
def Stage.below : Stage → Stage
  | .calm => .calm
  | .breezy => .calm
  | .high => .breezy
  | .stow => .high

/-- The conditions in which the part cannot command the dish: their entry and exit raise STATION (R18). -/
def Motion.isCondition : Motion → Bool
  | .disabled | .unknown | .lost | .fault | .manual => true
  | _ => false

/-- The resting states (chapter 1). -/
def Motion.isResting : Motion → Bool
  | .held | .pointed | .parked | .stowed => true
  | _ => false

/-- The states in which a station has a motion owner (R4). -/
def Motion.isOwned : Motion → Bool
  | .admitting | .slewing | .stowing => true
  | _ => false

/-- The states in which a station may have axis targets (R7). -/
def Motion.isMoving : Motion → Bool
  | .slewing | .stowing => true
  | _ => false

/-- The resting state that a rest posture names. -/
def Posture.motion : Posture → Motion
  | .held => .held
  | .pointed => .pointed
  | .parked => .parked

/-- The rest posture of a resting state from which a motion may wait (R5). -/
def Motion.posture? : Motion → Option Posture
  | .held => some .held
  | .pointed => some .pointed
  | .parked => some .parked
  | _ => none

/-- An axis in ACCEL, CRUISE or DECEL is moving. -/
def Phase.moving : Phase → Bool
  | .accel | .cruise | .decel => true
  | _ => false

/-- HOLDING or BRAKED. -/
def Phase.still (p : Phase) : Bool := !p.moving

/-- ARRIVED and SHORT count as arrivals (R4). -/
def MoveOutcome.isArrival : MoveOutcome → Bool
  | .arrived | .short => true
  | _ => false

/-- The campaign cause that a stage cause hands over (R104). -/
def StageCause.camp : StageCause → CampCause
  | .wind => .wind
  | .feed => .feed
  | .start => .start

/-- Which statuses are final in a campaign state (R103): UNPINNED, UNPIN_FAILED and LOCKED only in ENDING. -/
def RosterStatus.isFinal (c : CampState) : RosterStatus → Bool
  | .waitingRest | .waitingPower | .moving | .pinning | .braking | .unpinning => false
  | .stowed | .stowedNoPin | .excluded _ | .halted | .interrupted _ => true
  | .unpinned | .unpinFailed | .locked => decide (c = .ending)

/-- The statuses that end an ENDING (R120). -/
def RosterStatus.isReleased : RosterStatus → Bool
  | .unpinned | .unpinFailed | .locked => true
  | _ => false

/-- The statuses that R112 judges. -/
def RosterStatus.isRejoinable : RosterStatus → Bool
  | .excluded .unknown | .excluded .lost | .excluded .fault | .excluded .manual | .excluded .lockout => true
  | .interrupted .lockout => true
  | _ => false

/-- Bit of a notice flag in the notice flag bitmap (R190). -/
def NoticeFlag.bit : NoticeFlag → Fin 10
  | .stage => 0
  | .campaign => 1
  | .lockout => 2
  | .station => 3
  | .power => 4
  | .queue => 5
  | .snow => 6
  | .late => 7
  | .lostInput => 8
  | .lostReport => 9

end Sys2Proof.Machine
end

