-- ==== Sys2Proof/Machine/Params.lean ====
section
/-! DEFINITION. The configuration table: its parameters, their numbers, ranges and defaults (R181, R182, R190). -/

namespace Sys2Proof.Machine

/-- One value for each wind stage. -/
structure ByStage where
  calm : Nat
  breezy : Nat
  high : Nat
  stow : Nat
deriving DecidableEq, Repr

/-- One value for each upper stage. -/
structure Levels where
  breezy : Nat
  high : Nat
  stow : Nat
deriving DecidableEq, Repr

/-- One value for each precipitation class. -/
structure ByClass where
  dry : Nat
  light : Nat
  moderate : Nat
  heavy : Nat
deriving DecidableEq, Repr

/-- The configuration table (R182). -/
structure Params where
  arriveTol : Nat
  azMin : Int
  azMax : Int
  elLo : Int
  elHi : Int
  azVmax : Nat
  elVmax : Nat
  azAmax : Nat
  elAmax : Nat
  snowEl : Int
  derate : ByStage
  surcharge : ByStage
  azAccelP : Nat
  azRunP : Nat
  azHoldP : Nat
  elAccelP : Nat
  elRunP : Nat
  elHoldP : Nat
  feedCap : Nat
  stowReserve : Nat
  heatFloor : Nat
  localP : Nat
  heatPriority : Nat
  floor : ByStage
  riseMean : Levels
  riseGust : Levels
  fallMean : Levels
  fallGust : Levels
  dwell : Levels
  meanSpan : Nat
  gustSpan : Nat
  mastSilence : Nat
  minMasts : Nat
  mastEnable : BitVec 4
  stowDeadline : Nat
  autoSnow : Bool
  snowClass : Nat
  snowTemp : Int
  snowClear : Nat
  surfSet : Int
  heatGain : Nat
  dutyBase : ByClass
  stowedBonus : Nat
  dutyMin : Nat
  dutyMax : Nat
  heatPeriod : Nat
  heaterP : Nat
  snowIdle : Nat
  panelSilence : Nat
  warnTime : Nat
  replyTimeout : Nat
  missLimit : Nat
  pauseAt : Nat
  goAt : Nat
  maskS : BitVec 10
  maskO : BitVec 10
deriving DecidableEq, Repr

/-- A parameter of the table, with its stage or class where it has one. -/
inductive Param where
  | arriveTol | azMin | azMax | elLo | elHi | azVmax | elVmax | azAmax | elAmax | snowEl
  | derate (g : Stage) | surcharge (g : Stage)
  | azAccelP | azRunP | azHoldP | elAccelP | elRunP | elHoldP
  | feedCap | stowReserve | heatFloor | localP | heatPriority | floor (g : Stage)
  | riseMean (u : UpStage) | riseGust (u : UpStage) | fallMean (u : UpStage) | fallGust (u : UpStage)
  | dwell (u : UpStage)
  | meanSpan | gustSpan | mastSilence | minMasts | mastEnable | stowDeadline
  | autoSnow | snowClass | snowTemp | snowClear | surfSet | heatGain | dutyBase (c : PrecipClass) | stowedBonus
  | dutyMin | dutyMax | heatPeriod | heaterP | snowIdle | panelSilence | warnTime | replyTimeout | missLimit
  | pauseAt | goAt | maskS | maskO
deriving DecidableEq, Repr

/-- What SET and GET may name: a parameter, or a read-only item of the snow record (R181, R182). -/
inductive Item where
  | param (p : Param)
  | snowMode | snowSource | precipClass | airTemp
deriving DecidableEq, Repr

/-- The value for a stage. -/
def ByStage.at (v : ByStage) : Stage → Nat
  | .calm => v.calm
  | .breezy => v.breezy
  | .high => v.high
  | .stow => v.stow

/-- Writes the value for a stage. -/
def ByStage.put (v : ByStage) (n : Nat) : Stage → ByStage
  | .calm => { v with calm := n }
  | .breezy => { v with breezy := n }
  | .high => { v with high := n }
  | .stow => { v with stow := n }

/-- The value for an upper stage. -/
def Levels.at (v : Levels) : UpStage → Nat
  | .breezy => v.breezy
  | .high => v.high
  | .stow => v.stow

/-- Writes the value for an upper stage. -/
def Levels.put (v : Levels) (n : Nat) : UpStage → Levels
  | .breezy => { v with breezy := n }
  | .high => { v with high := n }
  | .stow => { v with stow := n }

/-- The value for a precipitation class. -/
def ByClass.at (v : ByClass) : PrecipClass → Nat
  | .dry => v.dry
  | .light => v.light
  | .moderate => v.moderate
  | .heavy => v.heavy

/-- Writes the value for a precipitation class. -/
def ByClass.put (v : ByClass) (n : Nat) : PrecipClass → ByClass
  | .dry => { v with dry := n }
  | .light => { v with light := n }
  | .moderate => { v with moderate := n }
  | .heavy => { v with heavy := n }

/-- The defaults, which every parameter holds after power-on reset (R182). -/
def Params.default : Params where
  arriveTol := 50
  azMin := -270000
  azMax := 270000
  elLo := 5000
  elHi := 90000
  azVmax := 3000
  elVmax := 1500
  azAmax := 1500
  elAmax := 800
  snowEl := 15000
  derate := ⟨100, 75, 50, 50⟩
  surcharge := ⟨0, 20, 40, 60⟩
  azAccelP := 300
  azRunP := 120
  azHoldP := 20
  elAccelP := 250
  elRunP := 100
  elHoldP := 20
  feedCap := 0
  stowReserve := 2000
  heatFloor := 0
  localP := 550
  heatPriority := 2
  floor := ⟨0, 0, 5, 7⟩
  riseMean := ⟨80, 120, 160⟩
  riseGust := ⟨120, 170, 220⟩
  fallMean := ⟨65, 100, 130⟩
  fallGust := ⟨100, 150, 190⟩
  dwell := ⟨60, 120, 1200⟩
  meanSpan := 60
  gustSpan := 3
  mastSilence := 5
  minMasts := 2
  mastEnable := 15
  stowDeadline := 600
  autoSnow := false
  snowClass := 1
  snowTemp := 20
  snowClear := 1800
  surfSet := 20
  heatGain := 5
  dutyBase := ⟨0, 20, 40, 60⟩
  stowedBonus := 15
  dutyMin := 10
  dutyMax := 90
  heatPeriod := 300
  heaterP := 150
  snowIdle := 300
  panelSilence := 5
  warnTime := 15
  replyTimeout := 10
  missLimit := 3
  pauseAt := 6
  goAt := 2
  maskS := 1023
  maskO := 1023

/-- The range of a parameter (R182); the two dependent ends are applied by `Params.taken`. -/
def Param.range : Param → Int × Int
  | .arriveTol => (1, 1000)
  | .azMin => (-270000, 0)
  | .azMax => (0, 270000)
  | .elLo => (0, 60000)
  | .elHi => (80000, 90000)
  | .azVmax => (1, 6000)
  | .elVmax => (1, 3000)
  | .azAmax => (1, 5000)
  | .elAmax => (1, 5000)
  | .snowEl => (5000, 60000)
  | .derate _ => (10, 100)
  | .surcharge _ => (0, 100)
  | .azAccelP => (0, 2000)
  | .azRunP => (0, 2000)
  | .azHoldP => (0, 2000)
  | .elAccelP => (0, 2000)
  | .elRunP => (0, 2000)
  | .elHoldP => (0, 2000)
  | .feedCap => (0, 40000)
  | .stowReserve => (0, 40000)
  | .heatFloor => (0, 40000)
  | .localP => (0, 2000)
  | .heatPriority => (0, 5)
  | .floor _ => (0, 7)
  | .riseMean _ => (1, 800)
  | .riseGust _ => (1, 800)
  | .fallMean _ => (0, 799)
  | .fallGust _ => (0, 799)
  | .dwell _ => (10, 3600)
  | .meanSpan => (10, 120)
  | .gustSpan => (1, 10)
  | .mastSilence => (2, 30)
  | .minMasts => (1, 4)
  | .mastEnable => (0, 15)
  | .stowDeadline => (60, 1800)
  | .autoSnow => (0, 1)
  | .snowClass => (1, 3)
  | .snowTemp => (-300, 50)
  | .snowClear => (60, 7200)
  | .surfSet => (-100, 100)
  | .heatGain => (0, 20)
  | .dutyBase _ => (0, 100)
  | .stowedBonus => (0, 50)
  | .dutyMin => (0, 100)
  | .dutyMax => (0, 100)
  | .heatPeriod => (60, 1800)
  | .heaterP => (0, 2000)
  | .snowIdle => (60, 3600)
  | .panelSilence => (2, 20)
  | .warnTime => (5, 120)
  | .replyTimeout => (2, 50)
  | .missLimit => (1, 15)
  | .pauseAt => (2, 8)
  | .goAt => (0, 7)
  | .maskS => (0, 1023)
  | .maskO => (0, 1023)

/-- The value a parameter holds; a set as its bitmap (R190), AUTO_SNOW as 0 or 1. -/
def Params.get (c : Params) : Param → Int
  | .arriveTol => c.arriveTol
  | .azMin => c.azMin
  | .azMax => c.azMax
  | .elLo => c.elLo
  | .elHi => c.elHi
  | .azVmax => c.azVmax
  | .elVmax => c.elVmax
  | .azAmax => c.azAmax
  | .elAmax => c.elAmax
  | .snowEl => c.snowEl
  | .derate g => c.derate.at g
  | .surcharge g => c.surcharge.at g
  | .azAccelP => c.azAccelP
  | .azRunP => c.azRunP
  | .azHoldP => c.azHoldP
  | .elAccelP => c.elAccelP
  | .elRunP => c.elRunP
  | .elHoldP => c.elHoldP
  | .feedCap => c.feedCap
  | .stowReserve => c.stowReserve
  | .heatFloor => c.heatFloor
  | .localP => c.localP
  | .heatPriority => c.heatPriority
  | .floor g => c.floor.at g
  | .riseMean u => c.riseMean.at u
  | .riseGust u => c.riseGust.at u
  | .fallMean u => c.fallMean.at u
  | .fallGust u => c.fallGust.at u
  | .dwell u => c.dwell.at u
  | .meanSpan => c.meanSpan
  | .gustSpan => c.gustSpan
  | .mastSilence => c.mastSilence
  | .minMasts => c.minMasts
  | .mastEnable => c.mastEnable.toNat
  | .stowDeadline => c.stowDeadline
  | .autoSnow => if c.autoSnow then 1 else 0
  | .snowClass => c.snowClass
  | .snowTemp => c.snowTemp
  | .snowClear => c.snowClear
  | .surfSet => c.surfSet
  | .heatGain => c.heatGain
  | .dutyBase k => c.dutyBase.at k
  | .stowedBonus => c.stowedBonus
  | .dutyMin => c.dutyMin
  | .dutyMax => c.dutyMax
  | .heatPeriod => c.heatPeriod
  | .heaterP => c.heaterP
  | .snowIdle => c.snowIdle
  | .panelSilence => c.panelSilence
  | .warnTime => c.warnTime
  | .replyTimeout => c.replyTimeout
  | .missLimit => c.missLimit
  | .pauseAt => c.pauseAt
  | .goAt => c.goAt
  | .maskS => c.maskS.toNat
  | .maskO => c.maskO.toNat

/-- Writes a value that has been taken; the other parameters stay. -/
def Params.put (c : Params) (p : Param) (v : Int) : Params :=
  let n := v.toNat
  match p with
  | .arriveTol => { c with arriveTol := n }
  | .azMin => { c with azMin := v }
  | .azMax => { c with azMax := v }
  | .elLo => { c with elLo := v }
  | .elHi => { c with elHi := v }
  | .azVmax => { c with azVmax := n }
  | .elVmax => { c with elVmax := n }
  | .azAmax => { c with azAmax := n }
  | .elAmax => { c with elAmax := n }
  | .snowEl => { c with snowEl := v }
  | .derate g => { c with derate := c.derate.put n g }
  | .surcharge g => { c with surcharge := c.surcharge.put n g }
  | .azAccelP => { c with azAccelP := n }
  | .azRunP => { c with azRunP := n }
  | .azHoldP => { c with azHoldP := n }
  | .elAccelP => { c with elAccelP := n }
  | .elRunP => { c with elRunP := n }
  | .elHoldP => { c with elHoldP := n }
  | .feedCap => { c with feedCap := n }
  | .stowReserve => { c with stowReserve := n }
  | .heatFloor => { c with heatFloor := n }
  | .localP => { c with localP := n }
  | .heatPriority => { c with heatPriority := n }
  | .floor g => { c with floor := c.floor.put n g }
  | .riseMean u => { c with riseMean := c.riseMean.put n u }
  | .riseGust u => { c with riseGust := c.riseGust.put n u }
  | .fallMean u => { c with fallMean := c.fallMean.put n u }
  | .fallGust u => { c with fallGust := c.fallGust.put n u }
  | .dwell u => { c with dwell := c.dwell.put n u }
  | .meanSpan => { c with meanSpan := n }
  | .gustSpan => { c with gustSpan := n }
  | .mastSilence => { c with mastSilence := n }
  | .minMasts => { c with minMasts := n }
  | .mastEnable => { c with mastEnable := BitVec.ofNat 4 n }
  | .stowDeadline => { c with stowDeadline := n }
  | .autoSnow => { c with autoSnow := decide (v ≠ 0) }
  | .snowClass => { c with snowClass := n }
  | .snowTemp => { c with snowTemp := v }
  | .snowClear => { c with snowClear := n }
  | .surfSet => { c with surfSet := v }
  | .heatGain => { c with heatGain := n }
  | .dutyBase k => { c with dutyBase := c.dutyBase.put n k }
  | .stowedBonus => { c with stowedBonus := n }
  | .dutyMin => { c with dutyMin := n }
  | .dutyMax => { c with dutyMax := n }
  | .heatPeriod => { c with heatPeriod := n }
  | .heaterP => { c with heaterP := n }
  | .snowIdle => { c with snowIdle := n }
  | .panelSilence => { c with panelSilence := n }
  | .warnTime => { c with warnTime := n }
  | .replyTimeout => { c with replyTimeout := n }
  | .missLimit => { c with missLimit := n }
  | .pauseAt => { c with pauseAt := n }
  | .goAt => { c with goAt := n }
  | .maskS => { c with maskS := BitVec.ofNat 10 n }
  | .maskO => { c with maskO := BitVec.ofNat 10 n }

/-- The nearer end for a value outside the range (R181). -/
def clampInt (r : Int × Int) (v : Int) : Int := max r.1 (min r.2 v)

/-- The value a SET takes (R181): members of a set that do not exist are dropped, AUTO_SNOW is 0 or not, a number is
clamped to its range, GO_AT below PAUSE_AT and a fall level below its rise level (R99). -/
def Params.taken (c : Params) (p : Param) (v : Int) : Int :=
  match p with
  | .mastEnable => v % 16
  | .maskS => v % 1024
  | .maskO => v % 1024
  | .autoSnow => if v = 0 then 0 else 1
  | .goAt => clampInt (0, (c.pauseAt : Int) - 1) v
  | .fallMean u => min (clampInt p.range v) ((c.riseMean.at u : Int) - 1)
  | .fallGust u => min (clampInt p.range v) ((c.riseGust.at u : Int) - 1)
  | _ => clampInt p.range v

/-- The dependent parameter that a SET may lower, and the highest value it may keep (R99, R181). -/
def Param.dependent (p : Param) (t : Int) : Option (Param × Int) :=
  match p with
  | .pauseAt => some (.goAt, t - 1)
  | .riseMean u => some (.fallMean u, t - 1)
  | .riseGust u => some (.fallGust u, t - 1)
  | _ => none

/-- The dependent parameter and its lowered value, where the SET lowers it (R99, R181). -/
def Params.lowered (c : Params) (p : Param) (t : Int) : Option (Param × Int) :=
  match p.dependent t with
  | some (q, top) => if top < c.get q then some (q, top) else none
  | none => none

/-- Writes a taken value and lowers its dependent parameter (R181). -/
def Params.assign (c : Params) (p : Param) (t : Int) : Params :=
  match c.lowered p t with
  | some (q, top) => (c.put p t).put q top
  | none => c.put p t

/-- The limits, velocities and accelerations, refused with STATE while a station is busy (R22, R181). -/
def Param.isLimit : Param → Bool
  | .azMin | .azMax | .elLo | .elHi | .azVmax | .elVmax | .azAmax | .elAmax => true
  | _ => false

/-- Stage of an index byte (R190). -/
def stageOf (n : Nat) : Option Stage :=
  match n with
  | 0 => some .calm
  | 1 => some .breezy
  | 2 => some .high
  | 3 => some .stow
  | _ => none

/-- Upper stage of an index byte; index 0 names none (R190). -/
def upStageOf (n : Nat) : Option UpStage := (stageOf n).bind Stage.up?

/-- Precipitation class of a code (R190). -/
def classOf (n : Nat) : Option PrecipClass :=
  match n with
  | 0 => some .dry
  | 1 => some .light
  | 2 => some .moderate
  | 3 => some .heavy
  | _ => none

/-- A parameter that has one value, named by index 0 only (R190). -/
def plainItem (p : Param) (idx : Nat) : Option Item := if idx = 0 then some (.param p) else none

/-- The item a parameter number and an index name (R190): numbers run from 1 in the order of the gathered table. -/
def itemOf (num idx : Nat) : Option Item :=
  match num with
  | 1 => plainItem .arriveTol idx
  | 2 => plainItem .azMin idx
  | 3 => plainItem .azMax idx
  | 4 => plainItem .elLo idx
  | 5 => plainItem .elHi idx
  | 6 => plainItem .azVmax idx
  | 7 => plainItem .elVmax idx
  | 8 => plainItem .azAmax idx
  | 9 => plainItem .elAmax idx
  | 10 => plainItem .snowEl idx
  | 11 => (stageOf idx).map fun g => .param (.derate g)
  | 12 => (stageOf idx).map fun g => .param (.surcharge g)
  | 13 => plainItem .azAccelP idx
  | 14 => plainItem .azRunP idx
  | 15 => plainItem .azHoldP idx
  | 16 => plainItem .elAccelP idx
  | 17 => plainItem .elRunP idx
  | 18 => plainItem .elHoldP idx
  | 19 => plainItem .feedCap idx
  | 20 => plainItem .stowReserve idx
  | 21 => plainItem .heatFloor idx
  | 22 => plainItem .localP idx
  | 23 => plainItem .heatPriority idx
  | 24 => (stageOf idx).map fun g => .param (.floor g)
  | 25 => (upStageOf idx).map fun u => .param (.riseMean u)
  | 26 => (upStageOf idx).map fun u => .param (.riseGust u)
  | 27 => (upStageOf idx).map fun u => .param (.fallMean u)
  | 28 => (upStageOf idx).map fun u => .param (.fallGust u)
  | 29 => (upStageOf idx).map fun u => .param (.dwell u)
  | 30 => plainItem .meanSpan idx
  | 31 => plainItem .gustSpan idx
  | 32 => plainItem .mastSilence idx
  | 33 => plainItem .minMasts idx
  | 34 => plainItem .mastEnable idx
  | 35 => plainItem .stowDeadline idx
  | 36 => plainItem .autoSnow idx
  | 37 => plainItem .snowClass idx
  | 38 => plainItem .snowTemp idx
  | 39 => plainItem .snowClear idx
  | 40 => plainItem .surfSet idx
  | 41 => plainItem .heatGain idx
  | 42 => (classOf idx).map fun k => .param (.dutyBase k)
  | 43 => plainItem .stowedBonus idx
  | 44 => plainItem .dutyMin idx
  | 45 => plainItem .dutyMax idx
  | 46 => plainItem .heatPeriod idx
  | 47 => plainItem .heaterP idx
  | 48 => plainItem .snowIdle idx
  | 49 => plainItem .panelSilence idx
  | 50 => plainItem .warnTime idx
  | 51 => plainItem .replyTimeout idx
  | 52 => plainItem .missLimit idx
  | 53 => plainItem .pauseAt idx
  | 54 => plainItem .goAt idx
  | 55 => plainItem .maskS idx
  | 56 => plainItem .maskO idx
  | 57 => if idx = 0 then some .snowMode else none
  | 58 => if idx = 0 then some .snowSource else none
  | 59 => if idx = 0 then some .precipClass else none
  | 60 => if idx = 0 then some .airTemp else none
  | _ => none

end Sys2Proof.Machine
end

