-- ==== Sys2Proof/Machine/Planner.lean ====
section
/-! DEFINITION. The slew planner: elevation, azimuth wrap, profile, duration and prices of one plan (R23 to R36). -/

namespace Sys2Proof.Machine

/-- The target of a group or a steer as its request carried it (R25). -/
structure Target where
  el : Int
  az : Int
  wrap : Wrap
deriving DecidableEq, Repr

/-- The phase parameters that prices are worked from (R22, R33). -/
structure PhaseParams where
  azHold : Nat
  azAccel : Nat
  azRun : Nat
  elHold : Nat
  elAccel : Nat
  elRun : Nat
deriving DecidableEq, Repr

/-- Phase prices of a moved axis (R33). -/
structure Prices where
  holding : Nat
  accel : Nat
  cruise : Nat
  decel : Nat
deriving DecidableEq, Repr

/-- What a plan holds for an axis that it moves (R23). -/
structure AxisMove where
  target : Int
  vel : Nat
  acc : Nat
  dur : Nat
  prices : Prices
deriving DecidableEq, Repr

/-- One axis of a plan: absent move fields for an axis whose distance is 0 (R29). -/
structure AxisPlan where
  start : Int
  dist : Nat
  move : Option AxisMove
deriving DecidableEq, Repr

/-- A plan whose result is PLANNED (R23). The cap is kept for the re-plan (R36), the phase parameters for the prices of the admitted
motion, on either axis (R22, R33). -/
structure Plan where
  station : Stn
  kind : PlanKind
  wrap : Option Wrap
  cap : Option Nat
  stage : Stage
  az : AxisPlan
  el : AxisPlan
  duration : Nat
  surcharge : Nat
  phaseP : PhaseParams
  amount : Nat
deriving DecidableEq, Repr

/-- Axis of a station. -/
inductive Axis where
  | az | el
deriving DecidableEq, Repr

/-- VMAX of an axis (R31). -/
def Params.vmax (c : Params) : Axis → Nat
  | .az => c.azVmax
  | .el => c.elVmax

/-- AMAX of an axis (R31). -/
def Params.amax (c : Params) : Axis → Nat
  | .az => c.azAmax
  | .el => c.elAmax

/-- The phase parameters as they stand (R33). -/
def Params.phaseP (c : Params) : PhaseParams where
  azHold := c.azHoldP
  azAccel := c.azAccelP
  azRun := c.azRunP
  elHold := c.elHoldP
  elAccel := c.elAccelP
  elRun := c.elRunP

/-- The phase parameter P of an axis; BRAKED has none and costs 0 (R33). -/
def PhaseParams.of (q : PhaseParams) : Axis → Phase → Nat
  | _, .braked => 0
  | .az, .holding => q.azHold
  | .az, .accel => q.azAccel
  | .az, .cruise => q.azRun
  | .az, .decel => q.azRun
  | .el, .holding => q.elHold
  | .el, .accel => q.elAccel
  | .el, .cruise => q.elRun
  | .el, .decel => q.elRun

/-- Ceiling of a quotient. -/
def ceilDiv (n d : Nat) : Nat := (n + d - 1) / d

/-- Price of a phase of an axis at a surcharge: the ceiling of P × (100 + s) / 100 (R33). -/
def phasePrice (q : PhaseParams) (x : Axis) (p : Phase) (s : Nat) : Nat := ceilDiv (q.of x p * (100 + s)) 100

/-- Velocity of a moved axis: capped, derated and raised to 1 (R31). -/
def velocity (vmax : Nat) (cap : Option Nat) (derate : Nat) : Nat :=
  let base := match cap with
    | some k => if k < vmax then k else vmax
    | none => vmax
  max 1 (base * derate / 100)

/-- Integer square root, one bit at a time from bit `b` down. -/
def sqrtFrom (n : Nat) : Nat → Nat → Nat
  | 0, r => if (r + 1) * (r + 1) ≤ n then r + 1 else r
  | b + 1, r =>
    let r' := r + 2 ^ (b + 1)
    sqrtFrom n b (if r' * r' ≤ n then r' else r)

/-- The smallest whole number whose square is at least n. -/
def ceilSqrt (n : Nat) : Nat :=
  let r := sqrtFrom n (n.log2 / 2 + 1) 0
  if r * r < n then r + 1 else r

/-- Duration in ms of a moved axis: trapezoidal when d × a ≥ v × v, triangular otherwise (R32). -/
def duration (d v a : Nat) : Nat :=
  if v * v ≤ d * a then ceilDiv (1000 * (d * a + v * v)) (v * a)
  else ceilSqrt (ceilDiv (4000000 * d) a)

/-- The four prices of a moved axis (R33). -/
def pricesOf (q : PhaseParams) (x : Axis) (s : Nat) : Prices where
  holding := phasePrice q x .holding s
  accel := phasePrice q x .accel s
  cruise := phasePrice q x .cruise s
  decel := phasePrice q x .decel s

/-- One axis of a plan from its start and its target (R29, R31 to R33). -/
def planAxis (c : Params) (x : Axis) (g : Stage) (cap : Option Nat) (start target : Int) : AxisPlan :=
  let d := (target - start).natAbs
  if d = 0 then { start := start, dist := 0, move := none }
  else
    let v := velocity (c.vmax x) cap (c.derate.at g)
    let a := c.amax x
    { start := start, dist := d,
      move := some { target := target, vel := v, acc := a, dur := duration d v a,
                     prices := pricesOf c.phaseP x (c.surcharge.at g) } }

/-- Duration of an axis toward the slew duration: 0 for one that is not moved (R29, R32). -/
def AxisPlan.dur (a : AxisPlan) : Nat :=
  match a.move with
  | some m => m.dur
  | none => 0

/-- ACCEL price of an axis toward the admission amount (R34). -/
def AxisPlan.accelPrice (a : AxisPlan) : Nat :=
  match a.move with
  | some m => m.prices.accel
  | none => 0

/-- A plan from the start and target of both axes (R23, R34). -/
def makePlan (c : Params) (i : Stn) (k : PlanKind) (w : Option Wrap) (cap : Option Nat) (g : Stage)
    (azStart azTarget elStart elTarget : Int) : Plan :=
  let az := planAxis c .az g cap azStart azTarget
  let el := planAxis c .el g cap elStart elTarget
  { station := i, kind := k, wrap := w, cap := cap, stage := g, az := az, el := el,
    duration := max az.dur el.dur, surcharge := c.surcharge.at g, phaseP := c.phaseP,
    amount := az.accelPrice + el.accelPrice }

/-- A plan that moves neither axis (R30). -/
def Plan.isNull (p : Plan) : Bool := p.az.move.isNone && p.el.move.isNone

/-- Whether candidate a is chosen before candidate b from this start: distance, magnitude, sign (R28). -/
def wrapBefore (start a b : Int) : Bool :=
  let da := (a - start).natAbs
  let db := (b - start).natAbs
  if da ≠ db then decide (da < db)
  else if a.natAbs ≠ b.natAbs then decide (a.natAbs < b.natAbs)
  else decide (b ≤ a)

/-- The candidates of a sky azimuth within the limits (R28). -/
def wrapCandidates (c : Params) (sky : Int) : List Int :=
  [sky, sky - 360000].filter fun a => decide (c.azMin ≤ a) && decide (a ≤ c.azMax)

/-- The wrap chosen for a sky azimuth, if any lies within the limits (R28). -/
def chooseWrap (c : Params) (start sky : Int) : Option Int :=
  match wrapCandidates c sky with
  | [] => none
  | [a] => some a
  | a :: b :: _ => some (if wrapBefore start a b then a else b)

/-- The target azimuth of an ORDINARY plan (R27, R28). -/
def targetAz (c : Params) (start : Int) (t : Target) : Option Int :=
  match t.wrap with
  | .explicit => if c.azMin ≤ t.az ∧ t.az ≤ c.azMax then some t.az else none
  | .nearest => chooseWrap c start t.az

/-- An ORDINARY plan; none is OUT_OF_LIMITS (R26 to R28). -/
def planOrdinary (c : Params) (i : Stn) (g : Stage) (azStart elStart : Int) (t : Target) (cap : Option Nat) :
    Option Plan :=
  if c.elLo ≤ t.el ∧ t.el ≤ c.elHi then
    (targetAz c azStart t).map fun a => makePlan c i .ordinary (some t.wrap) cap g azStart a elStart t.el
  else none

/-- The elevation of the stow posture (R26). -/
def zenith : Int := 90000

/-- A STOW plan, which no limit refuses (R26, R27). -/
def planStow (c : Params) (i : Stn) (g : Stage) (azStart elStart : Int) : Plan :=
  makePlan c i .stow none none g azStart azStart elStart zenith

/-- A SNOW plan, to SNOW_EL clamped into EL_LO..EL_HI (R26, R27). -/
def planSnow (c : Params) (i : Stn) (g : Stage) (azStart elStart : Int) : Plan :=
  makePlan c i .snow none none g azStart azStart elStart (max c.elLo (min c.elHi c.snowEl))

/-- Re-plans an axis at a stage: start, target and distance are kept (R36). -/
def replanAxis (c : Params) (x : Axis) (g : Stage) (cap : Option Nat) (a : AxisPlan) : AxisPlan :=
  match a.move with
  | none => a
  | some m =>
    let v := velocity (c.vmax x) cap (c.derate.at g)
    { a with move := some { target := m.target, vel := v, acc := c.amax x, dur := duration a.dist v (c.amax x),
                            prices := pricesOf c.phaseP x (c.surcharge.at g) } }

/-- Re-plans a waiting plan at a stage (R36). -/
def replan (c : Params) (g : Stage) (p : Plan) : Plan :=
  let az := replanAxis c .az g p.cap p.az
  let el := replanAxis c .el g p.cap p.el
  { p with stage := g, az := az, el := el, duration := max az.dur el.dur, surcharge := c.surcharge.at g,
           phaseP := c.phaseP, amount := az.accelPrice + el.accelPrice }

end Sys2Proof.Machine
end

