-- ==== Sys2Proof/Machine/State.lean ====
section
/-! DEFINITION. The state of the coordinator as plain data, block by block, and its value after power-on reset.
A time is kept as the count of milliseconds since the reset (log entry 1); site time is that count modulo 2^32. -/

namespace Sys2Proof.Machine

/-- One axis of a station record (R2). -/
structure AxisRec where
  pos : Option Int
  phase : Option Phase
  target : Option Int
  fault : Option Nat
deriving DecidableEq, Repr

/-- A station record (R2). The two mirrors are read from the records they copy. -/
structure Station where
  enabled : Bool
  motion : Motion
  owner : Option Owner
  posture : Option Posture
  idleSince : Option Nat
  az : AxisRec
  el : AxisRec
  pin : Option Pin
  switch : Option Switch
  temp : Option Int
deriving DecidableEq, Repr

/-- A scheduler group (R38): its station set is the stations of its members, in ascending number. -/
structure Group where
  number : Nat
  state : GroupState
  members : List (Stn × Option MoveOutcome)
  target : Target
  cap : Option Nat
  prio : Nat
  mode : StartMode
  hold : Bool
deriving DecidableEq, Repr

/-- The scheduler queue (R38). -/
structure SchedQueue where
  groups : List Group
  suspended : Bool
  next : Nat
deriving DecidableEq, Repr

/-- An operator steer (R51). -/
structure Steer where
  number : Nat
  station : Stn
  target : Target
  cap : Option Nat
  state : SteerState
  outcome : Option MoveOutcome
deriving DecidableEq, Repr

/-- The operator queue (R51). -/
structure OperQueue where
  steers : List Steer
  next : Nat
deriving DecidableEq, Repr

/-- A record of the grant table (R63). A motion grant that an admission gave also keeps the phase parameters of its plan, from which
its prices are worked until it ends (R22, R37, log entry 12). -/
structure Grant where
  cls : Option GrantClass
  amount : Nat
  surcharge : Option Nat
  phaseP : Option PhaseParams
  seq : Option (BitVec 32)
  hold : Hold
  shed : Bool
  awaiting : Bool
  localRes : Bool
deriving DecidableEq, Repr

/-- What an admission entry waits for: motion consumers with their plans (a GANG when `gang` is set, in ascending
station number), or one heater consumer (R69). -/
inductive Waiting where
  | motion (gang : Bool) (plans : List Plan)
  | heater (i : Stn)
deriving DecidableEq, Repr

/-- An admission entry (R69). Its increase and stow duration are worked out when it is considered (R70). -/
structure Entry where
  body : Waiting
  cls : GrantClass
  prio : Nat
  seq : BitVec 32
deriving DecidableEq, Repr

/-- The power allocator (R60, R63, R69, R78); FEED_CAP, STOW_RESERVE and HEAT_FLOOR stand in the configuration. -/
structure Power where
  feedLimit : Nat
  motion : Vector Grant 32
  heat : Vector Grant 32
  list : List Entry
  arrival : BitVec 32
  admission : BitVec 32
  deficit : Bool
deriving DecidableEq, Repr

/-- A sample of a mast ring (R89). -/
structure Sample where
  value : Nat
  time : Nat
deriving DecidableEq, Repr

/-- A mast record (R86), oldest sample first; its last valid time is the time of its newest sample. `silence` is its silence expiry while
that event is to come (R91). -/
structure Mast where
  ring : List Sample
  lastFrame : Option Nat
  valid : Option Nat
  condition : Option Condition
  live : Bool
  mean : Option Nat
  gust : Option Nat
  silence : Option Nat
deriving DecidableEq, Repr

/-- A running dwell (R93). -/
structure Dwell where
  start : Nat
  expiry : Nat
deriving DecidableEq, Repr

/-- The wind monitor (R86, R93). `lapsed` is the model's own: the dwell expiry of this site time is still to be taken, though an earlier
evaluation has stopped the dwell (R94, log entry 46). -/
structure Wind where
  masts : Vector Mast 4
  stage : Stage
  cause : StageCause
  hold : Bool
  short : Bool
  siteMean : Option Nat
  siteGust : Option Nat
  dwell : Option Dwell
  lapsed : Bool
  changed : Nat
deriving DecidableEq, Repr

/-- A roster entry (R103). -/
structure RosterEntry where
  station : Stn
  status : RosterStatus
  outcome : Option MoveOutcome
  noPin : Bool
  stowDur : Option Nat
deriving DecidableEq, Repr

/-- The campaign record (R102); the also-causes hold no repeats, the roster is in ascending station number. -/
structure Campaign where
  state : CampState
  cause : Option CampCause
  also : List CampCause
  start : Option Nat
  deadline : Option Nat
  late : Bool
  roster : List RosterEntry
deriving DecidableEq, Repr

/-- A heater channel (R129); lengths in seconds. -/
structure Channel where
  state : HeaterState
  onLen : Option Nat
  offLen : Option Nat
  timer : Option Nat
  after : Option AfterStop
deriving DecidableEq, Repr

/-- The snow melt controller (R124, R129, R140, R141). -/
structure Snow where
  mode : SnowMode
  source : Option SnowSource
  cls : Option PrecipClass
  air : Option Int
  auto : Bool
  clearTimer : Option Nat
  channels : Vector Channel 32
  park : Vector (Option ParkStep) 32
  idleExpiry : Vector (Option Nat) 32
deriving DecidableEq, Repr

/-- A lockout entry (R144). -/
structure LockEntry where
  holder : Nat
  kind : LockKind
  state : LockState
  taken : Nat
deriving DecidableEq, Repr

/-- The lockout list, panel record and release record of a station (R144, R145): slots K1..K4, C1, C2. -/
structure LockRec where
  slots : Vector (Option LockEntry) 6
  lOcc : Bool
  known : Bool
  lastGood : Option Nat
  silence : Option Nat
  phase : ReleasePhase
  warnExp : Option Nat
  status : LockStatus
deriving DecidableEq, Repr

/-- The lamp states that a LAMPS frame carries (R148). -/
structure Lamps where
  slots : List Lamp
  l : Lamp
  horn : Bool
deriving DecidableEq, Repr

/-- A panel visit in progress; `void` after a DISABLE of its station (R147, R148). -/
structure PanelVisit where
  station : Stn
  lamps : Lamps
  start : Nat
  timeout : Nat
  void : Bool
deriving DecidableEq, Repr

/-- The lockout manager. -/
structure Locks where
  recs : Vector LockRec 32
  visit : Option PanelVisit
deriving DecidableEq, Repr

/-- What a MOVE asks of a moved axis (R163). -/
structure AxisOrder where
  target : Int
  vel : Nat
  acc : Nat
deriving DecidableEq, Repr

/-- A MOVE with its origin posture (R159, R163); an axis without an order is "no move". -/
structure Move where
  az : Option AxisOrder
  el : Option AxisOrder
  origin : Posture
deriving DecidableEq, Repr

/-- Commands of the motion slot (R159). -/
inductive MotionCmd where
  | move (m : Move) | stop | brake
deriving DecidableEq, Repr

/-- Commands of the pin slot (R159). -/
inductive PinCmd where
  | pinIn | pinOut
deriving DecidableEq, Repr

/-- Commands of the heater slot (R159). -/
inductive HeatCmd where
  | heatOn | heatOff
deriving DecidableEq, Repr

/-- What a visit sends (R161). -/
inductive Sent where
  | poll | motion (c : MotionCmd) | pin (c : PinCmd) | heat (c : HeatCmd)
deriving DecidableEq, Repr

/-- The outstanding command with its return mark (R159, R166). -/
structure Outstanding where
  cmd : Sent
  mark : Bool
deriving DecidableEq, Repr

/-- One axis of a cabinet status (R164). -/
structure AxisStatus where
  pos : Int
  phase : Phase
  fault : Nat
deriving DecidableEq, Repr

/-- The status contents of a reply (R164). -/
structure CabStatus where
  az : AxisStatus
  el : AxisStatus
  pin : Pin
  switch : Switch
  closed : Bool
  temp : Option Int
deriving DecidableEq, Repr

/-- The last status of a cabinet with its arrival time (R159). -/
structure LastStatus where
  status : CabStatus
  time : Nat
deriving DecidableEq, Repr

/-- A cabinet record (R159). A `Taken` flag says that the command last placed in that slot has been ACCEPTED, which
the jobs' rules ask for before they judge a reply (R16, R108 to R110, R119, R132, R134, R141). -/
structure Cabinet where
  inCycle : Bool
  motion : Option MotionCmd
  pin : Option PinCmd
  heat : Option HeatCmd
  outstanding : Option Outstanding
  motionTaken : Bool
  pinTaken : Bool
  heatTaken : Bool
  misses : Nat
  last : Option LastStatus
deriving DecidableEq, Repr

/-- A drive-bus visit in progress; `void` after a DISABLE of its station (R159, R160). -/
structure BusVisit where
  station : Stn
  start : Nat
  timeout : Nat
  void : Bool
deriving DecidableEq, Repr

/-- The drive bus controller. -/
structure Bus where
  cabs : Vector Cabinet 32
  visit : Option BusVisit
deriving DecidableEq, Repr

/-- A frame without its delimiter, LEN and check (R187). -/
structure Frame where
  kind : Byte
  tag : Byte
  payload : List Byte
deriving DecidableEq, Repr

/-- A searching receiver (R173): SEARCHING or COLLECTING, and the bytes it holds. In COLLECTING the first byte held
is LEN. -/
structure Receiver where
  collecting : Bool
  held : List Byte
deriving DecidableEq, Repr

/-- A control link: receiver, input FIFO, paused flag, transmit order, frame being sent and notice flags. The
outbound report queue is the reports among the frames waiting or being sent (R178). -/
structure LinkState where
  rx : Receiver
  fifo : List Frame
  paused : Bool
  order : List Frame
  sending : Option Frame
  flags : BitVec 10
deriving DecidableEq, Repr

/-- The counters of a station (R184). -/
structure StnStats where
  arrivals : Nat
  otherEndings : Nat
  stows : Nat
  onPhases : Nat
  cuts : Nat
  misses : Nat
  lockouts : Nat
  losses : Nat
deriving DecidableEq, Repr

/-- The counters of a line; the site line leaves the last two at 0 (R184). -/
structure LineStats where
  good : Nat
  bad : Nat
  dropped : Nat
  reports : Nat
deriving DecidableEq, Repr

/-- The statistics block (R184). -/
structure Stats where
  stn : Vector StnStats 32
  admissions : Nat
  sheds : Nat
  deficits : Nat
  lineS : LineStats
  lineO : LineStats
  site : LineStats
deriving DecidableEq, Repr

/-- The whole state. `choices` counts the free choices taken so far and `pending` is the queue of the commands that
wait: both are the model's own. -/
structure State where
  clock : Nat
  cfg : Params
  stns : Vector Station 32
  sched : SchedQueue
  oper : OperQueue
  power : Power
  wind : Wind
  camp : Campaign
  snow : Snow
  locks : Locks
  bus : Bus
  linkS : LinkState
  linkO : LinkState
  site : Receiver
  stats : Stats
  choices : Nat
  pending : List Instr
deriving DecidableEq, Repr

/-- Reasons to stop with a fault: every command of this block has its effect in every state, so nothing raises one;
the constructor is only there so that the type can be named. Safe. -/
inductive Fault where
  /-- Raised by nothing. -/
  | unreachable
deriving DecidableEq, Repr

/-- Reasons to refuse a command. -/
inductive Refusal where
  /-- A command without a meaning yet, by its mnemonic: raised only by an arm of exec. Safe. -/
  | notModelled (mnemonic : String)
deriving DecidableEq, Repr

/-- An axis record with every field absent (R20). -/
def AxisRec.absent : AxisRec := { pos := none, phase := none, target := none, fault := none }

/-- A station after reset: not enabled, DISABLED, all else absent (R20). -/
def Station.reset : Station where
  enabled := false
  motion := .disabled
  owner := none
  posture := none
  idleSince := none
  az := AxisRec.absent
  el := AxisRec.absent
  pin := none
  switch := none
  temp := none

/-- A grant after reset: amount 0, class none, LIVE, the flags at no (R63). -/
def Grant.reset : Grant where
  cls := none
  amount := 0
  surcharge := none
  phaseP := none
  seq := none
  hold := .live
  shed := false
  awaiting := false
  localRes := false

/-- A mast after reset: empty ring, all else absent or no (R86). -/
def Mast.reset : Mast where
  ring := []
  lastFrame := none
  valid := none
  condition := none
  live := false
  mean := none
  gust := none
  silence := none

/-- A heater channel after reset: BARRED (R129). -/
def Channel.reset : Channel where
  state := .barred
  onLen := none
  offLen := none
  timer := none
  after := none

/-- Lockout records after reset: every slot empty, panel and status UNKNOWN (R144, R145). -/
def LockRec.reset : LockRec where
  slots := Vector.replicate 6 none
  lOcc := false
  known := false
  lastGood := none
  silence := none
  phase := .none
  warnExp := none
  status := .unknown

/-- A cabinet record after reset (R159). -/
def Cabinet.reset : Cabinet where
  inCycle := false
  motion := none
  pin := none
  heat := none
  outstanding := none
  motionTaken := false
  pinTaken := false
  heatTaken := false
  misses := 0
  last := none

/-- A receiver after reset: SEARCHING with no bytes held (R173). -/
def Receiver.reset : Receiver := { collecting := false, held := [] }

/-- A control link after reset (R186). -/
def LinkState.reset : LinkState where
  rx := Receiver.reset
  fifo := []
  paused := false
  order := []
  sending := none
  flags := 0

/-- Station counters after reset (R184). -/
def StnStats.reset : StnStats where
  arrivals := 0
  otherEndings := 0
  stows := 0
  onPhases := 0
  cuts := 0
  misses := 0
  lockouts := 0
  losses := 0

/-- Line counters after reset (R184). -/
def LineStats.reset : LineStats := { good := 0, bad := 0, dropped := 0, reports := 0 }

/-- The part right after power-on reset. -/
def State.reset : State where
  clock := 0
  cfg := Params.default
  stns := Vector.replicate 32 Station.reset
  sched := { groups := [], suspended := false, next := 1 }
  oper := { steers := [], next := 1 }
  power :=
    { feedLimit := 40000, motion := Vector.replicate 32 Grant.reset, heat := Vector.replicate 32 Grant.reset,
      list := [], arrival := 1, admission := 1, deficit := false }
  wind :=
    { masts := Vector.replicate 4 Mast.reset, stage := .stow, cause := .start, hold := true, short := true,
      siteMean := none, siteGust := none, dwell := none, lapsed := false, changed := 0 }
  camp :=
    { state := .holding, cause := some .start, also := [], start := none, deadline := none, late := false,
      roster := [] }
  snow :=
    { mode := .off, source := none, cls := none, air := none, auto := false, clearTimer := none,
      channels := Vector.replicate 32 Channel.reset, park := Vector.replicate 32 none,
      idleExpiry := Vector.replicate 32 none }
  locks := { recs := Vector.replicate 32 LockRec.reset, visit := none }
  bus := { cabs := Vector.replicate 32 Cabinet.reset, visit := none }
  linkS := LinkState.reset
  linkO := LinkState.reset
  site := Receiver.reset
  stats :=
    { stn := Vector.replicate 32 StnStats.reset, admissions := 0, sheds := 0, deficits := 0,
      lineS := LineStats.reset, lineO := LineStats.reset, site := LineStats.reset }
  choices := 0
  pending := []

end Sys2Proof.Machine
end

