-- ==== Sys2Proof/Machine/Operands.lean ====
section
/-! DEFINITION. Frames: the envelope and its check, the field encodings, and the decoding of payloads (R187 to R192). -/

namespace Sys2Proof.Machine

/-- The delimiter byte (R187). -/
def delimiter : Byte := 0xA5

/-- One bit of the frame check (R188). -/
def checkBit (r : BitVec 16) (d : Bool) : BitVec 16 :=
  if r.msb != d then (r <<< 1) ^^^ 0x1021 else r <<< 1

/-- One byte of the frame check, most significant bit first (R188). -/
def checkByte (r : BitVec 16) (b : Byte) : BitVec 16 :=
  [7, 6, 5, 4, 3, 2, 1, 0].foldl (fun r k => checkBit r (b.getLsbD k)) r

/-- The frame check over the bytes from LEN to the last payload byte (R188). -/
def frameCheck (bs : List Byte) : BitVec 16 := bs.foldl checkByte 0xFFFF

/-- One byte of a number. -/
def u8 (n : Nat) : List Byte := [BitVec.ofNat 8 n]

/-- Two bytes of a number, most significant first (R187). -/
def u16 (n : Nat) : List Byte := [BitVec.ofNat 8 (n / 256), BitVec.ofNat 8 n]

/-- The two bytes of a sum of grants (R190); above 65535, where the manual gives none, a free value. -/
def encPower (n : Nat) : List Byte := if n ≤ 65535 then u16 n else u16 (Config.widePower n).toNat

/-- Four bytes of a number, most significant first (R187). -/
def u32 (n : Nat) : List Byte :=
  [BitVec.ofNat 8 (n / 16777216), BitVec.ofNat 8 (n / 65536), BitVec.ofNat 8 (n / 256), BitVec.ofNat 8 n]

/-- Four bytes of a signed number, two's complement (R187). -/
def i32 (z : Int) : List Byte := u32 (z % 4294967296).toNat

/-- Two bytes of a signed number, two's complement (R187). -/
def i16 (z : Int) : List Byte := u16 (z % 65536).toNat

/-- Number of two bytes (R187). -/
def rd16 (a b : Byte) : Nat := a.toNat * 256 + b.toNat

/-- Number of four bytes (R187). -/
def rd32 (a b c d : Byte) : Nat := ((a.toNat * 256 + b.toNat) * 256 + c.toNat) * 256 + d.toNat

/-- Signed number of two bytes (R187). -/
def rdS16 (a b : Byte) : Int := if rd16 a b < 32768 then rd16 a b else (rd16 a b : Int) - 65536

/-- Signed number of four bytes (R187). -/
def rdS32 (a b c d : Byte) : Int :=
  if rd32 a b c d < 2147483648 then rd32 a b c d else (rd32 a b c d : Int) - 4294967296

/-- The bytes of a frame as they go on a line (R187). -/
def Frame.bytes (f : Frame) : List Byte :=
  let body := BitVec.ofNat 8 (f.payload.length + 2) :: f.kind :: f.tag :: f.payload
  delimiter :: body ++ u16 (frameCheck body).toNat

/-- LEN lies in 2..250 (R173). -/
def lenOk (len : Byte) : Bool := decide (2 ≤ len.toNat) && decide (len.toNat ≤ 250)

/-- Two check bytes match the check of the bytes before them (R173). -/
def checkMatches (body chk : List Byte) : Bool := decide (chk = u16 (frameCheck body).toNat)

/-- Judges a candidate whose LEN has been taken: none while bytes are missing; otherwise the frame, if its check
matches, and the bytes after it (R173). -/
def collect (len : Byte) (rest : List Byte) : Option (Option Frame × List Byte) :=
  let body := rest.take len.toNat
  let tail := rest.drop len.toNat
  if tail.length < 2 then none
  else if checkMatches (len :: body) (tail.take 2) then
    match body with
    | k :: t :: p => some (some { kind := k, tag := t, payload := p }, tail.drop 2)
    | _ => some (none, tail.drop 2)
  else some (none, tail.drop 2)

/-- The frame of a polled reply that passes its frame check (R148, R164, R188). -/
def polledFrame (bytes : List Byte) : Option Frame :=
  match bytes with
  | d :: len :: rest =>
    if d = delimiter ∧ lenOk len = true then
      match collect len rest with
      | some (some f, []) => some f
      | _ => none
    else none
  | _ => none

/-- Bitmap of a station set (R190). -/
def rdSet (a b c d : Byte) : BitVec 32 := BitVec.ofNat 32 (rd32 a b c d)

/-- The stations of a bitmap in ascending number (R190). -/
def setStns (v : BitVec 32) : List Stn := allStns.filter fun i => v.getLsbD i.val

/-- The bitmap of a list of stations (R190). -/
def stnsSet (l : List Stn) : BitVec 32 := l.foldl (fun v i => v ||| (1 <<< i.val)) 0

/-- The four bytes of a station set (R190). -/
def encSet (l : List Stn) : List Byte := u32 (stnsSet l).toNat

/-- A station number 1..32, as a place in the table. -/
def stnOf (n : Nat) : Option Stn :=
  if h : 1 ≤ n ∧ n ≤ 32 then some ⟨n - 1, by omega⟩ else none

/-- A station byte (R190). -/
def encStn (i : Stn) : List Byte := u8 (i.val + 1)

/-- A flag byte (R190). -/
def encFlag (b : Bool) : List Byte := if b then [1] else [0]

/-- A flag byte on receipt: 0 or 1 (R190). -/
def rdFlag (b : Byte) : Option Bool :=
  match b.toNat with
  | 0 => some false
  | 1 => some true
  | _ => none

/-- An optional code: 0 for absent, the ordinal plus 1 otherwise (R190). -/
def encOptCode (c : Option Nat) : List Byte :=
  match c with
  | some n => u8 (n + 1)
  | none => [0]

/-- A percentage, index or fault code that may be absent: FFh (R190). -/
def encOpt8 (c : Option Nat) : List Byte :=
  match c with
  | some n => u8 n
  | none => [0xFF]

/-- A wind figure or count that may be absent: FFFFh (R190). -/
def encOpt16 (c : Option Nat) : List Byte :=
  match c with
  | some n => u16 n
  | none => [0xFF, 0xFF]

/-- A position or target that may be absent: 80000000h (R190). -/
def encAngle (c : Option Int) : List Byte :=
  match c with
  | some z => i32 z
  | none => [0x80, 0, 0, 0]

/-- A temperature that may be absent: 8000h (R190). -/
def encTemp (c : Option Int) : List Byte :=
  match c with
  | some z => i16 z
  | none => [0x80, 0]

/-- A site time or sequence number that may be absent: a presence byte, then the value (R190). -/
def encOpt32 (c : Option Nat) : List Byte :=
  match c with
  | some n => 1 :: u32 n
  | none => [0, 0, 0, 0, 0]

/-- A motion owner (R190). -/
def encOwner : Option Owner → List Byte
  | none => [0, 0, 0]
  | some (.group n) => 1 :: u16 n
  | some (.steer n) => 2 :: u16 n
  | some .stow => [3, 0, 0]
  | some .snow => [4, 0, 0]

/-- Code of an outcome: ARRIVED 1 to LOCAL 14 (R190). -/
def MoveOutcome.code : MoveOutcome → Nat
  | .arrived => 1
  | .short => 2
  | .outOfLimits => 3
  | .excluded _ => 4
  | .cancelled => 5
  | .preempted => 6
  | .halted => 7
  | .lockout => 8
  | .shed => 9
  | .lost => 10
  | .fault => 11
  | .driveRefused => 12
  | .cleared => 13
  | .localDrive => 14

/-- Code of an EXCLUDED reason: DISABLED 1 to LOCKOUT 7 (R190). -/
def Reason.code (r : Reason) : Nat := r.ctorIdx + 1

/-- Outcome and reason bytes; the reason is 0 unless EXCLUDED (R191). -/
def encOutcome : Option MoveOutcome → List Byte
  | none => [0, 0]
  | some (.excluded r) => u8 4 ++ u8 r.code
  | some o => u8 o.code ++ [0]

/-- The also-causes as their bitmap (R191). -/
def encCauses (l : List CampCause) : List Byte :=
  u8 ((l.map fun c => 2 ^ c.ctorIdx).foldl (· + ·) 0)

/-- The ordinal of a status among the statuses of R103. -/
def RosterStatus.code (r : RosterStatus) : Nat := r.ctorIdx

/-- The reason or outcome that a status carries; 0 where it carries none (R123). -/
def RosterStatus.detail : RosterStatus → Nat
  | .excluded r => r.code
  | .interrupted o => o.code
  | _ => 0

/-- The 19 statuses that a CAMPAIGN report counts, in order (R191). -/
def countedStatuses : List RosterStatus :=
  [.waitingRest, .waitingPower, .moving, .pinning, .braking, .stowed, .stowedNoPin, .excluded .unknown,
   .excluded .lost, .excluded .fault, .excluded .manual, .excluded .lockout, .halted, .interrupted .lockout,
   .interrupted .driveRefused, .unpinning, .unpinned, .unpinFailed, .locked]

/-- KIND of a REPLY (R189). -/
def kindReply : Byte := 0x80
/-- KIND of a NOTICE (R189). -/
def kindNotice : Byte := 0x90
/-- KIND of a GROUP report (R189). -/
def kindGroup : Byte := 0x91
/-- KIND of a STEER report (R189). -/
def kindSteer : Byte := 0x92
/-- KIND of a CAMPAIGN report (R189). -/
def kindCampaign : Byte := 0x93
/-- KIND of PAUSE (R189). -/
def kindPause : Byte := 0x9E
/-- KIND of GO (R189). -/
def kindGo : Byte := 0x9F
/-- KIND of MAST (R189). -/
def kindMast : Byte := 0x40
/-- KIND of PRECIP (R189). -/
def kindPrecip : Byte := 0x41
/-- KIND of FEEDER (R189). -/
def kindFeeder : Byte := 0x42
/-- KIND of LAMPS (R189). -/
def kindLamps : Byte := 0x60
/-- KIND of KEYS (R189). -/
def kindKeys : Byte := 0x61
/-- KIND of a STATUS reply (R189). -/
def kindStatus : Byte := 0x30

/-- A report, which takes a place of the outbound report queue (R178). -/
def Frame.isReport (f : Frame) : Bool := f.kind == kindGroup || f.kind == kindSteer || f.kind == kindCampaign

/-- A REPLY (R177). -/
def Frame.isReply (f : Frame) : Bool := f.kind == kindReply

/-- A NOTICE (R179). -/
def Frame.isNotice (f : Frame) : Bool := f.kind == kindNotice

/-- A PAUSE (R175). -/
def Frame.isPause (f : Frame) : Bool := f.kind == kindPause

/-- A GO (R175). -/
def Frame.isGo (f : Frame) : Bool := f.kind == kindGo

/-- Payload of a REPLY: request kind, code, data (R191). -/
def replyPayload (kind : Byte) (c : Code) (data : List Byte) : List Byte := kind :: BitVec.ofNat 8 c.ctorIdx :: data

/-- One axis of a MOVE (R192): an axis marked "no move" carries its other fields as 0. -/
def encOrder : Option AxisOrder → List Byte
  | some o => 1 :: i32 o.target ++ u16 o.vel ++ u16 o.acc
  | none => [0, 0, 0, 0, 0, 0, 0, 0, 0]

/-- The request frame of a visit (R189, R192). -/
def Sent.frame (i : Stn) (c : Sent) : Frame :=
  let tag := BitVec.ofNat 8 (i.val + 1)
  match c with
  | .poll => { kind := 0x20, tag := tag, payload := [] }
  | .motion (.move m) => { kind := 0x21, tag := tag, payload := encOrder m.az ++ encOrder m.el }
  | .motion .stop => { kind := 0x22, tag := tag, payload := [] }
  | .motion .brake => { kind := 0x23, tag := tag, payload := [] }
  | .pin .pinIn => { kind := 0x24, tag := tag, payload := [] }
  | .pin .pinOut => { kind := 0x25, tag := tag, payload := [] }
  | .heat .heatOn => { kind := 0x26, tag := tag, payload := [] }
  | .heat .heatOff => { kind := 0x27, tag := tag, payload := [] }

/-- The LAMPS frame of a panel visit (R192). -/
def Lamps.frame (i : Stn) (p : Lamps) : Frame where
  kind := kindLamps
  tag := BitVec.ofNat 8 (i.val + 1)
  payload := p.slots.map (fun c => BitVec.ofNat 8 c.ctorIdx) ++ u8 p.l.ctorIdx ++ encFlag p.horn

/-- Phase of its code (R190). -/
def phaseOf (b : Byte) : Option Phase :=
  match b.toNat with
  | 0 => some .braked
  | 1 => some .holding
  | 2 => some .accel
  | 3 => some .cruise
  | 4 => some .decel
  | _ => none

/-- Pin state of its code (R190). -/
def pinOf (b : Byte) : Option Pin :=
  match b.toNat with
  | 0 => some .pinOut
  | 1 => some .pinIn
  | 2 => some .travel
  | 3 => some .jammed
  | _ => none

/-- Switch of its code (R190). -/
def switchOf (b : Byte) : Option Switch :=
  match b.toNat with
  | 0 => some .remote
  | 1 => some .localDrive
  | _ => none

/-- Verdict of its verdict and rejection code bytes (R192). Verdict 0 with a rejection code is not good, also in answer to POLL: the model's
choice (log entry 39). -/
def verdictOf (v c : Byte) : Option Verdict :=
  match v.toNat, c.toNat with
  | 0, 0 => some .none
  | 1, 0 => some .accepted
  | 2, 1 => some (.rejected .fault)
  | 2, 2 => some (.rejected .localDrive)
  | 2, 3 => some (.rejected .limit)
  | 2, 4 => some (.rejected .pin)
  | 2, 5 => some (.rejected .heater)
  | _, _ => none

/-- A cabinet position lies within −360000..360000 (R190). -/
def positionOf (a b c d : Byte) : Option Int :=
  let z := rdS32 a b c d
  if -360000 ≤ z ∧ z ≤ 360000 then some z else none

/-- A temperature, absent at 8000h (R190). -/
def tempOf (a b : Byte) : Option Int := if rd16 a b = 32768 then none else some (rdS16 a b)

/-- One axis of a STATUS payload (R192). -/
def axisStatusOf (p0 p1 p2 p3 ph f : Byte) : Option AxisStatus :=
  match positionOf p0 p1 p2 p3, phaseOf ph with
  | some z, some p => some { pos := z, phase := p, fault := f.toNat }
  | _, _ => none

/-- A STATUS payload with every field in its range (R164, R192). -/
def statusOf (p : List Byte) : Option (Verdict × CabStatus) :=
  match p with
  | [v, c, a0, a1, a2, a3, aph, af, e0, e1, e2, e3, eph, ef, pn, sw, ct, t0, t1] =>
    match verdictOf v c, axisStatusOf a0 a1 a2 a3 aph af, axisStatusOf e0 e1 e2 e3 eph ef, pinOf pn, switchOf sw,
        rdFlag ct with
    | some vd, some az, some el, some pin, some s, some closed =>
      some (vd, { az := az, el := el, pin := pin, switch := s, closed := closed, temp := tempOf t0 t1 })
    | _, _, _, _, _, _ => none
  | _ => none

/-- Kind of a lock of its code (R191). -/
def lockKindOf (b : Byte) : Option LockKind :=
  match b.toNat with
  | 0 => some .motion
  | 1 => some .full
  | _ => none

/-- One slot of a KEYS payload: empty, or a holder in 1..9999 with a kind (R148, R192); none is not good. -/
def keySlotOf (a b k : Byte) : Option (Option (Nat × LockKind)) :=
  let h := rd16 a b
  if h = 0 then some none
  else if h ≤ 9999 then (lockKindOf k).map fun q => some (h, q)
  else none

/-- A KEYS payload: the four key slots (R192). -/
def keysOf (p : List Byte) : Option (List (Option (Nat × LockKind))) :=
  match p with
  | [a0, b0, k0, a1, b1, k1, a2, b2, k2, a3, b3, k3] =>
    match keySlotOf a0 b0 k0, keySlotOf a1 b1 k1, keySlotOf a2 b2 k2, keySlotOf a3 b3 k3 with
    | some s0, some s1, some s2, some s3 => some [s0, s1, s2, s3]
    | _, _, _, _ => none
  | _ => none

/-- A wind reading, invalid at FFFFh (R190). -/
def readingOf (a b : Byte) : Option Nat := if rd16 a b = 65535 then none else some (rd16 a b)

/-- The arguments of a MAST frame (R192): mast number and three readings. -/
def mastArgs (p : List Byte) : Option (Nat × List (Option Nat)) :=
  match p with
  | [m, a0, a1, b0, b1, c0, c1] => some (m.toNat, [readingOf a0 a1, readingOf b0 b1, readingOf c0 c1])
  | _ => none

/-- The arguments of a PRECIP frame (R192): class byte and air temperature. -/
def precipArgs (p : List Byte) : Option (Nat × Option Int) :=
  match p with
  | [c, t0, t1] => some (c.toNat, tempOf t0 t1)
  | _ => none

/-- The limit of a FEEDER frame (R192). -/
def feederArg (p : List Byte) : Option Nat :=
  match p with
  | [a, b] => some (rd16 a b)
  | _ => none

/-- A good site-line frame that one of the three blocks takes (R174): its kind with a LEN that suits it. -/
def siteFrameTaken (f : Frame) : Bool :=
  (f.kind == kindMast && (mastArgs f.payload).isSome) || (f.kind == kindPrecip && (precipArgs f.payload).isSome) ||
    (f.kind == kindFeeder && (feederArg f.payload).isSome)

/-- A velocity cap, absent at 0 (R190). -/
def capOf (a b : Byte) : Option Nat := if rd16 a b = 0 then none else some (rd16 a b)

/-- Wrap mode of its code (R191). -/
def wrapOf (b : Byte) : Option Wrap :=
  match b.toNat with
  | 0 => some .nearest
  | 1 => some .explicit
  | _ => none

/-- Start mode of its code (R191). -/
def startModeOf (b : Byte) : Option StartMode :=
  match b.toNat with
  | 0 => some .gang
  | 1 => some .stagger
  | _ => none

/-- A target that passes the checks of R25. -/
def targetOf (el az : Int) (w : Byte) : Option Target :=
  match wrapOf w with
  | none => none
  | some .nearest =>
    if 0 ≤ el ∧ el ≤ 90000 ∧ 0 ≤ az ∧ az ≤ 359999 then some { el := el, az := az, wrap := .nearest } else none
  | some .explicit =>
    if 0 ≤ el ∧ el ≤ 90000 ∧ -270000 ≤ az ∧ az ≤ 270000 then some { el := el, az := az, wrap := .explicit } else none

/-- The arguments of a SLEW. -/
structure SlewArgs where
  stations : List Stn
  target : Target
  cap : Option Nat
  prio : Nat
  mode : StartMode
  hold : Bool
deriving DecidableEq, Repr

/-- The arguments of a SLEW payload, each in its range (R25, R39, R191). -/
def slewArgs (p : List Byte) : Option SlewArgs :=
  match p with
  | [s0, s1, s2, s3, e0, e1, e2, e3, a0, a1, a2, a3, w, c0, c1, pr, md, hd] =>
    let set := setStns (rdSet s0 s1 s2 s3)
    match targetOf (rdS32 e0 e1 e2 e3) (rdS32 a0 a1 a2 a3) w, startModeOf md, rdFlag hd with
    | some t, some m, some h =>
      if set = [] ∨ 4 < pr.toNat then none
      else some { stations := set, target := t, cap := capOf c0 c1, prio := pr.toNat, mode := m, hold := h }
    | _, _, _ => none
  | _ => none

/-- The arguments of a STEER. -/
structure SteerArgs where
  station : Stn
  target : Target
  cap : Option Nat
deriving DecidableEq, Repr

/-- The arguments of a STEER payload, each in its range (R25, R51, R191). -/
def steerArgs (p : List Byte) : Option SteerArgs :=
  match p with
  | [n, e0, e1, e2, e3, a0, a1, a2, a3, w, c0, c1] =>
    match stnOf n.toNat, targetOf (rdS32 e0 e1 e2 e3) (rdS32 a0 a1 a2 a3) w with
    | some i, some t => some { station := i, target := t, cap := capOf c0 c1 }
    | _, _ => none
  | _ => none

/-- A station set payload (R191). -/
def setArg (p : List Byte) : Option (List Stn) :=
  match p with
  | [a, b, c, d] => some (setStns (rdSet a b c d))
  | _ => none

/-- A station payload (R191). -/
def stationArg (p : List Byte) : Option Stn :=
  match p with
  | [n] => stnOf n.toNat
  | _ => none

/-- Console slot of its code: C1 or C2, the fifth and sixth slot (R191). -/
def consoleSlotOf (b : Byte) : Option (Fin 6) :=
  match b.toNat with
  | 0 => some 4
  | 1 => some 5
  | _ => none

/-- The arguments of a CONSOLE_LOCK payload, each in its range (R150, R191). -/
def consoleLockArgs (p : List Byte) : Option (Stn × Fin 6 × Nat × LockKind) :=
  match p with
  | [n, sl, h0, h1, k] =>
    match stnOf n.toNat, consoleSlotOf sl, lockKindOf k with
    | some i, some c, some q =>
      if 1 ≤ rd16 h0 h1 ∧ rd16 h0 h1 ≤ 9999 then some (i, c, rd16 h0 h1, q) else none
    | _, _, _ => none
  | _ => none

/-- The arguments of a CONSOLE_UNLOCK payload, each in its range (R150, R191). -/
def consoleUnlockArgs (p : List Byte) : Option (Stn × Fin 6 × Nat) :=
  match p with
  | [n, sl, h0, h1] =>
    match stnOf n.toNat, consoleSlotOf sl with
    | some i, some c => if 1 ≤ rd16 h0 h1 ∧ rd16 h0 h1 ≤ 9999 then some (i, c, rd16 h0 h1) else none
    | _, _ => none
  | _ => none

/-- The arguments of a SET payload: parameter number, index and value (R190, R191). -/
def setParamArgs (p : List Byte) : Option (Nat × Nat × Int) :=
  match p with
  | [n0, n1, x, a, b, c, d] => some (rd16 n0 n1, x.toNat, rdS32 a b c d)
  | _ => none

end Sys2Proof.Machine
end

