-- ==== Sys2Proof/Machine/Flags.lean ====
section
/-! DEFINITION. Site time, the transmit order of a control link, flow control, notice flags, reports and counters
(R1, R175 to R179, R184). -/

namespace Sys2Proof.Machine

/-- Site time: 32 bits of the millisecond count (R1). -/
def siteTime (t : Nat) : BitVec 32 := BitVec.ofNat 32 t

/-- The four bytes of a site time (R190). -/
def encTime (t : Nat) : List Byte := u32 (siteTime t).toNat

/-- A site time that may be absent (R190). -/
def encOptTime (t : Option Nat) : List Byte := encOpt32 (t.map fun t => (siteTime t).toNat)

/-- The age at which a kept time is held, 2^31 − 1 ms (R1). -/
def maxAge : Nat := 2147483647

/-- Age of a kept time, saturating (R1). -/
def ageOf (now t : Nat) : Nat := min (now - t) maxAge

/-- Seconds in ms. -/
def seconds (n : Nat) : Nat := n * 1000

/-- A counter counts one and stays at 65535 (R184). -/
def bump (n : Nat) : Nat := if n < 65535 then n + 1 else n

/-- The state of a control link. -/
def State.link (s : State) : Link → LinkState
  | .S => s.linkS
  | .O => s.linkO

/-- Rewrites the state of a control link. -/
def State.modLink (s : State) (l : Link) (f : LinkState → LinkState) : State :=
  match l with
  | .S => { s with linkS := f s.linkS }
  | .O => { s with linkO := f s.linkO }

/-- The notice mask of a link (R179). -/
def State.mask (s : State) : Link → BitVec 10
  | .S => s.cfg.maskS
  | .O => s.cfg.maskO

/-- The counters of a line (R184). -/
def Stats.line (t : Stats) : Line → LineStats
  | .linkS => t.lineS
  | .linkO => t.lineO
  | .site => t.site

/-- Rewrites the counters of a line. -/
def State.modLine (s : State) (ln : Line) (f : LineStats → LineStats) : State :=
  match ln with
  | .linkS => { s with stats := { s.stats with lineS := f s.stats.lineS } }
  | .linkO => { s with stats := { s.stats with lineO := f s.stats.lineO } }
  | .site => { s with stats := { s.stats with site := f s.stats.site } }

/-- The line of a control link. -/
def lineOf : Link → Line
  | .S => .linkS
  | .O => .linkO

/-- Rewrites the counters of a station. -/
def State.modStnStats (s : State) (i : Stn) (f : StnStats → StnStats) : State :=
  { s with stats := { s.stats with stn := upd s.stats.stn i f } }

/-- Places a frame at the tail of the transmit order; an idle transmitter begins it (R177). -/
def LinkState.placeTail (k : LinkState) (f : Frame) : LinkState :=
  match k.sending with
  | none => { k with sending := some f }
  | some _ => { k with order := k.order ++ [f] }

/-- Places a frame at the head of the transmit order; an idle transmitter begins it (R177). -/
def LinkState.placeHead (k : LinkState) (f : Frame) : LinkState :=
  match k.sending with
  | none => { k with sending := some f }
  | some _ => { k with order := f :: k.order }

/-- The frame being sent ends and the next of the transmit order begins (R177). -/
def LinkState.endFrame (k : LinkState) : LinkState :=
  match k.order with
  | [] => { k with sending := none }
  | f :: rest => { k with sending := some f, order := rest }

/-- The frames of a link that wait or are being sent. -/
def LinkState.outgoing (k : LinkState) : List Frame := k.sending.toList ++ k.order

/-- How many reports take a place of the outbound report queue (R178). -/
def LinkState.reportCount (k : LinkState) : Nat := k.outgoing.countP (·.isReport)

/-- A reply waits to be sent or is being sent (R176). -/
def LinkState.replyBusy (k : LinkState) : Bool := k.outgoing.any (·.isReply)

/-- PAUSE without payload, TAG 0 (R175). -/
def pauseFrame : Frame := { kind := kindPause, tag := 0, payload := [] }

/-- GO without payload, TAG 0 (R175). -/
def goFrame : Frame := { kind := kindGo, tag := 0, payload := [] }

/-- Judges the FIFO count after a frame joined: PAUSE goes to the head and the flag is set (R175). A GO that still waits is
taken out, so that the two never wait together (R177). -/
def LinkState.judgePause (k : LinkState) (pauseAt : Nat) : LinkState :=
  if pauseAt ≤ k.fifo.length ∧ k.paused = false then
    LinkState.placeHead { k with paused := true, order := k.order.filter fun f => !f.isGo } pauseFrame
  else k

/-- Judges the FIFO count after a frame left: GO goes to the head and the flag is cleared (R175); a PAUSE that still waits
is removed instead, and neither goes out (R177). -/
def LinkState.judgeGo (k : LinkState) (goAt : Nat) : LinkState :=
  if k.fifo.length ≤ goAt ∧ k.paused = true then
    if k.order.any (·.isPause) then { k with paused := false, order := k.order.filter fun f => !f.isPause }
    else LinkState.placeHead { k with paused := false } goFrame
  else k

/-- The NOTICE frame of a link: every flag raised, masked or not, and the site time (R179, R191). -/
def noticeFrame (flags : BitVec 10) (now : Nat) : Frame :=
  { kind := kindNotice, tag := 0, payload := u16 flags.toNat ++ encTime now }

/-- Produces a notice: it takes the place of a notice that still waits, or goes to the tail (R179). -/
def LinkState.produceNotice (k : LinkState) (now : Nat) : LinkState :=
  let n := noticeFrame k.flags now
  if k.order.any (·.isNotice) then { k with order := k.order.map fun f => if f.isNotice then n else f }
  else k.placeTail n

/-- Raises a notice flag; its rise under the mask produces a notice (R179). -/
def LinkState.raiseFlag (k : LinkState) (mask : BitVec 10) (now : Nat) (f : NoticeFlag) : LinkState :=
  if k.flags.getLsbD f.bit.val then k
  else
    let k' := { k with flags := k.flags ||| (1 <<< f.bit.val) }
    if mask.getLsbD f.bit.val then k'.produceNotice now else k'

/-- Raises a notice flag on one link (R179). -/
def State.notice (s : State) (l : Link) (f : NoticeFlag) : State :=
  s.modLink l fun k => k.raiseFlag (s.mask l) s.clock f

/-- Raises a notice flag on both links. -/
def State.noticeBoth (s : State) (f : NoticeFlag) : State := (s.notice .S f).notice .O f

/-- Places of the outbound report queue (R178). -/
def reportPlaces : Nat := 16

/-- Places a report, or drops it from a full queue: counted, and LOST_REPORT raised (R178). -/
def State.report (s : State) (l : Link) (f : Frame) : State :=
  if reportPlaces ≤ (s.link l).reportCount then
    (s.modLine (lineOf l) fun t => { t with reports := bump t.reports }).notice l .lostReport
  else s.modLink l fun k => k.placeTail f

/-- Lowers the named notice flags of a link (R180). -/
def LinkState.lowerFlags (k : LinkState) (named : BitVec 10) : LinkState := { k with flags := k.flags &&& ~~~named }

end Sys2Proof.Machine
end

