-- ==== Sys2Proof/Machine/Ops.lean ====
section
/-! DEFINITION. The shared operations on the records of a station: motion state, owner and outcomes, command slots, grants
and the admission list (R4 to R7, R63, R69, R71, R111, R142, R162). -/

namespace Sys2Proof.Machine

/-- The station record. -/
def State.stn (s : State) (i : Stn) : Station := s.stns.get i

/-- The cabinet record. -/
def State.cab (s : State) (i : Stn) : Cabinet := s.bus.cabs.get i

/-- The heater channel. -/
def State.chan (s : State) (i : Stn) : Channel := s.snow.channels.get i

/-- The park step. -/
def State.park (s : State) (i : Stn) : Option ParkStep := s.snow.park.get i

/-- The lockout records. -/
def State.lock (s : State) (i : Stn) : LockRec := s.locks.recs.get i

/-- The motion consumer's grant. -/
def State.motionGrant (s : State) (i : Stn) : Grant := s.power.motion.get i

/-- The heater consumer's grant. -/
def State.heatGrant (s : State) (i : Stn) : Grant := s.power.heat.get i

/-- The roster entry of a station, if it has one. -/
def State.entry? (s : State) (i : Stn) : Option RosterEntry := s.camp.roster.find? fun e => decide (e.station = i)

/-- The status of a station's roster entry, if it has one. -/
def State.rosterStatus? (s : State) (i : Stn) : Option RosterStatus := (s.entry? i).map (·.status)

/-- Rewrites a station record. -/
def State.modStn (s : State) (i : Stn) (f : Station → Station) : State := { s with stns := upd s.stns i f }

/-- Rewrites a cabinet record. -/
def State.modCab (s : State) (i : Stn) (f : Cabinet → Cabinet) : State :=
  { s with bus := { s.bus with cabs := upd s.bus.cabs i f } }

/-- Rewrites a heater channel; its mirror in the station record is read from here (R129). -/
def State.modChan (s : State) (i : Stn) (f : Channel → Channel) : State :=
  { s with snow := { s.snow with channels := upd s.snow.channels i f } }

/-- Sets a park step. -/
def State.setPark (s : State) (i : Stn) (p : Option ParkStep) : State :=
  { s with snow := { s.snow with park := upd s.snow.park i fun _ => p } }

/-- Rewrites the lockout records of a station. -/
def State.modLock (s : State) (i : Stn) (f : LockRec → LockRec) : State :=
  { s with locks := { s.locks with recs := upd s.locks.recs i f } }

/-- Rewrites a motion grant. -/
def State.modMotionGrant (s : State) (i : Stn) (f : Grant → Grant) : State :=
  { s with power := { s.power with motion := upd s.power.motion i f } }

/-- Rewrites a heater grant. -/
def State.modHeatGrant (s : State) (i : Stn) (f : Grant → Grant) : State :=
  { s with power := { s.power with heat := upd s.power.heat i f } }

/-- Rewrites the roster entry of a station. -/
def State.modRoster (s : State) (i : Stn) (f : RosterEntry → RosterEntry) : State :=
  { s with camp := { s.camp with roster := s.camp.roster.map fun e => if e.station = i then f e else e } }

/-- Sets the status of a station's roster entry. -/
def State.setRoster (s : State) (i : Stn) (st : RosterStatus) : State := s.modRoster i fun e => { e with status := st }

/-- Sets the idle-since time of a station and its idle expiry (R6, R140). -/
def State.setIdle (s : State) (i : Stn) (t : Option Nat) : State :=
  let s := s.modStn i fun r => { r with idleSince := t }
  { s with snow := { s.snow with idleExpiry := upd s.snow.idleExpiry i fun _ => t.map fun t => t + seconds s.cfg.snowIdle } }

/-- Sets a motion state with what every such change brings: idle-since (R6), rest posture (R5), axis targets (R7), the end of a
grant's wait for its move (R67) and the STATION notice (R18). -/
def State.setMotion (s : State) (i : Stn) (m : Motion) : State :=
  let old := (s.stn i).motion
  if old = m then s
  else
    let s := s.modStn i fun r =>
      { r with
        motion := m
        posture := none
        az := if m.isMoving then r.az else { r.az with target := none }
        el := if m.isMoving then r.el else { r.el with target := none } }
    let s := if m = .held then s.setIdle i (some s.clock) else if old = .held then s.setIdle i none else s
    let s := if old.isMoving && !m.isMoving then s.modMotionGrant i fun g => { g with awaiting := false } else s
    if old.isCondition || m.isCondition then s.noticeBoth .station else s

/-! ### Command slots -/

/-- A MOVE. -/
def MotionCmd.isMove : MotionCmd → Bool
  | .move _ => true
  | _ => false

/-- A BRAKE. -/
def MotionCmd.isBrake : MotionCmd → Bool
  | .brake => true
  | _ => false

/-- A command of the motion slot. -/
def Sent.isMotion : Sent → Bool
  | .motion _ => true
  | _ => false

/-- A command of the pin slot. -/
def Sent.isPin : Sent → Bool
  | .pin _ => true
  | _ => false

/-- A command of the heater slot. -/
def Sent.isHeat : Sent → Bool
  | .heat _ => true
  | _ => false

/-- Clears the return mark of an outstanding command of this kind (R162). -/
def Cabinet.overtake (k : Cabinet) (p : Sent → Bool) : Cabinet :=
  { k with outstanding := k.outstanding.map fun o => if p o.cmd then { o with mark := false } else o }

/-- The motion slot holds a MOVE not yet sent. -/
def Cabinet.holdsMove (k : Cabinet) : Bool :=
  match k.motion with
  | some c => c.isMove
  | none => false

/-- Places a command in the motion slot, replacing what stands there (R162); a MOVE replaced by STOP or BRAKE ends the
grant's wait for it (R67). -/
def State.placeMotion (s : State) (i : Stn) (c : MotionCmd) : State :=
  let s' := if (s.cab i).holdsMove && !c.isMove then s.modMotionGrant i fun g => { g with awaiting := false } else s
  s'.modCab i fun k => { k.overtake Sent.isMotion with motion := some c, motionTaken := false }

/-- Places a command in the pin slot (R162). -/
def State.placePin (s : State) (i : Stn) (c : PinCmd) : State :=
  s.modCab i fun k => { k.overtake Sent.isPin with pin := some c, pinTaken := false }

/-- Places a command in the heater slot (R162). -/
def State.placeHeat (s : State) (i : Stn) (c : HeatCmd) : State :=
  s.modCab i fun k => { k.overtake Sent.isHeat with heat := some c, heatTaken := false }

/-- The outstanding command is a motion command that satisfies p. -/
def Sent.motionIs (p : MotionCmd → Bool) : Sent → Bool
  | .motion c => p c
  | _ => false

/-- Withdraws a motion command that satisfies p: the slot is emptied if it still holds it; if it has been sent, its return
mark is cleared; another command is left alone (R162, R166). -/
def State.withdrawMotion (s : State) (i : Stn) (p : MotionCmd → Bool) : State :=
  match (s.cab i).motion with
  | some c =>
    if p c then
      let s' := if c.isMove then s.modMotionGrant i fun g => { g with awaiting := false } else s
      s'.modCab i fun k => { k.overtake Sent.isMotion with motion := none }
    else s
  | none => s.modCab i fun k => k.overtake (Sent.motionIs p)

/-- Withdraws a pin command (R162, R166). -/
def State.withdrawPin (s : State) (i : Stn) (c : PinCmd) : State :=
  match (s.cab i).pin with
  | some d => if d = c then s.modCab i fun k => { k.overtake Sent.isPin with pin := none } else s
  | none => s.modCab i fun k => k.overtake fun d => decide (d = .pin c)

/-- Empties the three slots of a cabinet (R159, R167). -/
def State.emptySlots (s : State) (i : Stn) : State :=
  s.modCab i fun k => { k.overtake (fun _ => true) with motion := none, pin := none, heat := none }

/-! ### Grants -/

/-- A record whose amount is 0 has class none, no surcharge or prices, no sequence and its flags at no (R63). -/
def Grant.norm (g : Grant) : Grant :=
  if g.amount = 0 then
    { g with cls := none, surcharge := none, phaseP := none, seq := none, shed := false, awaiting := false, localRes := false }
  else g

/-- Sets the amount of a grant (R63). -/
def Grant.setAmount (g : Grant) (n : Nat) : Grant := Grant.norm { g with amount := n }

/-! ### The admission list -/

/-- An entry after it loses the motion consumer of a station, if members remain (R71). -/
def Entry.lessMotion (i : Stn) (e : Entry) : Option Entry :=
  match e.body with
  | .motion g ps =>
    match ps.filter fun p => decide (p.station ≠ i) with
    | [] => none
    | q :: qs => some { e with body := .motion g (q :: qs) }
  | .heater _ => some e

/-- The entry of a station's heater consumer. -/
def Entry.isHeaterOf (i : Stn) (e : Entry) : Bool :=
  match e.body with
  | .motion _ _ => false
  | .heater j => decide (j = i)

/-- Withdraws the motion consumer of a station from the list, shrinking a GANG entry (R71). -/
def State.leaveMotion (s : State) (i : Stn) : State :=
  { s with power := { s.power with list := s.power.list.filterMap (Entry.lessMotion i) } }

/-- Withdraws the heater consumer of a station from the list (R71). -/
def State.leaveHeat (s : State) (i : Stn) : State :=
  { s with power := { s.power with list := s.power.list.filter fun e => !e.isHeaterOf i } }

/-- An entry joins the list with the next arrival sequence (R69). -/
def State.joinList (s : State) (b : Waiting) (c : GrantClass) (prio : Nat) : State :=
  { s with
    power :=
      { s.power with
        list := s.power.list ++ [{ body := b, cls := c, prio := prio, seq := s.power.arrival }]
        arrival := s.power.arrival + 1 } }

/-! ### Outcomes -/

/-- Records an outcome for a member that has none (R44). -/
def Group.record (g : Group) (i : Stn) (o : MoveOutcome) : Group :=
  { g with members := g.members.map fun m => if m.1 = i ∧ m.2 = none then (i, some o) else m }

/-- Rewrites the group of a number. -/
def State.modGroup (s : State) (n : Nat) (f : Group → Group) : State :=
  { s with sched := { s.sched with groups := s.sched.groups.map fun g => if g.number = n then f g else g } }

/-- Rewrites the steer of a number. -/
def State.modSteer (s : State) (n : Nat) (f : Steer → Steer) : State :=
  { s with oper := { s.oper with steers := s.oper.steers.map fun t => if t.number = n then f t else t } }

/-- A steer takes its outcome, once (R51). -/
def Steer.record (t : Steer) (o : MoveOutcome) : Steer :=
  { t with outcome := match t.outcome with
    | none => some o
    | some p => some p }

/-- The status of a roster entry whose stow is ended with an outcome (R111). -/
def interruptedStatus (o : MoveOutcome) (old : RosterStatus) : RosterStatus :=
  match o with
  | .lockout => .interrupted .lockout
  | .lost => .excluded .lost
  | .fault => .excluded .fault
  | .localDrive => .excluded .manual
  | .driveRefused => .interrupted .driveRefused
  | .halted => .halted
  | _ => old

/-- The motion command that a stow has in hand at a status of its entry: its MOVE while it moves (R108), its BRAKE while it brakes (R109).
Another block's command, such as the BRAKE of a REST that R170 returned, is none of the stow's (R162). -/
def RosterStatus.stowCmd : RosterStatus → MotionCmd → Bool
  | .moving, c => c.isMove
  | .braking, c => c.isBrake
  | _, _ => false

/-- STOW takes an outcome: the roster entry is set and the stow commands not yet sent are withdrawn (R111, R162). -/
def State.stowOutcome (s : State) (i : Stn) (o : MoveOutcome) : State :=
  let own := fun c => s.rosterStatus? i |>.any fun st => st.stowCmd c
  let s := s.modRoster i fun e =>
    { e with status := interruptedStatus o e.status, outcome := some o, noPin := false, stowDur := none }
  let s := s.withdrawMotion i own
  s.withdrawPin i .pinIn

/-- SNOW takes an outcome: the park step ends and a BRAKE it placed and has not yet sent is withdrawn (R142). -/
def State.snowOutcome (s : State) (i : Stn) : State :=
  let s' := if s.park i = some .braking then s.withdrawMotion i MotionCmd.isBrake else s
  s'.setPark i none

/-- Counts an outcome under the station's statistics (R4). -/
def countOutcome (o : MoveOutcome) (t : StnStats) : StnStats :=
  if o.isArrival then { t with arrivals := bump t.arrivals } else { t with otherEndings := bump t.otherEndings }

/-- Clears the owner of a station and gives that owner an outcome for it (R4). -/
def State.giveOutcome (s : State) (i : Stn) (o : MoveOutcome) : State :=
  match (s.stn i).owner with
  | none => s
  | some w =>
    let s := (s.modStn i fun r => { r with owner := none }).modStnStats i (countOutcome o)
    match w with
    | .group n => s.modGroup n fun g => g.record i o
    | .steer n => s.modSteer n fun t => t.record o
    | .stow => s.stowOutcome i o
    | .snow => s.snowOutcome i

/-- Withdraws a waiting motion: the entry leaves the list, the owner takes the outcome, the station returns to its rest
posture (R5). -/
def State.withdrawWaiting (s : State) (i : Stn) (o : MoveOutcome) : State :=
  let p := (s.stn i).posture.getD .held
  ((s.leaveMotion i).giveOutcome i o).setMotion i p.motion

/-- Stops a motion under way: the owner takes the outcome, STOP is placed, the station becomes STOPPING. -/
def State.stopMoving (s : State) (i : Stn) (o : MoveOutcome) : State :=
  ((s.giveOutcome i o).placeMotion i .stop).setMotion i .stopping

/-- Brakes a POINTED dish: BRAKE is placed and the station becomes STOPPING (R17). -/
def State.brakePointed (s : State) (i : Stn) : State := (s.placeMotion i .brake).setMotion i .stopping

/-- The station becomes ADMITTING with an owner and its resting state as rest posture (R4, R5). -/
def State.beginAdmitting (s : State) (i : Stn) (w : Owner) : State :=
  let p := (s.stn i).motion.posture?
  (s.setMotion i .admitting).modStn i fun r => { r with owner := some w, posture := p }

/-- A STOWED station leaves that state for LOST, FAULT or MANUAL: what its roster entry becomes (R111, R119). -/
def leftStowedStatus (c : CampState) (r : Reason) : RosterStatus → RosterStatus
  | .stowed => .excluded r
  | .stowedNoPin => .excluded r
  | .unpinning => if c = .ending then .unpinFailed else .excluded r
  | st => st

/-- The roster follows a STOWED station that leaves that state (R111, R119). -/
def State.leaveStowed (s : State) (i : Stn) (r : Reason) : State :=
  if (s.stn i).motion = .stowed then
    s.modRoster i fun e => { e with status := leftStowedStatus s.camp.state r e.status }
  else s

/-- AZ position held for planning (R24). -/
def State.azPos (s : State) (i : Stn) : Int := (s.stn i).az.pos.getD 0

/-- EL position held for planning (R24). -/
def State.elPos (s : State) (i : Stn) : Int := (s.stn i).el.pos.getD 0

end Sys2Proof.Machine
end

