-- ==== Sys2Proof/Machine/Power.lean ====
section
/-! DEFINITION. The power allocator: capacity, totals, the head of the admission list, admission, cuts, deficit actions and the
falls and rises of grants (R60 to R84). -/

namespace Sys2Proof.Machine

/-- AVAIL (R60). -/
def State.avail (s : State) : Nat := min s.cfg.feedCap s.power.feedLimit

/-- The effective reserve (R60). -/
def State.reserve (s : State) : Nat := min s.cfg.stowReserve s.avail

/-- The ordinary ceiling (R60). -/
def State.ceiling (s : State) : Nat := s.avail - s.reserve

/-- The 64 records of the grant table (R63). -/
def Power.grants (p : Power) : List Grant := p.motion.toList ++ p.heat.toList

/-- Sum of the amounts of a list of grants. -/
def amountSum (l : List Grant) : Nat := (l.map (·.amount)).sum

/-- The total over all records (R64). -/
def State.total (s : State) : Nat := amountSum s.power.grants

/-- The total of a class (R64). -/
def State.classTotal (s : State) (c : GrantClass) : Nat :=
  amountSum (s.power.grants.filter fun g => decide (g.cls = some c))

/-- The ORDINARY total plus the HEAT total (R74). -/
def State.ordHeat (s : State) : Nat := s.classTotal .ordinary + s.classTotal .heat

/-- A motion grant that is not releasing (R64). -/
def State.keptMotion (s : State) (i : Stn) : Option Grant :=
  if (s.motionGrant i).shed then none else some (s.motionGrant i)

/-- A heater grant that is not releasing (R64). -/
def State.keptHeat (s : State) (i : Stn) : Option Grant :=
  if (s.chan i).state = .stopping then none else some (s.heatGrant i)

/-- The records without the releasing grants (R64). -/
def State.keptGrants (s : State) : List Grant := allStns.filterMap s.keptMotion ++ allStns.filterMap s.keptHeat

/-- The projected total (R64). -/
def State.projected (s : State) : Nat := amountSum s.keptGrants

/-- The projected total of a class (R64). -/
def State.projClass (s : State) (c : GrantClass) : Nat :=
  amountSum (s.keptGrants.filter fun g => decide (g.cls = some c))

/-! ### The head -/

/-- Increase of a motion member (R34, R70). -/
def State.memberIncrease (s : State) (p : Plan) : Nat := p.amount - (s.motionGrant p.station).amount

/-- Increase of an entry as it is considered (R70). -/
def State.increase (s : State) (e : Entry) : Nat :=
  match e.body with
  | .motion _ ps => (ps.map s.memberIncrease).sum
  | .heater _ => s.cfg.heaterP

/-- FLOOR at the current stage (R72). -/
def State.floorNow (s : State) : Nat := s.cfg.floor.at s.wind.stage

/-- A motion entry below the floor is passed over (R72). -/
def State.passedOver (s : State) (e : Entry) : Bool :=
  match e.body with
  | .motion _ _ => decide (e.prio < s.floorNow)
  | .heater _ => false

/-- The plan of the first consumer, by which STOW entries are ordered (R73). -/
def Entry.firstPlan (e : Entry) : Option Plan :=
  match e.body with
  | .motion _ ps => ps.head?
  | .heater _ => none

/-- Stow duration of an entry (R70). -/
def Entry.stowDur (e : Entry) : Nat :=
  match e.firstPlan with
  | some p => p.duration
  | none => 0

/-- Station of a STOW entry, for the order of equal durations (R73). -/
def Entry.firstStn (e : Entry) : Nat :=
  match e.firstPlan with
  | some p => p.station.val
  | none => 0

/-- Distance of an arrival sequence back from the arrival counter (R69). -/
def State.waited (s : State) (e : Entry) : Nat := (s.power.arrival - e.seq).toNat

/-- Entry a comes before entry b in head order (R73). -/
def State.headBefore (s : State) (a b : Entry) : Bool :=
  if a.prio ≠ b.prio then decide (b.prio < a.prio)
  else if a.prio = 7 then
    if a.stowDur ≠ b.stowDur then decide (b.stowDur < a.stowDur) else decide (a.firstStn ≤ b.firstStn)
  else decide (s.waited b ≤ s.waited a)

/-- Inserts an item before the first that it comes before. -/
def insertBy {α : Type} (before : α → α → Bool) (x : α) : List α → List α
  | [] => [x]
  | y :: ys => if before x y then x :: y :: ys else y :: insertBy before x ys

/-- Sorts by an order. -/
def sortBy {α : Type} (before : α → α → Bool) (l : List α) : List α := l.foldr (insertBy before) []

/-- The list in head order (R85). -/
def State.headOrder (s : State) : List Entry := sortBy s.headBefore s.power.list

/-- The head of the list (R73). -/
def State.head? (s : State) : Option Entry := s.headOrder.find? fun e => !s.passedOver e

/-- The capacity tests of R74 at given totals. -/
def State.fits (s : State) (c : GrantClass) (inc tot ordHeat : Nat) : Bool :=
  decide (tot + inc ≤ s.avail) && (decide (c = .stow) || decide (ordHeat + inc ≤ s.ceiling))

/-- Every test of R74 against the actual totals. -/
def State.admissible (s : State) (e : Entry) : Bool :=
  !s.power.deficit && s.fits e.cls (s.increase e) s.total s.ordHeat

/-! ### Admission -/

/-- What a plan orders for an axis (R37). -/
def AxisPlan.order (a : AxisPlan) : Option AxisOrder := a.move.map fun m => { target := m.target, vel := m.vel, acc := m.acc }

/-- The MOVE of a plan with its origin posture (R37, R159). -/
def Plan.toMove (p : Plan) (origin : Posture) : Move := { az := p.az.order, el := p.el.order, origin := origin }

/-- The grant that an admission gives a motion consumer (R75). -/
def Grant.admitted (g : Grant) (c : GrantClass) (seq : BitVec 32) (p : Plan) : Grant :=
  Grant.norm
    { g with
      cls := some c, amount := p.amount, surcharge := some p.surcharge, phaseP := some p.phaseP, seq := some seq,
      awaiting := true }

/-- Sets the targets of the moved axes (R7). -/
def State.setTargets (s : State) (p : Plan) : State :=
  s.modStn p.station fun r =>
    { r with
      az := { r.az with target := p.az.order.map (·.target) }
      el := { r.el with target := p.el.order.map (·.target) } }

/-- Admits one motion consumer (R75). -/
def State.admitMotion (c : GrantClass) (seq : BitVec 32) (s : State) (p : Plan) : State :=
  let i := p.station
  if (s.stn i).motion = .admitting then
    let origin := (s.stn i).posture.getD .held
    let s := s.modMotionGrant i fun g => g.admitted c seq p
    let s := (s.setMotion i (if c = .stow then .stowing else .slewing)).setTargets p
    let s := s.placeMotion i (.move (p.toMove origin))
    match (s.stn i).owner with
    | some .stow => s.modRoster i fun e => { e with status := .moving, stowDur := none }
    | some .snow => s.setPark i (some .moving)
    | _ => s
  else s

/-- Admits a heater consumer (R75, R132). -/
def State.admitHeat (s : State) (seq : BitVec 32) (i : Stn) : State :=
  let s := s.modHeatGrant i fun g =>
    Grant.norm { g with cls := some .heat, amount := s.cfg.heaterP, surcharge := none, phaseP := none, seq := some seq }
  (s.modChan i fun k => { k with state := .starting, timer := none, after := none }).placeHeat i .heatOn

/-- Admits the head (R75). -/
def State.admitEntry (s : State) (e : Entry) : State :=
  let seq := s.power.admission
  let s :=
    { s with
      power := { s.power with list := s.power.list.erase e, admission := s.power.admission + 1 }
      stats := { s.stats with admissions := bump s.stats.admissions } }
  match e.body with
  | .motion _ ps => ps.foldl (State.admitMotion e.cls seq) s
  | .heater i => s.admitHeat seq i

/-! ### Cuts -/

/-- Distance of an admission sequence back from the admission counter; an absent one counts as the earliest (R63). -/
def State.admittedAgo (s : State) (g : Grant) : Nat :=
  match g.seq with
  | some q => (s.power.admission - q).toNat
  | none => 4294967296

/-- Latest admission sequence first, and on equal sequences the higher station number first (R79). -/
def State.newerFirst (s : State) (grant : Stn → Grant) (a b : Stn) : Bool :=
  let da := s.admittedAgo (grant a)
  let db := s.admittedAgo (grant b)
  if da ≠ db then decide (da < db) else decide (b.val ≤ a.val)

/-- Heaters that may be cut: ON and LIVE, latest admission first (R76, R79). -/
def State.cuttable (s : State) : List Stn :=
  sortBy (s.newerFirst s.heatGrant)
    (allStns.filter fun i => decide ((s.chan i).state = .on) && decide ((s.heatGrant i).hold = .live))

/-- Places HEAT_OFF and puts a channel in STOPPING with its timer stopped (R133, R136, R137). -/
def State.stopHeat (s : State) (i : Stn) (a : AfterStop) : State :=
  (s.placeHeat i .heatOff).modChan i fun k => { k with state := .stopping, timer := none, after := some a }

/-- Cuts a heater (R76, R79, R133). -/
def State.cutHeater (s : State) (i : Stn) : State :=
  (s.stopHeat i .newCycle).modStnStats i fun t => { t with cuts := bump t.cuts }

/-- Counts out candidates until the head fits with them released; none if it never fits (R76). `cut` is what the counted
candidates release. -/
def countCuts (fits : Nat → Bool) (may : Nat → Bool) (amt : Stn → Nat) : List Stn → Nat → List Stn → Option (List Stn)
  | [], cut, acc => if fits cut then some acc else none
  | i :: rest, cut, acc =>
    if fits cut then some acc
    else if may (cut + amt i) then countCuts fits may amt rest (cut + amt i) (acc ++ [i])
    else countCuts fits may amt rest cut acc

/-- The heaters to cut for a head that fails (R76). -/
def State.cutsFor (s : State) (e : Entry) : List Stn :=
  let inc := s.increase e
  let ph := s.projClass .heat
  let ordHeat := s.projClass .ordinary + ph
  let fits := fun cut => s.fits e.cls inc (s.projected - cut) (ordHeat - cut)
  let may := fun cut => decide (e.cls = .stow) || decide (s.cfg.heatFloor + cut ≤ ph)
  (countCuts fits may (fun i => (s.heatGrant i).amount) s.cuttable 0 []).getD []

/-- One reconsideration of the list (R77): admits heads while they fit, then makes the cuts of R76. -/
def State.reconsiderN : Nat → State → State
  | 0, s => s
  | n + 1, s =>
    match s.head? with
    | none => s
    | some e =>
      if s.power.deficit then s
      else if s.admissible e then State.reconsiderN n (s.admitEntry e)
      else (s.cutsFor e).foldl State.cutHeater s

/-- Reconsiders the list (R77); each admission takes one entry. -/
def State.reconsider (s : State) : State := State.reconsiderN (s.power.list.length + 1) s

/-! ### Deficit -/

/-- Stations in a motion state with a LIVE ORDINARY motion grant, latest admission first (R79). -/
def State.sheddable (s : State) (m : Motion) : List Stn :=
  sortBy (s.newerFirst s.motionGrant)
    (allStns.filter fun i =>
      decide ((s.stn i).motion = m) && decide ((s.motionGrant i).cls = some .ordinary) &&
        decide ((s.motionGrant i).hold = .live))

/-- Marks a shed grant and counts the shed (R79). -/
def State.markShed (s : State) (i : Stn) : State :=
  let s := s.modMotionGrant i fun g => { g with shed := true }
  { s with stats := { s.stats with sheds := bump s.stats.sheds } }

/-- Deficit actions until the projected total fits or every step is exhausted (R79). -/
def State.deficitActs : Nat → State → State
  | 0, s => s
  | n + 1, s =>
    if s.projected ≤ s.avail then s
    else
      match s.cuttable with
      | i :: _ => State.deficitActs n (s.cutHeater i)
      | [] =>
        match s.sheddable .slewing with
        | i :: _ => State.deficitActs n ((s.stopMoving i .shed).markShed i)
        | [] =>
          match s.sheddable .pointed with
          | i :: _ => State.deficitActs n ((s.brakePointed i).markShed i)
          | [] => s

/-- The most actions one taking can need: every heater and every dish. -/
def deficitFuel : Nat := 97

/-- Some grant fell between two states (R77). -/
def anyFell (old new : State) : Bool :=
  allStns.any fun i =>
    decide ((new.motionGrant i).amount < (old.motionGrant i).amount) ||
      decide ((new.heatGrant i).amount < (old.heatGrant i).amount)

/-- An event since `old` causes a reconsideration (R77). -/
def needsReconsider (old new : State) : Bool :=
  decide (new.power.list ≠ old.power.list) || decide (new.power.arrival ≠ old.power.arrival) || anyFell old new ||
    decide (new.avail ≠ old.avail) || decide (new.reserve ≠ old.reserve) || decide (new.wind.stage ≠ old.wind.stage)

/-- Sets the deficit condition, with the POWER notice on both links (R78). -/
def State.setDeficit (s : State) (b : Bool) : State :=
  { s with power := { s.power with deficit := b } }.noticeBoth .power

/-- Enters the deficit condition where it does not hold yet, and counts it (R78). -/
def State.enterDeficit (s : State) : State :=
  if s.power.deficit then s
  else
    let t := s.setDeficit true
    { t with stats := { t.stats with deficits := bump t.stats.deficits } }

/-- Takes the deficit actions while the total exceeds AVAIL (R78, R79). -/
def State.judgeDeficit (s : State) : State :=
  if s.avail < s.total then s.enterDeficit.deficitActs deficitFuel else s

/-- Judges the deficit condition and reconsiders the list after an event (R77 to R79). -/
def judgePower (force : Bool) (old s : State) : State :=
  if s.avail < s.total then s.judgeDeficit
  else if s.power.deficit then (s.setDeficit false).reconsider
  else if force || needsReconsider old s then s.reconsider
  else s

/-- Takes a join that is an event of its own (R106). The first state is the one against which power was last judged, the second the
state now: what came about between them is judged first, then the join is made and the list reconsidered after it (log entry 31), all
before the change of campaign state that the join brings is reported (R114, R122): the model's choice (log entry 45). -/
def ownJoin (join : State → State) (x : State × State) : State × State :=
  if (join x.2).power.arrival = x.2.power.arrival then (x.1, join x.2)
  else
    let s := judgePower false x.1 x.2
    let t := judgePower false s (join s)
    (t, t)

/-! ### Falls and rises of grants -/

/-- Sum of the two axis prices of reported phases at a surcharge (R66). -/
def phaseSum (q : PhaseParams) (sur : Nat) (az el : Phase) : Nat := phasePrice q .az az sur + phasePrice q .el el sur

/-- SURCHARGE at the current stage. -/
def State.surchargeNow (s : State) : Nat := s.cfg.surcharge.at s.wind.stage

/-- The phase parameters that a grant is priced from: those kept from its plan, and without an admission those that stand at the reply
(R22, R37, R66, log entry 12). -/
def Grant.pricedFrom (g : Grant) (c : Params) : PhaseParams := g.phaseP.getD c.phaseP

/-- A good reply lowers the motion grant (R66). -/
def State.lowerMotion (s : State) (i : Stn) (st : CabStatus) : State :=
  let c := s.cfg
  let now := s.surchargeNow
  s.modMotionGrant i fun g =>
    if g.hold = .frozen ∨ g.localRes = true ∨ g.awaiting = true then g
    else g.setAmount (min g.amount (phaseSum (g.pricedFrom c) (g.surcharge.getD now) st.az.phase st.el.phase))

/-- A reply that shows LOCAL sets the local reservation (R80). -/
def Grant.reserveLocal (g : Grant) (localP sur : Nat) : Grant :=
  if g.localRes then g
  else
    Grant.norm
      { g with
        amount := max g.amount localP, cls := some .ordinary, localRes := true, shed := false, awaiting := false,
        seq := none, surcharge := some (g.surcharge.getD sur) }

/-- Adopts a motion grant from the reported phases (R81). -/
def Grant.adopt (g : Grant) (sum sur : Nat) : Grant :=
  Grant.norm
    { g with
      amount := if g.hold = .frozen then min g.amount sum else sum
      cls := some .ordinary, surcharge := some sur, phaseP := none, seq := none, hold := .live, shed := false, awaiting := false }

/-- Settles a heater grant from a contactor (R82). -/
def Grant.settle (g : Grant) (closed : Bool) (heaterP : Nat) : Grant :=
  Grant.norm
    { g with
      amount := if closed then (if g.hold = .frozen then min g.amount heaterP else heaterP) else 0
      cls := some .heat, surcharge := none, phaseP := none, seq := none, hold := .live }

/-- Freezes a grant at a loss (R83). -/
def Grant.freeze (g : Grant) : Grant := { g with hold := .frozen, shed := false, awaiting := false, localRes := false }

/-- Writes off a frozen grant (R84). -/
def Grant.writeOff (g : Grant) : Grant := if g.hold = .frozen then { g with hold := .writtenOff }.setAmount 0 else g

/-- What a WRITE_OFF of this grant takes off (R84). -/
def Grant.writeOffAmount (g : Grant) : Nat := if g.hold = .frozen then g.amount else 0

/-- A heater grant ends (R68). -/
def State.endHeatGrant (s : State) (i : Stn) : State := s.modHeatGrant i fun g => g.setAmount 0

/-- The allocator takes the switch and the phases of a reply: the local reservation, its end, and the fall (R66, R80). -/
def State.allocReply (s : State) (i : Stn) (st : CabStatus) : State :=
  let lp := s.cfg.localP
  let sur := s.surchargeNow
  let s := s.modMotionGrant i fun g =>
    match st.switch with
    | .localDrive => g.reserveLocal lp sur
    | .remote => if st.az.phase = .braked ∧ st.el.phase = .braked then { g with localRes := false } else g
  s.lowerMotion i st

end Sys2Proof.Machine
end

