-- ==== Sys2Proof/Machine/Heat.lean ====
section
/-! DEFINITION. Heater channels, bars, snow mode and idle parks (R124 to R143, R157). -/

namespace Sys2Proof.Machine

/-- Some slot of a lockout list holds a FULL entry (R157). -/
def LockRec.hasFull (r : LockRec) : Bool :=
  r.slots.toList.any fun e => match e with
    | some x => decide (x.kind = .full)
    | none => false

/-- The lockout manager's heater bar (R157). -/
def State.heaterBar (s : State) (i : Stn) : Bool :=
  (s.lock i).hasFull || decide ((s.lock i).status = .unknown)

/-- A bar is in force for a channel (R137). -/
def State.barred (s : State) (i : Stn) : Bool :=
  decide ((s.stn i).motion = .disabled) || decide ((s.stn i).motion = .lost) || s.heaterBar i

/-- The temperature term of the duty, truncated toward zero (R130). -/
def heatTerm (c : Params) (temp : Option Int) : Int :=
  match temp with
  | none => 0
  | some t => Int.tdiv ((c.surfSet - t) * c.heatGain) 10

/-- The raw duty (R130). -/
def rawDuty (c : Params) (cls : Option PrecipClass) (temp : Option Int) (stowed : Bool) : Int :=
  (c.dutyBase.at (cls.getD .dry) : Int) + heatTerm c temp + (if stowed then (c.stowedBonus : Int) else 0)

/-- The duty: lowered to DUTY_MAX, then raised to DUTY_MIN (R130). -/
def duty (c : Params) (raw : Int) : Nat := (max (c.dutyMin : Int) (min (c.dutyMax : Int) raw)).toNat

/-- ON length A of a duty (R130). -/
def onLength (c : Params) (d : Nat) : Nat := ceilDiv (c.heatPeriod * d) 100

/-- Sets a channel state with no timer and no after-stop. -/
def State.setChan (s : State) (i : Stn) (h : HeaterState) : State :=
  s.modChan i fun k => { k with state := h, timer := none, after := none }

/-- OFF_PHASE with timer B running for a length (R131, R132, R135). -/
def State.offPhase (s : State) (i : Stn) (secs : Nat) : State :=
  let now := s.clock
  s.modChan i fun k => { k with state := .offPhase, timer := some (now + seconds secs), after := none }

/-- The duty of a station's next cycle (R130). -/
def State.cycleDuty (s : State) (i : Stn) (stowed : Bool) : Nat :=
  duty s.cfg (rawDuty s.cfg s.snow.cls (s.stn i).temp stowed)

/-- A cycle start with the motion state taken as given (R130, R131). -/
def State.startCycleAs (s : State) (i : Stn) (stowed : Bool) : State :=
  let a := onLength s.cfg (s.cycleDuty i stowed)
  let b := s.cfg.heatPeriod - a
  let s := s.modChan i fun k => { k with onLen := some a, offLen := some b }
  if a = 0 then s.offPhase i s.cfg.heatPeriod
  else (s.setChan i .wait).joinList (.heater i) .heat s.cfg.heatPriority

/-- The station is STOWED. -/
def State.isStowed (s : State) (i : Stn) : Bool := decide ((s.stn i).motion = .stowed)

/-- A cycle start (R131). -/
def State.startCycle (s : State) (i : Stn) : State := s.startCycleAs i (s.isStowed i)

/-- OFF_PHASE after a confirmed stop; with B of 0 it is itself a cycle start (R135). -/
def State.enterOffPhase (s : State) (i : Stn) (stowed : Bool) : State :=
  match (s.chan i).offLen with
  | some 0 => s.startCycleAs i stowed
  | some b => s.offPhase i b
  | none => s.offPhase i 0

/-- A confirmed stop (R134). -/
def State.confirmStop (s : State) (i : Stn) (stowed : Bool) : State :=
  let k := s.chan i
  let s := s.endHeatGrant i
  if s.barred i then s.setChan i .barred
  else if s.snow.mode = .off then s.setChan i .idle
  else
    match k.after with
    | some .offPhase => s.enterOffPhase i stowed
    | _ => s.startCycleAs i stowed

/-- A bar comes into force (R137). -/
def State.barRise (s : State) (i : Stn) : State :=
  match (s.chan i).state with
  | .idle => s.setChan i .barred
  | .offPhase => s.setChan i .barred
  | .wait => (s.leaveHeat i).setChan i .barred
  | .starting => s.stopHeat i .newCycle
  | .on => s.stopHeat i .newCycle
  | .stopping => s
  | .barred => s

/-- The last condition of a bar ends (R137). -/
def State.barFall (s : State) (i : Stn) (stowed : Bool) : State :=
  if (s.chan i).state = .barred then
    if s.snow.mode = .on then s.startCycleAs i stowed else s.setChan i .idle
  else s

/-- Judges the bar with the motion state taken as given (R137). -/
def State.judgeBarAs (s : State) (i : Stn) (stowed : Bool) : State :=
  if s.barred i then s.barRise i else s.barFall i stowed

/-- Judges the bar (R137, R157). -/
def State.judgeBar (s : State) (i : Stn) : State := s.judgeBarAs i (s.isStowed i)

/-- Withdraws a heater command not yet sent (R138). -/
def State.withdrawHeat (s : State) (i : Stn) : State :=
  s.modCab i fun k => { k.overtake Sent.isHeat with heat := none }

/-- The first reply after UNKNOWN or LOST settles the channel by the contactor; an open one is left BARRED for the judgement of
the bar that follows (R82, R138). -/
def State.settleHeatFirst (s : State) (i : Stn) (closed : Bool) : State :=
  let p := s.cfg.heaterP
  let s := (s.modHeatGrant i fun g => g.settle closed p).leaveHeat i
  if closed then s.stopHeat i .newCycle else (s.withdrawHeat i).setChan i .barred

/-- A loss takes the heater channel (R138). -/
def State.loseHeat (s : State) (i : Stn) : State := ((s.leaveHeat i).withdrawHeat i).setChan i .barred

/-- Places HEAT_OFF if the slot holds no heater command (R134, R139). -/
def State.askHeatOff (s : State) (i : Stn) : State :=
  if (s.cab i).heat = none then s.placeHeat i .heatOff else s

/-- What a reply answers: the command sent and the verdict on it. -/
structure Answer where
  cmd : Sent
  verdict : Verdict
deriving DecidableEq, Repr

/-- The reply REJECTED this command. -/
def Answer.rejects (a : Answer) (c : Sent) : Bool :=
  decide (a.cmd = c) && (match a.verdict with
    | .rejected _ => true
    | _ => false)

/-- A channel takes a reply that is not the first after UNKNOWN or LOST (R132, R134, R139, R171). `taken` says that the heater
command last placed was ACCEPTED in an earlier reply. -/
def State.heatReply (s : State) (i : Stn) (closed taken : Bool) (a : Answer) (stowed : Bool) : State :=
  match (s.chan i).state with
  | .starting =>
    if a.rejects (.heat .heatOn) then
      let s := (s.endHeatGrant i).offPhase i s.cfg.heatPeriod
      if closed then s.askHeatOff i else s
    else if taken && closed then
      let now := s.clock
      (s.modChan i fun k =>
        { k with state := .on, timer := some (now + seconds (k.onLen.getD 0)), after := none }).modStnStats i fun t =>
          { t with onPhases := bump t.onPhases }
    else s
  | .stopping =>
    if taken && !closed then s.confirmStop i stowed
    else if a.rejects (.heat .heatOff) then s.askHeatOff i
    else s
  | .on => s
  | _ => if closed then s.askHeatOff i else s

/-! ### Idle parks -/

/-- The conditions of an idle park (R140). -/
def State.parkDue (s : State) (i : Stn) : Bool :=
  let r := s.stn i
  decide (s.snow.mode = .on) && decide (s.camp.state = .none) && decide (r.motion = .held) &&
    decide ((s.lock i).status = .free) &&
    (match r.idleSince with
      | some t => decide (seconds s.cfg.snowIdle ≤ ageOf s.clock t)
      | none => false)

/-- Judges a station for an idle park (R140). -/
def State.judgePark (s : State) (i : Stn) : State :=
  if s.parkDue i then
    let p := planSnow s.cfg i s.wind.stage (s.azPos i) (s.elPos i)
    if p.isNull then s.setMotion i .parked
    else (((s.beginAdmitting i .snow).setPark i (some .waitingPower)).joinList (.motion false [p]) .ordinary 5)
  else s

/-- Judges every station for an idle park, in ascending station number: the model's choice of an order that the manual leaves open (R140,
log entry 37). -/
def State.judgeParks (s : State) : State := allStns.foldl State.judgePark s

/-! ### Snow mode -/

/-- A channel takes the mode turning ON (R136). -/
def State.chanModeOn (s : State) (i : Stn) : State :=
  if (s.chan i).state = .idle then s.startCycle i else s

/-- A channel takes the mode turning OFF (R136). -/
def State.chanModeOff (s : State) (i : Stn) : State :=
  match (s.chan i).state with
  | .offPhase => s.setChan i .idle
  | .wait => (s.leaveHeat i).setChan i .idle
  | .starting => s.stopHeat i .newCycle
  | .on => s.stopHeat i .newCycle
  | .idle => s
  | .stopping => s
  | .barred => s

/-- Sets the mode ON with a source (R124, R125, R127). All channels act before all parks, each in ascending station number, which fixes the
arrival sequences of their entries: the model's choice (R136, R140, log entry 37). -/
def State.snowTurnOn (s : State) (src : SnowSource) : State :=
  if s.snow.mode = .on then { s with snow := { s.snow with source := some src } }
  else
    let s := { s with snow := { s.snow with mode := .on, source := some src } }
    let s := s.noticeBoth .snow
    (allStns.foldl State.chanModeOn s).judgeParks

/-- Sets the mode OFF (R124, R125, R128). -/
def State.snowTurnOff (s : State) : State :=
  if s.snow.mode = .off then s
  else
    let s := { s with snow := { s.snow with mode := .off, source := none } }
    allStns.foldl State.chanModeOff (s.noticeBoth .snow)

/-- The automatic entry levels are met (R127). -/
def State.autoMet (s : State) : Bool :=
  (match s.snow.cls with
    | some c => decide (s.cfg.snowClass ≤ c.ctorIdx)
    | none => false) &&
  (match s.snow.air with
    | some t => decide (t ≤ s.cfg.snowTemp)
    | none => false)

/-- Judges the automatic condition, taking it as `before` up to now (R127). -/
def State.judgeAuto (s : State) (before : Bool) : State :=
  let met := s.autoMet
  let s' := { s with snow := { s.snow with auto := met } }
  if met && !before && s.cfg.autoSnow && decide (s.snow.mode = .off) then s'.snowTurnOn .auto else s'

/-- The clear-timer step of a PRECIP frame (R128). -/
def State.clearStep (s : State) (c : PrecipClass) : State :=
  let t := if c = .dry then
      (match s.snow.clearTimer with
        | some e => some e
        | none => some (s.clock + seconds s.cfg.snowClear))
    else none
  { s with snow := { s.snow with clearTimer := t } }

/-- A PRECIP frame is taken (R126). -/
def State.takePrecip (s : State) (c : PrecipClass) (air : Option Int) : State :=
  let s := { s with snow := { s.snow with cls := some c, air := air } }
  let s := s.clearStep c
  s.judgeAuto s.snow.auto

end Sys2Proof.Machine
end

