-- ==== Sys2Proof/Machine/Lockouts.lean ====
section
/-! DEFINITION. The lockout manager: lists, status, taking effect, release and the panel line's records (R144 to R157). -/

namespace Sys2Proof.Machine

/-- Some of the six slots holds an entry. -/
def LockRec.occupied (r : LockRec) : Bool := r.slots.toList.any (·.isSome)

/-- Some entry is PENDING (R146). -/
def LockRec.hasPending (r : LockRec) : Bool :=
  r.slots.toList.any fun e => match e with
    | some x => decide (x.state = .pending)
    | none => false

/-- Some entry is IN_FORCE (R153). -/
def LockRec.hasInForce (r : LockRec) : Bool :=
  r.slots.toList.any fun e => match e with
    | some x => decide (x.state = .inForce)
    | none => false

/-- Sets the state of every entry. -/
def LockRec.setStates (r : LockRec) (st : LockState) : LockRec :=
  { r with slots := r.slots.map fun e => e.map fun x => { x with state := st } }

/-- The status that the records give (R146). -/
def deriveStatus (disabled : Bool) (r : LockRec) : LockStatus :=
  if disabled || !r.known then .unknown
  else if r.hasPending then .pending
  else if r.occupied || r.lOcc || decide (r.phase = .waitRest) then .inForce
  else if r.phase = .warning then .releasing
  else .free

/-- What cancels a release or keeps it from beginning (R155). -/
def releaseBlocked (disabled : Bool) (r : LockRec) : Bool := disabled || !r.known || r.occupied || r.lOcc

/-- The release record after an event (R155): cancelled, begun, or moved between WAIT_REST and WARNING. -/
def LockRec.judgeRelease (r : LockRec) (disabled rest : Bool) (now warn : Nat) : LockRec :=
  if releaseBlocked disabled r then { r with phase := .none, warnExp := none }
  else
    match r.phase with
    | .none =>
      if r.status = .free then r
      else if rest then { r with phase := .warning, warnExp := some (now + seconds warn) }
      else { r with phase := .waitRest, warnExp := none }
    | .waitRest => if rest then { r with phase := .warning, warnExp := some (now + seconds warn) } else r
    | .warning => if rest then r else { r with phase := .waitRest, warnExp := none }

/-- A lockout takes effect on the station's motion (R151); a POINTED dish is braked also where RELEASING is left (log entry 41). -/
def State.lockTakesEffect (s : State) (i : Stn) : State :=
  match (s.stn i).motion with
  | .admitting => s.withdrawWaiting i .lockout
  | .slewing => s.stopMoving i .lockout
  | .stowing => s.stopMoving i .lockout
  | .pointed => s.brakePointed i
  | .stowed =>
    if s.rosterStatus? i = some .unpinning then
      (s.withdrawPin i .pinOut).setRoster i (if s.camp.state = .ending then .locked else .excluded .lockout)
    else s
  | _ => s

/-- The statuses from which a lockout takes effect (R151). -/
def LockStatus.open (x : LockStatus) : Bool := decide (x = .free) || decide (x = .releasing)

/-- A new status is written and handed on, but for the bar (R146, R151). -/
def State.setLockStatus (s : State) (i : Stn) (new : LockStatus) : State :=
  let old := (s.lock i).status
  if old = new then s
  else
    let s := (s.modLock i fun r => { r with status := new }).noticeBoth .lockout
    let s := if old.open && !new.open then s.lockTakesEffect i else s
    if new = .free then s.judgePark i else s

/-- The station is DISABLED. -/
def State.isDisabled (s : State) (i : Stn) : Bool := decide ((s.stn i).motion = .disabled)

/-- The release is judged and the status derived after an event (R146, R155). -/
def State.judgeLock (s : State) (i : Stn) : State :=
  let d := s.isDisabled i
  let rest := (s.stn i).motion.isResting
  let now := s.clock
  let w := s.cfg.warnTime
  let s := s.modLock i fun r => r.judgeRelease d rest now w
  s.setLockStatus i (deriveStatus d (s.lock i))

/-- The release phase no longer fits the station: WARNING away from the resting states, or WAIT_REST in one of them (R155). -/
def State.releaseStale (s : State) (i : Stn) : Bool :=
  match (s.lock i).phase with
  | .none => false
  | .waitRest => (s.stn i).motion.isResting
  | .warning => !(s.stn i).motion.isResting

/-- A station that has left the resting states in its warning, or has come to one in WAIT_REST, has its release judged (R155). -/
def State.judgeRest (s : State) (i : Stn) : State := if s.releaseStale i then s.judgeLock i else s

/-- Every station's release follows its motion state, by whatever the station left its rest: a REST and a deficit brake POINTED
dishes (R17, R79, R155). -/
def State.judgeRests (s : State) : State := allStns.foldl State.judgeRest s

/-- Release, status and heater bar are judged after an event (R146, R155, R157). -/
def State.judgeLockBar (s : State) (i : Stn) : State := (s.judgeLock i).judgeBar i

/-- A warning period ends (R156). -/
def State.warningEnd (s : State) (i : Stn) : State :=
  let s := s.modLock i fun r => { r with phase := .none, warnExp := none }
  let s := if (s.stn i).motion = .held then s.setIdle i (some s.clock) else s
  (s.setLockStatus i .free).judgeBar i

/-! ### Entries -/

/-- An entry joins a slot, PENDING, and counts (R144, R149, R150). -/
def State.joinSlot (s : State) (i : Stn) (k : Fin 6) (holder : Nat) (kind : LockKind) : State :=
  let now := s.clock
  (s.modLock i fun r =>
    { r with slots := upd r.slots k fun _ => some { holder := holder, kind := kind, state := .pending, taken := now } }
    ).modStnStats i fun t => { t with lockouts := bump t.lockouts }

/-- A slot becomes empty. -/
def State.emptySlot (s : State) (i : Stn) (k : Fin 6) : State :=
  s.modLock i fun r => { r with slots := upd r.slots k fun _ => none }

/-- One slot of a good KEYS reply is compared with the list (R149). -/
def State.compareSlot (i : Stn) (s : State) (x : Fin 6 × Option (Nat × LockKind)) : State :=
  match x.2, (s.lock i).slots.get x.1 with
  | none, none => s
  | none, some _ => s.emptySlot i x.1
  | some (h, k), none => s.joinSlot i x.1 h k
  | some (h, k), some e => if e.holder = h ∧ e.kind = k then s else s.joinSlot i x.1 h k

/-- A good KEYS reply (R148, R149). -/
def State.takeKeys (s : State) (i : Stn) (keys : List (Option (Nat × LockKind))) : State :=
  let now := s.clock
  let sil := now + seconds s.cfg.panelSilence
  let s := s.modLock i fun r => { r with known := true, lastGood := some now, silence := some sil }
  let s := (([0, 1, 2, 3] : List (Fin 6)).zip keys).foldl (State.compareSlot i) s
  s.judgeLockBar i

/-- A panel becomes UNKNOWN at its silence expiry (R148). -/
def State.panelSilent (s : State) (i : Stn) : State :=
  (s.modLock i fun r => { r with known := false }).judgeLockBar i

/-- A SET of PANEL_SILENCE reaches one panel (R148). -/
def State.moveSilence (s : State) (i : Stn) : State :=
  let r := s.lock i
  if r.known then
    match r.lastGood with
    | some t =>
      let e := t + seconds s.cfg.panelSilence
      let late := decide (seconds s.cfg.panelSilence < ageOf s.clock t)
      let s := s.modLock i fun r => { r with silence := some e }
      if late then s.panelSilent i else s
    | none => s
  else s

/-- A DISABLE reaches the lockout records (R147). -/
def LockRec.disable (r : LockRec) : LockRec :=
  let p := r.setStates .pending
  { p with
    slots := Vector.ofFn fun k => if k.val < 4 then none else p.slots.get k
    lOcc := false, known := false, lastGood := none, silence := none, phase := .none, warnExp := none }

/-! ### Status replies -/

/-- The reply carries ACCEPTED for a MOVE, PIN_IN or PIN_OUT (R152). -/
def Answer.startsMotion (a : Answer) : Bool :=
  decide (a.verdict = .accepted) &&
    (match a.cmd with
      | .motion c => c.isMove
      | .pin _ => true
      | _ => false)

/-- Entries are promoted or reverted and L follows the switch (R152 to R154). -/
def State.lockReply (s : State) (i : Stn) (st : CabStatus) (a : Answer) : State :=
  let localSw := decide (st.switch = .localDrive)
  let s := s.modLock i fun r => { r with lOcc := localSw }
  if st.az.phase = .braked ∧ st.el.phase = .braked then
    if a.startsMotion then s else s.modLock i fun r => r.setStates .inForce
  else if (s.lock i).hasInForce then
    let s := s.modLock i fun r => r.setStates .pending
    if localSw then s else s.placeMotion i .stop
  else s

/-! ### Lamps -/

/-- Lamp of one slot (R148). -/
def slotLamp (e : Option LockEntry) : Lamp :=
  match e with
  | none => .dark
  | some x => match x.state with
    | .pending => .flash
    | .inForce => .steady

/-- The lamp states as they stand (R148). -/
def LockRec.lamps (r : LockRec) : Lamps where
  slots := r.slots.toList.map slotLamp
  l := if r.lOcc then .steady else .dark
  horn := decide (r.phase = .warning)

end Sys2Proof.Machine
end

