-- ==== Sys2Proof/Machine/Stow.lean ====
section
/-! DEFINITION. The stow sequencer: the campaign record, its roster, joins, starts, releases and reports; with the display state of the
queues that it freezes (R49, R102 to R122). -/

namespace Sys2Proof.Machine

/-- Display state of the scheduler queue (R49). -/
def State.schedDisplay (s : State) : Display :=
  if s.camp.state ≠ .none then .frozen
  else if s.sched.suspended then .suspended
  else if s.sched.groups = [] then .empty
  else .running

/-- Display state of the operator queue (R49). -/
def State.operDisplay (s : State) : Display :=
  if s.camp.state ≠ .none then .frozen
  else if s.oper.steers = [] then .empty
  else .running

/-- Raises QUEUE on each link whose display state changed (R49). It is called at each change within an event, so that a state only passed
through counts as well: the model's choice (log entry 42). -/
def displayNotices (old s : State) : State :=
  let s' := if s.schedDisplay ≠ old.schedDisplay then s.notice .S .queue else s
  if s.operDisplay ≠ old.operDisplay then s'.notice .O .queue else s'

/-! ### The campaign record -/

/-- OPERATOR is the cause or an also-cause (R102). -/
def Campaign.operatorHeld (c : Campaign) : Bool :=
  decide (c.cause = some .operator) || c.also.contains .operator

/-- Every entry is final (R103). -/
def Campaign.allFinal (c : Campaign) : Bool := c.roster.all fun e => e.status.isFinal c.state

/-- A cause is recorded or added to the also-causes (R104). -/
def Campaign.addCause (c : Campaign) (x : CampCause) : Campaign :=
  match c.cause with
  | none => { c with cause := some x }
  | some y => if x = y ∨ c.also.contains x = true then c else { c with also := c.also ++ [x] }

/-- How many roster entries have a status (R122). -/
def Campaign.count (c : Campaign) (st : RosterStatus) : Nat := c.roster.countP fun e => decide (e.status = st)

/-- The CAMPAIGN report of a change (R122, R191). -/
def campaignReport (c : Campaign) (old : CampState) (now : Nat) : Frame where
  kind := kindCampaign
  tag := 0
  payload :=
    u8 c.state.ctorIdx ++ u8 old.ctorIdx ++ encOptCode (c.cause.map (·.ctorIdx)) ++ encCauses c.also ++ encTime now ++
      encFlag c.late ++ (countedStatuses.map fun st => u8 (c.count st)).flatten

/-- Changes the campaign state: a report to both links, CAMPAIGN on both, and the displays that follow (R49, R122). -/
def State.setCamp (s : State) (st : CampState) : State :=
  let before := s.camp.state
  if before = st then s
  else
    let s' := { s with camp := { s.camp with state := st } }
    let f := campaignReport s'.camp before s.clock
    let s'' := (((s'.report .S f).report .O f).noticeBoth .campaign)
    displayNotices s s''

/-! ### The roster -/

/-- Puts an entry in the roster in ascending station number, in place of any that its station has. -/
def insertEntry (e : RosterEntry) (l : List RosterEntry) : List RosterEntry :=
  insertBy (fun a b => decide (a.station.val < b.station.val)) e (l.filter fun x => decide (x.station ≠ e.station))

/-- Gives a station a fresh roster entry. -/
def State.giveEntry (s : State) (i : Stn) (st : RosterStatus) : State :=
  let e : RosterEntry := { station := i, status := st, outcome := none, noPin := false, stowDur := none }
  { s with camp := { s.camp with roster := insertEntry e s.camp.roster } }

/-- Removes the roster entry of a station (R113). -/
def State.dropEntry (s : State) (i : Stn) : State :=
  { s with camp := { s.camp with roster := s.camp.roster.filter fun x => decide (x.station ≠ i) } }

/-- A station joins the campaign (R106). -/
def State.joinCampaign (s : State) (i : Stn) : State :=
  let p := planStow s.cfg i s.wind.stage (s.azPos i) (s.elPos i)
  if p.isNull then
    let s := (s.setMotion i .stowing).modStn i fun r => { r with owner := some .stow }
    (s.modRoster i fun e => { e with status := .pinning, stowDur := none }).placePin i .pinIn
  else
    let s := s.beginAdmitting i .stow
    let s := s.modRoster i fun e => { e with status := .waitingPower, stowDur := some p.duration }
    s.joinList (.motion false [p]) .stow 7

/-- The reason that a condition gives (R105, R107). -/
def Motion.reason? : Motion → Option Reason
  | .disabled => some .disabled
  | .unknown => some .unknown
  | .lost => some .lost
  | .fault => some .fault
  | .manual => some .manual
  | _ => none

/-- The lockout status is FREE. -/
def State.isFree (s : State) (i : Stn) : Bool := decide ((s.lock i).status = .free)

/-- A station takes its entry at a start, by the first line that fits (R105). A STOPPING station whose lockout status is not FREE takes
EXCLUDED(LOCKOUT) by that order, where R107 has it wait: the model's choice (log entry 34). -/
def State.buildEntry (s : State) (i : Stn) : State :=
  match (s.stn i).motion with
  | .disabled => s
  | .unknown => s.giveEntry i (.excluded .unknown)
  | .lost => s.giveEntry i (.excluded .lost)
  | .fault => s.giveEntry i (.excluded .fault)
  | .manual => s.giveEntry i (.excluded .manual)
  | .stowed => s.giveEntry i .stowed
  | .admitting =>
    if s.isFree i then
      if (s.stn i).owner = some .stow then s
      else ((s.withdrawWaiting i .preempted).giveEntry i .waitingPower).joinCampaign i
    else s.giveEntry i (.excluded .lockout)
  | .slewing =>
    if s.isFree i then (s.stopMoving i .preempted).giveEntry i .waitingRest else s.giveEntry i (.excluded .lockout)
  | .stopping => if s.isFree i then s.giveEntry i .waitingRest else s.giveEntry i (.excluded .lockout)
  | .stowing => s
  | .held | .pointed | .parked =>
    if s.isFree i then (s.giveEntry i .waitingPower).joinCampaign i else s.giveEntry i (.excluded .lockout)

/-- The enabled stations in ascending number. -/
def State.enabledStns (s : State) : List Stn := allStns.filter fun i => (s.stn i).enabled

/-- A steer waiting for rest completes with PREEMPTED at a start (R54, R58). -/
def State.preemptWaitingSteers (s : State) : State :=
  { s with
    oper :=
      { s.oper with steers := s.oper.steers.map fun t => if t.state = .waitingRest then t.record .preempted else t } }

/-- A start: state ACTIVE, start time, deadline, LATE mark and roster (R104, R105). The entries that the roster already holds for
stations named in `kept` stay. -/
def State.startCampaign (s : State) (c : CampCause) (kept : List Stn) : State :=
  let now := s.clock
  let old := s.camp.state
  let s1 :=
    { s with
      camp :=
        { s.camp.addCause c with
          state := .active, start := some now, deadline := some (now + seconds s.cfg.stowDeadline), late := false
          roster := s.camp.roster.filter fun e => kept.contains e.station } }
  let s2 := s1.preemptWaitingSteers
  let s3 := (s2.enabledStns.filter fun i => !kept.contains i).foldl State.buildEntry s2
  let f := campaignReport s3.camp old now
  displayNotices s (((s3.report .S f).report .O f).noticeBoth .campaign)

/-- What an UNPINNING entry of the ENDING roster comes to at a restart (R121). -/
def State.restartEntry (s : State) (e : RosterEntry) : State :=
  if e.status = .unpinning ∧ (s.cab e.station).pin = some .pinOut then
    (s.withdrawPin e.station .pinOut).setRoster e.station .stowed
  else s

/-- The entries that a restart keeps: those that were UNPINNING (R121). -/
def Campaign.unpinning (c : Campaign) : List Stn :=
  (c.roster.filter fun e => decide (e.status = .unpinning)).map (·.station)

/-- A start or restart, by the campaign state (R104, R121). -/
def State.startOrRestart (s : State) (c : CampCause) : State :=
  let kept := s.camp.unpinning
  (s.camp.roster.foldl State.restartEntry s).startCampaign c kept

/-! ### Judgements -/

/-- A rejoinable entry is judged (R112). -/
def State.judgeRejoin (s : State) (i : Stn) : State :=
  match s.entry? i with
  | none => s
  | some e =>
    if e.status.isRejoinable then
      match (s.stn i).motion with
      | .stowed => s.setRoster i .stowed
      | .held | .pointed | .parked => if s.isFree i then s.joinCampaign i else s
      | _ => s
    else s

/-- The end of the wait of an entry in WAITING_REST (R107). -/
def State.judgeWaitRest (s : State) (i : Stn) : State :=
  if s.rosterStatus? i = some .waitingRest then
    match (s.stn i).motion with
    | .held => if s.isFree i then s.joinCampaign i else s.setRoster i (.excluded .lockout)
    | .lost => s.setRoster i (.excluded .lost)
    | .fault => s.setRoster i (.excluded .fault)
    | .manual => s.setRoster i (.excluded .manual)
    | _ => s
  else s

/-- The campaign judges rejoinable entries in these states (R112). -/
def CampState.rejoins (c : CampState) : Bool := decide (c = .active) || decide (c = .holding)

/-- An event since `old` has an entry judged by R112. -/
def rejoinEvent (old s : State) (i : Stn) : Bool :=
  (decide ((s.stn i).motion ≠ (old.stn i).motion) && (s.stn i).motion.isResting) ||
    (decide ((s.lock i).status = .free) && decide ((old.lock i).status ≠ .free)) ||
    (s.camp.state.rejoins && decide (s.camp.state ≠ old.camp.state))

/-- Takes the roster of one station after an event (R107, R112). -/
def rosterStep (old : State) (i : Stn) (s : State) : State :=
  let s := s.judgeWaitRest i
  if s.camp.state.rejoins && rejoinEvent old s i then s.judgeRejoin i else s

/-- Takes the roster after an event, in ascending station number, each join as an event of its own (R106, R107, R112). The pair is that of
`ownJoin`. -/
def rosterPass (old : State) (x : State × State) : State × State :=
  (x.2.camp.roster.map (·.station)).foldl (fun x i => ownJoin (rosterStep old i) x) x

/-- The campaign goes to NONE: roster, causes and deadline are cleared, then the change is reported (R120). The report of R122 so carries no
cause and counts of 0: the model's choice (log entry 43). -/
def State.endCampaign (s : State) : State :=
  { s with camp := { s.camp with roster := [], cause := none, also := [], deadline := none } }.setCamp .none

/-- Judges the campaign state by its roster (R114, R120). -/
def State.judgeCampaign (s : State) : State :=
  match s.camp.state with
  | .active =>
    if s.camp.allFinal then
      if s.wind.stage = .stow ∨ s.camp.operatorHeld = true then s.setCamp .holding else s.setCamp .calm
    else s
  | .holding => if s.camp.allFinal then s else s.setCamp .active
  | .ending => if s.camp.roster.all fun e => e.status.isReleased then s.endCampaign else s
  | .calm => s
  | .none => s

/-- Judges every rejoinable entry, each join as an event of its own (R106, R112, R115, R116); `old` is the state before the event. -/
def State.rejoinAll (s old : State) : State :=
  ((s.camp.roster.map (·.station)).foldl (fun x i => ownJoin (fun s => s.judgeRejoin i) x) (old, s)).2

/-- The stations that STOW owns. -/
def State.stowOwned (s : State) : Nat := allStns.countP fun i => decide ((s.stn i).owner = some .stow)

/-- After joins in HOLDING or CALM: ACTIVE if an entry is not final, HOLDING otherwise (R115, R116). -/
def State.resumeCampaign (s : State) : State := if s.camp.allFinal then s.setCamp .holding else s.setCamp .active

/-- Adds a cause to a campaign in progress (R104). -/
def State.addCause (s : State) (c : CampCause) : State := { s with camp := s.camp.addCause c }

/-- The sequencer takes a change of stage or of cause alone; `old` is the state before the evaluation (R115). -/
def State.stowTakesStage (s old : State) : State :=
  let before := old.wind.stage
  let c := s.wind.cause.camp
  if s.wind.stage = .stow then
    match s.camp.state with
    | .none => if before = .stow then s else s.startOrRestart c
    | .ending => if before = .stow then s else s.startOrRestart c
    | .active => s.addCause c
    | .holding => s.addCause c
    | .calm =>
      if before = .stow then s
      else
        ((s.addCause c).rejoinAll old).resumeCampaign
  else if before = .stow ∧ s.camp.state = .holding ∧ s.camp.operatorHeld = false then s.setCamp .calm
  else s

/-! ### The steps of one stow -/

/-- PINNING begins (R108, R109). -/
def State.beginPinning (s : State) (i : Stn) : State :=
  let s := s.modStn i fun r => { r with az := { r.az with target := none }, el := { r.el with target := none } }
  (s.setRoster i .pinning).placePin i .pinIn

/-- BRAKING begins (R109). -/
def State.beginStowBrake (s : State) (i : Stn) (noPin : Bool) : State :=
  (s.modRoster i fun e => { e with status := .braking, noPin := noPin }).placeMotion i .brake

/-- A stow completes (R110). -/
def State.completeStow (s : State) (i : Stn) (noPin : Bool) : State :=
  let s := (s.modStn i fun r => { r with owner := none }).setMotion i .stowed
  let s := s.modRoster i fun e => { e with status := if noPin then .stowedNoPin else .stowed, noPin := false }
  s.modStnStats i fun t => { t with stows := bump t.stows }

/-- A drawn pin releases its station (R119, R121). -/
def State.pinDrawn (s : State) (i : Stn) : State :=
  let s := s.setMotion i .held
  if s.camp.state = .ending then s.setRoster i .unpinned
  else if s.isFree i then s.joinCampaign i
  else s.setRoster i (.excluded .lockout)

/-- A pin that cannot be drawn (R119, R121). -/
def State.pinStuck (s : State) (i : Stn) : State :=
  s.setRoster i (if s.camp.state = .ending then .unpinFailed else .stowedNoPin)

/-- The latest motion or pin command of a station has been ACCEPTED in an earlier reply. -/
structure TakenFlags where
  motion : Bool
  pin : Bool
  heat : Bool
deriving DecidableEq, Repr

/-- A roster entry takes a reply (R108 to R110, R119, R121, R171). -/
def State.stowReply (s : State) (i : Stn) (st : CabStatus) (tk : TakenFlags) (a : Answer) : State :=
  match s.entry? i with
  | none => s
  | some e =>
    match e.status, (s.stn i).motion with
    | .moving, .stowing => if tk.motion && st.el.phase.still then s.beginPinning i else s
    | .pinning, .stowing =>
      if a.rejects (.pin .pinIn) then s.beginStowBrake i true
      else if tk.pin then
        match st.pin with
        | .pinIn => s.beginStowBrake i false
        | .jammed => s.beginStowBrake i true
        | .pinOut => s
        | .travel => s
      else s
    | .braking, .stowing =>
      if tk.motion = true ∧ st.az.phase = .braked ∧ st.el.phase = .braked then s.completeStow i e.noPin else s
    | .unpinning, .stowed =>
      if a.rejects (.pin .pinOut) then s.pinStuck i
      else if tk.pin then
        match st.pin with
        | .pinOut => s.pinDrawn i
        | .jammed => s.pinStuck i
        | .pinIn => s
        | .travel => s
      else s
    | _, _ => s

/-- What an enabled STOWED station takes at an UNSTOW (R118). -/
def State.unstowEntry (s : State) (i : Stn) : State :=
  if s.isFree i then
    if (s.stn i).pin = some .pinIn then (s.giveEntry i .unpinning).placePin i .pinOut
    else (s.giveEntry i .unpinned).setMotion i .held
  else s.giveEntry i .locked

/-- The enabled stations that are STOWED. -/
def State.stowedStns (s : State) : List Stn := s.enabledStns.filter s.isStowed

/-- An accepted UNSTOW: the roster is rebuilt and ENDING begins (R118). The report of R122 so counts the rebuilt roster: the model's choice
(log entry 44). -/
def State.beginEnding (s : State) : State :=
  let s1 := { s with camp := { s.camp with roster := [], deadline := none } }
  (s.stowedStns.foldl State.unstowEntry s1).setCamp .ending

end Sys2Proof.Machine
end

