-- ==== Sys2Proof/Machine/Queues.lean ====
section
/-! DEFINITION. The two motion queues: numbers, dispatch, completion, reports and withdrawals (R17, R38 to R59). -/

namespace Sys2Proof.Machine

/-! ### Numbers -/

/-- The number after this one, 65535 followed by 1 (R40). -/
def numberAfter (n : Nat) : Nat := if 65535 ≤ n then 1 else n + 1

/-- The first number from `n` on that is not in use, within 17 tries (R40). -/
def freeNumber (used : List Nat) : Nat → Nat → Nat
  | 0, n => n
  | k + 1, n => if used.contains n then freeNumber used k (numberAfter n) else n

/-- The number that the next accepted group takes (R40). -/
def SchedQueue.take (q : SchedQueue) : Nat := freeNumber (q.groups.map (·.number)) 17 q.next

/-- The number that the next accepted steer takes (R51). -/
def OperQueue.take (q : OperQueue) : Nat := freeNumber (q.steers.map (·.number)) 17 q.next

/-- The stations of a group in ascending number. -/
def Group.stations (g : Group) : List Stn := g.members.map (·.1)

/-- Every member holds an outcome (R44). -/
def Group.complete (g : Group) : Bool := g.members.all fun m => m.2.isSome

/-- The completion of this group sets the suspended flag (R46). -/
def Group.suspends (g : Group) (byClear : Bool) : Bool := g.hold && decide (g.state = .active) && !byClear

/-! ### Reports -/

/-- The GROUP report of a completed group (R45, R191). -/
def groupReport (g : Group) (now : Nat) : Frame where
  kind := kindGroup
  tag := 0
  payload :=
    u16 g.number ++ encTime now ++ u8 g.members.length ++ (g.members.map fun m => encStn m.1 ++ encOutcome m.2).flatten

/-- The STEER report of a completed steer (R56, R191). -/
def steerReport (t : Steer) (now : Nat) : Frame where
  kind := kindSteer
  tag := 0
  payload := u16 t.number ++ encStn t.station ++ encTime now ++ encOutcome t.outcome

/-- A completed group leaves the queue: report, then suspension by HOLD if it had dispatched and CLEAR did not complete it
(R44 to R46), then the display. The suspension comes before any later group is judged for dispatch: the model's choice (log entry
33). -/
def State.completeGroup (s : State) (g : Group) (byClear : Bool) : State :=
  let s' :=
    { s with
      sched :=
        { s.sched with
          groups := s.sched.groups.filter fun h => decide (h.number ≠ g.number)
          suspended := s.sched.suspended || g.suspends byClear } }
  displayNotices s (s'.report .S (groupReport g s.clock))

/-- A completed steer leaves the queue with its report (R56). -/
def State.completeSteer (s : State) (t : Steer) : State :=
  let s' := { s with oper := { s.oper with steers := s.oper.steers.filter fun h => decide (h.number ≠ t.number) } }
  displayNotices s (s'.report .O (steerReport t s.clock))

/-! ### Dispatch of groups -/

/-- The reason that excludes a station at dispatch (R42). -/
def State.exclusion (s : State) (i : Stn) : Option Reason :=
  match (s.stn i).motion.reason? with
  | some r => some r
  | none =>
    if s.isStowed i then some .stowed
    else if s.isFree i then none
    else some .lockout

/-- A steer in WAITING_REST holds the station (R54). -/
def State.heldByWaitingSteer (s : State) (i : Stn) : Bool :=
  s.oper.steers.any fun t => decide (t.state = .waitingRest) && decide (t.station = i) && t.outcome.isNone

/-- A steer or SNOW owns the station. -/
def Owner.keepsGroup : Owner → Bool
  | .steer _ => true
  | .snow => true
  | .group _ => false
  | .stow => false

/-- The station keeps a group back (R41). -/
def State.keepsBack (s : State) (i : Stn) : Bool :=
  let m := (s.stn i).motion
  decide (m = .stopping) ||
    ((decide (m = .admitting) || decide (m = .slewing)) &&
      (match (s.stn i).owner with
        | some w => w.keepsGroup
        | none => false)) ||
    s.heldByWaitingSteer i

/-- A QUEUED group may dispatch (R41); `before` holds the stations of the earlier groups. -/
def State.mayDispatch (s : State) (before : List Stn) (g : Group) : Bool :=
  decide (g.state = .queued) && g.stations.all fun i => !before.contains i && !s.keepsBack i

/-- The scheduler queue dispatches: it is not suspended, nor about to be by a group with HOLD that is complete already, and no campaign is in
progress (R41, R46; log entry 33). -/
def State.queueOpen (s : State) : Bool :=
  !s.sched.suspended && decide (s.camp.state = .none) && !s.sched.groups.any fun g => g.complete && g.suspends false

/-- An ordinary null plan gives ARRIVED, which counts (R4, R30). -/
def State.countArrival (s : State) (i : Stn) : State := s.modStnStats i fun t => { t with arrivals := bump t.arrivals }

/-- One station of a dispatching group is resolved, or made ADMITTING with its plan (R42). -/
def State.dispatchMember (g : Group) (x : State × List Plan) (i : Stn) : State × List Plan :=
  let s := x.1
  match s.exclusion i with
  | some r => (s.modGroup g.number fun h => h.record i (.excluded r), x.2)
  | none =>
    if (s.stn i).motion.posture?.isNone then x
    else
      match planOrdinary s.cfg i s.wind.stage (s.azPos i) (s.elPos i) g.target g.cap with
      | none => (s.modGroup g.number fun h => h.record i .outOfLimits, x.2)
      | some p =>
        if p.isNull then ((s.modGroup g.number fun h => h.record i .arrived).countArrival i, x.2)
        else (s.beginAdmitting i (.group g.number), x.2 ++ [p])

/-- A group dispatches (R42, R43). -/
def State.dispatchGroup (s : State) (g : Group) : State :=
  let s := s.modGroup g.number fun h => { h with state := .active }
  let x := g.stations.foldl (State.dispatchMember g) (s, [])
  match g.mode with
  | .stagger => x.2.foldl (fun s p => s.joinList (.motion false [p]) .ordinary g.prio) x.1
  | .gang => if x.2 = [] then x.1 else x.1.joinList (.motion true x.2) .ordinary g.prio

/-! ### Dispatch of steers -/

/-- A steer plans with its station at rest (R55). -/
def State.planSteer (s : State) (t : Steer) : State :=
  let i := t.station
  if s.isFree i then
    match planOrdinary s.cfg i s.wind.stage (s.azPos i) (s.elPos i) t.target t.cap with
    | none => s.modSteer t.number fun h => h.record .outOfLimits
    | some p =>
      if p.isNull then (s.modSteer t.number fun h => h.record .arrived).countArrival i
      else
        let s := s.modSteer t.number fun h => { h with state := .active }
        (s.beginAdmitting i (.steer t.number)).joinList (.motion false [p]) .ordinary 6
  else s.modSteer t.number fun h => h.record (.excluded .lockout)

/-- The first QUEUED steer that may dispatch (R52). -/
def findSteer : List Steer → List Stn → Option Steer
  | [], _ => none
  | t :: rest, before =>
    if t.state = .queued ∧ before.contains t.station = false then some t else findSteer rest (before ++ [t.station])

/-- The steer that dispatches next, if one may (R52). -/
def State.nextSteer (s : State) : Option Steer :=
  if s.camp.state = .none then findSteer s.oper.steers [] else none

/-- The steer becomes WAITING_REST (R52, R54). -/
def State.steerWaits (s : State) (t : Steer) : State := s.modSteer t.number fun h => { h with state := .waitingRest }

/-- A steer dispatches, by the state of its station (R52, R53). -/
def State.dispatchSteer (s : State) (t : Steer) : State :=
  let i := t.station
  match (s.stn i).motion with
  | .held | .pointed | .parked => s.planSteer t
  | .admitting => (s.withdrawWaiting i .preempted).planSteer t
  | .slewing => (s.stopMoving i .preempted).steerWaits t
  | .stopping => s.steerWaits t
  | .stowing => s.steerWaits t
  | .stowed => s.modSteer t.number fun h => h.record (.excluded .stowed)
  | .disabled => s.modSteer t.number fun h => h.record (.excluded .disabled)
  | .unknown => s.modSteer t.number fun h => h.record (.excluded .unknown)
  | .lost => s.modSteer t.number fun h => h.record (.excluded .lost)
  | .fault => s.modSteer t.number fun h => h.record (.excluded .fault)
  | .manual => s.modSteer t.number fun h => h.record (.excluded .manual)

/-- What ends the wait of a steer in WAITING_REST (R54). -/
def State.waitEnded (s : State) (t : Steer) : Bool :=
  decide (t.state = .waitingRest) && t.outcome.isNone &&
    (match (s.stn t.station).motion with
      | .held | .lost | .fault | .manual => true
      | _ => false)

/-- The wait of a steer ends (R54). -/
def State.endWait (s : State) (t : Steer) : State :=
  match (s.stn t.station).motion with
  | .held => s.planSteer t
  | .lost => s.modSteer t.number fun h => h.record (.excluded .lost)
  | .fault => s.modSteer t.number fun h => h.record (.excluded .fault)
  | .manual => s.modSteer t.number fun h => h.record (.excluded .manual)
  | _ => s

/-! ### One pass over both queues -/

/-- An action that the two queues take after an event. -/
inductive QueueAct where
  | groupDone (g : Group) | steerDone (t : Steer) | waitEnd (t : Steer) | steerGo (t : Steer) | groupGo (g : Group)
deriving DecidableEq, Repr

/-- The next action of the operator queue: completions, then waits that end, then dispatches. -/
def State.steerAct (s : State) : Option QueueAct :=
  match s.oper.steers.find? (·.outcome.isSome) with
  | some t => some (.steerDone t)
  | none =>
    match s.oper.steers.find? s.waitEnded with
    | some t => some (.waitEnd t)
    | none => s.nextSteer.map .steerGo

/-- The first group, in queue order, that completes or may dispatch. A group that a completion before it lets dispatch, and that has no
station to move, so completes and is reported before a group behind it (R41, R42, R45). `before` holds the stations of the earlier
groups. -/
def State.findGroup (s : State) : List Group → List Stn → Option QueueAct
  | [], _ => none
  | g :: rest, before =>
    if g.complete then some (.groupDone g)
    else if s.queueOpen && s.mayDispatch before g then some (.groupGo g)
    else s.findGroup rest (before ++ g.stations)

/-- Which action is next, if any: the steers come first, since a steer may end a member of any group (R53), and then the groups in queue
order (R45). -/
def State.nextAct (s : State) : Option QueueAct :=
  match s.steerAct with
  | some a => some a
  | none => s.findGroup s.sched.groups []

/-- Takes one action. -/
def State.takeAct (s : State) : QueueAct → State
  | .groupDone g => s.completeGroup g false
  | .steerDone t => s.completeSteer t
  | .waitEnd t => s.endWait t
  | .steerGo t => s.dispatchSteer t
  | .groupGo g => s.dispatchGroup g

/-- Takes actions until none is left (R41, R44, R52, R54, R56). -/
def State.queuePass : Nat → State → State
  | 0, s => s
  | n + 1, s =>
    match s.nextAct with
    | none => s
    | some a => State.queuePass n (s.takeAct a)

/-- More actions than 16 groups and 8 steers can take in one event: each dispatches, waits and completes at most once. -/
def queueFuel : Nat := 64

/-! ### Withdrawals -/

/-- Withdraws or stops a station's motion if this owner has it (R21, R47, R59). -/
def State.endOwned (w : Owner) (o : MoveOutcome) (s : State) (i : Stn) : State :=
  if (s.stn i).owner = some w then
    match (s.stn i).motion with
    | .admitting => s.withdrawWaiting i o
    | .slewing => s.stopMoving i o
    | _ => s
  else s

/-- Gives an outcome to every member of a group, withdrawing or stopping those under way (R47, R59). -/
def State.endGroup (o : MoveOutcome) (s : State) (g : Group) : State :=
  let s := g.stations.foldl (State.endOwned (.group g.number) o) s
  s.modGroup g.number fun h => { h with members := h.members.map fun m => (m.1, some (m.2.getD o)) }

/-- Gives CLEARED to a steer, withdrawing or stopping its station (R59). -/
def State.clearSteer (s : State) (t : Steer) : State :=
  (s.endOwned (.steer t.number) .cleared t.station).modSteer t.number fun h => h.record .cleared

/-- Completes by CLEAR the group that stands with this number (R59). -/
def State.clearedGroup (s : State) (n : Nat) : State :=
  match s.sched.groups.find? fun g => decide (g.number = n) with
  | some g => s.completeGroup g true
  | none => s

/-- Completes the steer that stands with this number. -/
def State.clearedSteer (s : State) (n : Nat) : State :=
  match s.oper.steers.find? fun t => decide (t.number = n) with
  | some t => s.completeSteer t
  | none => s

/-- CLEAR on the two queues (R21, R59, R183): outcomes, reports in queue order, then the displays. -/
def State.clearQueues (s : State) : State :=
  let gs := s.sched.groups
  let ts := s.oper.steers
  let s1 := ts.foldl State.clearSteer (gs.foldl (State.endGroup .cleared) s)
  let s2 := gs.foldl (fun s g => s.clearedGroup g.number) s1
  let s3 := ts.foldl (fun s t => s.clearedSteer t.number) s2
  displayNotices s3 { s3 with sched := { s3.sched with suspended := false } }

/-- HALT on one station (R57). -/
def State.haltStation (s : State) (i : Stn) : State :=
  match (s.stn i).motion with
  | .admitting => s.withdrawWaiting i .halted
  | .slewing => s.stopMoving i .halted
  | .stowing => s.stopMoving i .halted
  | _ =>
    { s with
      oper :=
        { s.oper with
          steers := s.oper.steers.map fun t =>
            if t.station = i ∧ t.state = .waitingRest then t.record .halted else t } }

/-- HALT acts on a station (R57). -/
def State.haltActs (s : State) (i : Stn) : Bool :=
  match (s.stn i).motion with
  | .admitting | .slewing | .stowing => true
  | _ => s.heldByWaitingSteer i

end Sys2Proof.Machine
end

