-- ==== Sys2Proof/Machine/Settle.lean ====
section
/-! DEFINITION. What follows an event: the roster, the campaign, the queues, idle parks, the power allocator and the releases of lockouts
judge what the event changed, until nothing is left to do. -/

namespace Sys2Proof.Machine

/-- The campaign has returned to NONE since `acted`, which has every HELD station judged for a park (R120, R140). -/
def parksAfterCampaign (acted s : State) : State :=
  if s.camp.state = .none ∧ acted.camp.state ≠ .none then s.judgeParks else s

/-- One round of the judgements that follow an event; `old` is the state before it and `acted` the one in which its own blocks have
acted, from which the campaign may pass through ENDING to NONE (R118, R120). Deficit actions come first, so that the groups whose last
slews they shed complete with those of the event itself, in queue order (R45); the releases come last, after what may brake a dish
(R155). -/
def settleOnce (force : Bool) (old acted : State) : State :=
  let x := rosterPass old (old, acted.judgeDeficit)
  let y := rosterPass old (x.1, x.2.judgeCampaign)
  (judgePower force y.1 (parksAfterCampaign acted (y.2.judgeCampaign.queuePass queueFuel))).judgeRests

/-- Further rounds while the last one left the queues something to do. -/
def settleMore : Nat → State → State
  | 0, s => s
  | n + 1, s => if s.nextAct.isSome then settleMore n (settleOnce false s s) else s

/-- Rounds after the first: a deficit action can complete items, and those let others dispatch. -/
def settleFuel : Nat := 8

/-- What follows an event (`old` before it); `force` reconsiders the list whatever changed (R77). -/
def settle (force : Bool) (old s : State) : State := settleMore settleFuel (settleOnce force old s)

end Sys2Proof.Machine
end

