-- ==== Sys2Proof/Machine/Wind.lean ====
section
/-! DEFINITION. The wind monitor: mast frames, rings, figures, the stage and its hand-over (R86 to R100). -/

namespace Sys2Proof.Machine

/-- The highest reading taken (R88). -/
def maxReading : Nat := 800

/-- The places of a ring (R89). -/
def ringPlaces : Nat := 128

/-- The valid readings of a frame, clamped (R88). -/
def validReadings (l : List (Option Nat)) : List Nat := l.filterMap fun r => r.map fun n => min n maxReading

/-- The mast value of a frame (R88). -/
def mastValue (l : List Nat) : Option Nat :=
  match l with
  | [a, b, c] => some (max (min a b) (min (max a b) c))
  | [a, b] => some (max a b)
  | [a] => some a
  | _ => none

/-- The condition of a frame (R88). -/
def conditionOf (valid : Nat) : Condition :=
  match valid with
  | 0 => .noReading
  | 1 => .degraded
  | _ => .normal

/-- A sample joins a ring; a full ring loses its oldest (R89). -/
def pushSample (ring : List Sample) (x : Sample) : List Sample :=
  (if ringPlaces ≤ ring.length then ring.drop (ring.length + 1 - ringPlaces) else ring) ++ [x]

/-- A mast takes a frame (R88, R89). -/
def Mast.take (m : Mast) (readings : List (Option Nat)) (now : Nat) : Mast :=
  let v := validReadings readings
  { m with
    lastFrame := some now, valid := some v.length, condition := some (conditionOf v.length)
    ring := match mastValue v with
      | some x => pushSample m.ring { value := x, time := now }
      | none => m.ring }

/-- A mast takes a frame, and a sample of it moves the silence expiry to its own time plus MAST_SILENCE plus 1 ms (R91). -/
def Mast.hear (m : Mast) (readings : List (Option Nat)) (silence now : Nat) : Mast :=
  let t := m.take readings now
  if validReadings readings = [] then t else { t with silence := some (now + seconds silence + 1) }

/-- Last valid time: the time of the newest sample (R86). -/
def Mast.lastValid (m : Mast) : Option Nat := m.ring.getLast?.map (·.time)

/-- The values of the samples within a span, which is inclusive (R90). -/
def Mast.within (m : Mast) (now secs : Nat) : List Nat :=
  (m.ring.filter fun x => decide (ageOf now x.time ≤ seconds secs)).map (·.value)

/-- Floor of the mean of some values; absent for none (R90). -/
def meanOf (l : List Nat) : Option Nat := if l = [] then none else some (l.sum / l.length)

/-- The largest of some values; absent for none (R90). -/
def maxOf : List Nat → Option Nat
  | [] => none
  | a :: l => some (l.foldl max a)

/-- A mast is live (R91). -/
def Mast.judgeLive (m : Mast) (now silence : Nat) : Bool :=
  match m.lastValid with
  | some t => decide (ageOf now t ≤ seconds silence)
  | none => false

/-- A SET of MAST_SILENCE moves the silence expiry of a live mast, and of one that it makes live again; a live mast whose sample is already
older stops being live at the SET (R91). An expiry that falls on this very moment is still an event (R94). -/
def Mast.moveSilence (m : Mast) (silence now : Nat) : Mast :=
  match m.lastValid with
  | none => m
  | some t =>
    let e := t + seconds silence + 1
    if now < e ∨ (now = e ∧ m.live = true) then { m with silence := some e }
    else if m.live then { m with silence := none }
    else m

/-- A mast is enabled (R87). -/
def Params.mastOn (c : Params) (i : MastNo) : Bool := c.mastEnable.getLsbD i.val

/-- Figures of one mast at an evaluation (R90, R91). -/
def Mast.evaluate (m : Mast) (on : Bool) (c : Params) (now : Nat) : Mast :=
  if on then
    { m with
      mean := meanOf (m.within now c.meanSpan), gust := maxOf (m.within now c.gustSpan)
      live := m.judgeLive now c.mastSilence }
  else { m with live := false }

/-- The live masts. -/
def Wind.liveMasts (w : Wind) : List Mast := w.masts.toList.filter (·.live)

/-- How many masts are enabled. -/
def Params.mastCount (c : Params) : Nat := allMasts.countP c.mastOn

/-- Required live masts (R95). -/
def Params.required (c : Params) : Nat := min c.minMasts c.mastCount

/-- The first step of an evaluation (R90 to R92). -/
def Wind.figures (w : Wind) (c : Params) (now : Nat) : Wind :=
  let w := { w with masts := Vector.ofFn fun i => (w.masts.get i).evaluate (c.mastOn i) c now }
  { w with
    siteMean := maxOf (w.liveMasts.filterMap (·.mean)), siteGust := maxOf (w.liveMasts.filterMap (·.gust)) }

/-- A figure is at or above a level; an absent one reaches none (R96, R97). -/
def reaches (f : Option Nat) (level : Nat) : Bool :=
  match f with
  | some n => decide (level ≤ n)
  | none => false

/-- The site reaches the rise levels of a stage (R96, R97). -/
def Wind.rises (w : Wind) (c : Params) (u : UpStage) : Bool :=
  reaches w.siteMean (c.riseMean.at u) || reaches w.siteGust (c.riseGust.at u)

/-- The highest stage whose rise levels are reached, or CALM (R96, R97). -/
def Wind.reached (w : Wind) (c : Params) : Stage :=
  if w.rises c .stow then .stow
  else if w.rises c .high then .high
  else if w.rises c .breezy then .breezy
  else .calm

/-- The feed check (R95). -/
def Wind.feedCheck (w : Wind) (c : Params) : Wind :=
  let short := decide (w.liveMasts.length < c.required)
  let w := { w with short := short }
  if short && !w.hold then { w with stage := .stow, cause := .feed, dwell := none } else w

/-- The hold check (R96). -/
def Wind.holdCheck (w : Wind) (c : Params) : Wind :=
  if w.hold && !w.short then { w with hold := false, stage := w.reached c, cause := .wind } else w

/-- The rise check (R97). -/
def Wind.riseCheck (w : Wind) (c : Params) : Wind :=
  let g := w.reached c
  if w.stage.rank < g.rank then { w with stage := g, cause := .wind, dwell := none } else w

/-- The fall condition of a stage (R98). -/
def Wind.fallHolds (w : Wind) (c : Params) (u : UpStage) : Bool :=
  (match w.siteMean with
    | some m => decide (m < c.fallMean.at u)
    | none => false) &&
  (match w.siteGust with
    | some g => decide (g < c.fallGust.at u)
    | none => true)

/-- Starts the dwell of the current stage if its condition holds and none runs; stops it if the condition fails (R98). -/
def Wind.dwellStep (w : Wind) (c : Params) (now : Nat) : Wind :=
  match w.stage.up? with
  | none => { w with dwell := none }
  | some u =>
    if w.fallHolds c u then
      match w.dwell with
      | some _ => w
      | none => { w with dwell := some { start := now, expiry := now + seconds (c.dwell.at u) } }
    else { w with dwell := none }

/-- The running dwell has reached its expiry (R98). -/
def Wind.dwellDue (w : Wind) (now : Nat) : Bool :=
  match w.dwell with
  | some d => decide (d.expiry ≤ now)
  | none => false

/-- The current stage's fall condition holds (R98). -/
def Wind.falls (w : Wind) (c : Params) : Bool :=
  match w.stage.up? with
  | some u => w.fallHolds c u
  | none => false

/-- The fall check and the dwell; the stage falls only at the dwell expiry (R98). -/
def Wind.fallCheck (w : Wind) (c : Params) (now : Nat) (expiry : Bool) : Wind :=
  if w.short then { w with dwell := none }
  else if expiry && w.dwellDue now && w.falls c then
    Wind.dwellStep { w with stage := w.stage.below, cause := .wind, dwell := none } c now
  else w.dwellStep c now

/-- The steps of one evaluation (R94). -/
def Wind.judge (w : Wind) (c : Params) (now : Nat) (expiry : Bool) : Wind :=
  let w := ((w.figures c now).feedCheck c).holdCheck c
  if w.hold then w else (w.riseCheck c).fallCheck c now expiry

/-- One evaluation (R94). Where it stops a dwell at the very time of its expiry and is not that expiry's own, the expiry is still to
come and to cause an evaluation, which then finds no dwell running. -/
def Wind.evaluate (w : Wind) (c : Params) (now : Nat) (expiry : Bool) : Wind :=
  let v := w.judge c now expiry
  { v with lapsed := !expiry && (w.lapsed || (w.dwellDue now && !v.dwellDue now)) }

/-- A dwell expiry is to be taken: the dwell's own, or one whose dwell another evaluation of this time has stopped (R94, R98). -/
def Wind.dwellEvent (w : Wind) (now : Nat) : Bool := w.lapsed || w.dwellDue now

/-- Re-plans a waiting motion entry (R36). -/
def Entry.replan (c : Params) (g : Stage) (e : Entry) : Entry :=
  match e.body with
  | .motion k ps => { e with body := .motion k (ps.map (Sys2Proof.Machine.replan c g)) }
  | .heater _ => e

/-- Every waiting motion entry is re-planned, and the stow durations of the roster follow (R36, R123). -/
def State.replanAll (s : State) : State :=
  let l := s.power.list.map (Entry.replan s.cfg s.wind.stage)
  let dur := fun (i : Stn) => l.findSome? fun e => match e.firstPlan with
    | some p => if p.station = i ∧ e.cls = .stow then some p.duration else none
    | none => none
  { s with
    power := { s.power with list := l }
    camp :=
      { s.camp with
        roster := s.camp.roster.map fun e => if e.status = .waitingPower then { e with stowDur := dur e.station } else e } }

/-- A change of stage or of cause alone is handed to the other blocks (R100); `old` is the state before the evaluation. -/
def State.handStage (s old : State) : State :=
  if s.wind.stage = old.wind.stage ∧ s.wind.cause = old.wind.cause then s
  else
    let s := { s with wind := { s.wind with changed := s.clock } }
    let s := if s.wind.stage = old.wind.stage then s else s.replanAll
    (s.noticeBoth .stage).stowTakesStage old

/-- The stage is evaluated (R94). -/
def State.evaluate (s : State) (expiry : Bool) : State :=
  { s with wind := s.wind.evaluate s.cfg s.clock expiry }.handStage s

/-- A MAST frame is taken (R88). -/
def State.takeMast (s : State) (num : Nat) (readings : List (Option Nat)) : State :=
  if h : 1 ≤ num ∧ num ≤ 4 then
    let i : MastNo := ⟨num - 1, by omega⟩
    if s.cfg.mastOn i then
      let now := s.clock
      { s with wind := { s.wind with masts := upd s.wind.masts i fun m => m.hear readings s.cfg.mastSilence now } }.evaluate false
    else s
  else s

/-- A SET of MAST_ENABLE has been written: the masts that it removed or added start afresh (R87). -/
def State.enableMasts (s : State) (before : Params) : State :=
  { s with
    wind :=
      { s.wind with
        masts := Vector.ofFn fun i =>
          if s.cfg.mastOn i = before.mastOn i then s.wind.masts.get i else Mast.reset } }

/-- A SET of MAST_SILENCE reaches the masts (R91). -/
def State.moveMastSilence (s : State) : State :=
  let now := s.clock
  { s with wind := { s.wind with masts := s.wind.masts.map fun m => m.moveSilence s.cfg.mastSilence now } }

/-- The mast's silence expiry has come (R91). -/
def State.silenceDue (s : State) (i : MastNo) : Bool :=
  match (s.wind.masts.get i).silence with
  | some e => decide (e ≤ s.clock)
  | none => false

/-- A silence expiry is taken: it causes an evaluation of its own, whatever another at the same time has judged (R91, R94). -/
def State.silenceEnd (s : State) (i : MastNo) : State :=
  { s with wind := { s.wind with masts := upd s.wind.masts i fun m => { m with silence := none } } }.evaluate false

end Sys2Proof.Machine
end

