-- ==== Sys2Proof/Machine/Bus.lean ====
section
/-! DEFINITION. The drive bus and the panel line: visits, replies, misses, loss, rejections, and the transitions of a station that a
reply causes (R10 to R16, R141, R147, R148, R159 to R172). -/

namespace Sys2Proof.Machine

/-! ### Choosing a command -/

/-- A MOVE may be sent by the cabinet's last status: every axis BRAKED or HOLDING (R161). -/
def Cabinet.atRest (k : Cabinet) : Bool :=
  match k.last with
  | some x => x.status.az.phase.still && x.status.el.phase.still
  | none => false

/-- The MOVE in the motion slot, unless it is passed over (R161). -/
def Cabinet.moveToSend (k : Cabinet) (free : Bool) : Option Sent :=
  match k.motion with
  | some (.move m) => if free && k.atRest then some (.motion (.move m)) else none
  | _ => none

/-- The pin command in its slot, unless it is passed over (R161). -/
def Cabinet.pinToSend (k : Cabinet) (free : Bool) : Option Sent :=
  match k.pin with
  | some c => if free then some (.pin c) else none
  | none => none

/-- What a visit sends, by the order of R161. -/
def Cabinet.choose (k : Cabinet) (free : Bool) : Sent :=
  if k.motion = some .stop then .motion .stop
  else if k.heat = some .heatOff then .heat .heatOff
  else if k.motion = some .brake then .motion .brake
  else
    match k.moveToSend free with
    | some c => c
    | none =>
      match k.pinToSend free with
      | some c => c
      | none => if k.heat = some .heatOn then .heat .heatOn else .poll

/-- A command leaves its slot (R160). -/
def Cabinet.unslot (k : Cabinet) (c : Sent) : Cabinet :=
  match c with
  | .poll => k
  | .motion _ => { k with motion := none }
  | .pin _ => { k with pin := none }
  | .heat _ => { k with heat := none }

/-- The station's cabinet is visited with POLL only (R161). -/
def State.pollOnly (s : State) (i : Stn) : Bool :=
  decide ((s.stn i).motion = .unknown) || decide ((s.stn i).motion = .lost)

/-- A visit begins (R160, R161). -/
def State.beginVisit (s : State) (i : Stn) : State :=
  let c := if s.pollOnly i then .poll else (s.cab i).choose (s.isFree i)
  let s := s.modCab i fun k => { k.unslot c with outstanding := some { cmd := c, mark := true } }
  { s with
    bus := { s.bus with
      visit := some { station := i, start := s.clock, timeout := s.cfg.replyTimeout, void := false } } }

/-- The next of some stations in ascending order after a number, or the lowest (R148, R160). -/
def nextOf (l : List Stn) (after : Option Stn) : Option Stn :=
  match after with
  | none => l.head?
  | some a =>
    match l.find? fun i => decide (a.val < i.val) with
    | some i => some i
    | none => l.head?

/-- The stations whose cabinets are in cycle. -/
def State.inCycle (s : State) : List Stn := allStns.filter fun i => (s.cab i).inCycle

/-- The next visit begins after this station's, or the bus is idle (R160). -/
def State.nextVisit (s : State) (after : Option Stn) : State :=
  match nextOf s.inCycle after with
  | some i => s.beginVisit i
  | none => { s with bus := { s.bus with visit := none } }

/-- The next panel visit begins, or the panel line is idle (R148). -/
def State.nextPanel (s : State) (after : Option Stn) : State :=
  let v : Option PanelVisit :=
    (nextOf s.enabledStns after).map fun i =>
      { station := i, lamps := (s.lock i).lamps, start := s.clock, timeout := s.cfg.replyTimeout, void := false }
  { s with locks := { s.locks with visit := v } }

/-! ### Loss -/

/-- A station becomes LOST (R167). -/
def State.lose (s : State) (i : Stn) : State :=
  let s := (s.emptySlots i).modStnStats i fun t => { t with losses := bump t.losses }
  let s := ((s.leaveStowed i .lost).leaveMotion i).giveOutcome i .lost
  let s := ((s.modMotionGrant i Grant.freeze).modHeatGrant i Grant.freeze).loseHeat i
  (s.setMotion i .lost).judgeLock i

/-! ### Transitions that a reply causes -/

/-- A fault code other than 0 on either axis. -/
def CabStatus.faulty (st : CabStatus) : Bool := decide (st.az.fault ≠ 0) || decide (st.el.fault ≠ 0)

/-- Both axes BRAKED. -/
def CabStatus.braked (st : CabStatus) : Bool := decide (st.az.phase = .braked) && decide (st.el.phase = .braked)

/-- STOW_TOL (R10). -/
def stowTol : Nat := 100

/-- The reply shows the stow posture (R10). -/
def CabStatus.showsStowed (st : CabStatus) : Bool :=
  st.braked && decide (st.pin = .pinIn) && decide ((st.el.pos - zenith).natAbs ≤ stowTol)

/-- The station becomes STOPPING with a STOP placed (R10, R12, R14). -/
def State.stopAfresh (s : State) (i : Stn) : State := (s.placeMotion i .stop).setMotion i .stopping

/-- The first good reply after UNKNOWN or LOST (R10). -/
def State.resolveFirst (s : State) (i : Stn) (st : CabStatus) : State :=
  if st.switch = .localDrive then s.setMotion i .manual
  else if st.faulty then s.setMotion i .fault
  else if st.showsStowed then s.setMotion i .stowed
  else if st.braked then s.setMotion i .held
  else s.stopAfresh i

/-- The motion of a station is ended by the local switch or a fault: the entry leaves the list, the owner takes the outcome and a
MOVE not yet sent is withdrawn (R11, R13). A PIN_OUT not yet sent of an UNPINNING station stays in its slot: the model's choice (log
entry 36). -/
def State.takenAway (s : State) (i : Stn) (m : Motion) (r : Reason) (o : MoveOutcome) : State :=
  let s := ((s.leaveStowed i r).leaveMotion i).giveOutcome i o
  (s.withdrawMotion i MotionCmd.isMove).setMotion i m

/-- The axes that have a target, with what the reply shows of them (R16). -/
def movedAxes (r : Station) (st : CabStatus) : List (Int × AxisStatus) :=
  (r.az.target.map fun t => (t, st.az)).toList ++ (r.el.target.map fun t => (t, st.el)).toList

/-- An axis is within ARRIVE_TOL of its target (R16). -/
def nearTarget (tol : Nat) (x : Int × AxisStatus) : Bool := decide ((x.2.pos - x.1).natAbs ≤ tol)

/-- Arrival of an ordinary slew (R16). -/
def State.judgeArrival (s : State) (i : Stn) (st : CabStatus) : State :=
  let axes := movedAxes (s.stn i) st
  if axes.all fun x => x.2.phase.still then
    if axes.any fun x => decide (x.2.phase = .braked) then
      ((s.giveOutcome i .short).placeMotion i .brake).setMotion i .stopping
    else
      let o := if axes.all (nearTarget s.cfg.arriveTol) then MoveOutcome.arrived else .short
      (s.giveOutcome i o).setMotion i .pointed
  else s

/-- The outcome of a rejected MOVE (R169). -/
def refusedOutcome (v : Verdict) : MoveOutcome := if v = .rejected .localDrive then .localDrive else .driveRefused

/-- A rejected MOVE ends its motion (R169). -/
def State.moveRefused (s : State) (i : Stn) (st : CabStatus) (origin : Posture) (v : Verdict) : State :=
  let s := s.giveOutcome i (refusedOutcome v)
  if st.az.phase.moving || st.el.phase.moving then s.stopAfresh i
  else if st.braked then s.setMotion i (if origin = .parked then .parked else .held)
  else (s.placeMotion i .brake).setMotion i .stopping

/-- The reply REJECTED a MOVE that nothing has overtaken: its origin posture (R169). -/
def refusedMove (a : Answer) (mark : Bool) : Option Posture :=
  match a.cmd, a.verdict with
  | .motion (.move m), .rejected _ => if mark then some m.origin else none
  | _, _ => none

/-- The owner of an ordinary slew (R16). -/
def Owner.isOrdinary : Owner → Bool
  | .group _ => true
  | .steer _ => true
  | .stow => false
  | .snow => false

/-- A station with the switch at REMOTE and no fault takes a reply, by its motion state before it (R12, R14 to R16, R169). -/
def State.stationRemote (s : State) (i : Stn) (st : CabStatus) (tk : TakenFlags) (a : Answer) (mark : Bool) : State :=
  match (s.stn i).motion with
  | .manual => s.stopAfresh i
  | .fault => if st.braked then s.setMotion i .held else s.stopAfresh i
  | .stopping => if st.braked then s.setMotion i .held else s
  | .slewing =>
    match refusedMove a mark with
    | some p => s.moveRefused i st p a.verdict
    | none =>
      match (s.stn i).owner with
      | some w => if w.isOrdinary && tk.motion then s.judgeArrival i st else s
      | none => s
  | .stowing =>
    match refusedMove a mark with
    | some p => s.moveRefused i st p a.verdict
    | none => s
  | _ => s

/-- A station takes a reply (R10 to R16, R169); `first` after UNKNOWN or LOST. -/
def State.stationReply (s : State) (i : Stn) (st : CabStatus) (first : Bool) (tk : TakenFlags) (a : Answer)
    (mark : Bool) : State :=
  if first then s.resolveFirst i st
  else if st.switch = .localDrive then
    if (s.stn i).motion = .manual then s else s.takenAway i .manual .manual .localDrive
  else if st.faulty then
    if (s.stn i).motion = .fault then s else s.takenAway i .fault .fault .fault
  else s.stationRemote i st tk a mark

/-- A park takes a reply (R141). -/
def State.parkReply (s : State) (i : Stn) (st : CabStatus) (tk : TakenFlags) : State :=
  if (s.stn i).owner = some .snow ∧ (s.stn i).motion = .slewing ∧ tk.motion = true then
    match s.park i with
    | some .moving =>
      if st.el.phase.still then (s.placeMotion i .brake).setPark i (some .braking) else s
    | some .braking =>
      if st.braked then
        let near := match (s.stn i).el.target with
          | some t => nearTarget s.cfg.arriveTol (t, st.el)
          | none => true
        (s.giveOutcome i (if near then .arrived else .short)).setMotion i .parked
      else s
    | _ => s
  else s

/-- The station record takes the status contents (R3). -/
def Station.write (r : Station) (st : CabStatus) : Station :=
  { r with
    az := { r.az with pos := some st.az.pos, phase := some st.az.phase, fault := some st.az.fault }
    el := { r.el with pos := some st.el.pos, phase := some st.el.phase, fault := some st.el.fault }
    pin := some st.pin, switch := some st.switch, temp := st.temp }

/-! ### A good reply -/

/-- The cabinet record takes a good reply (R165). -/
def Cabinet.takeReply (k : Cabinet) (st : CabStatus) (a : Answer) (now : Nat) : Cabinet :=
  let ok := decide (a.verdict = .accepted)
  let mark := match k.outstanding with
    | some o => o.mark
    | none => false
  { k with
    misses := 0, last := some { status := st, time := now }, outstanding := none
    motionTaken := k.motionTaken || (ok && mark && a.cmd.isMotion)
    pinTaken := k.pinTaken || (ok && mark && a.cmd.isPin)
    heatTaken := k.heatTaken || (ok && mark && a.cmd.isHeat) }

/-- The return mark of the outstanding command. -/
def Cabinet.mark (k : Cabinet) : Bool :=
  match k.outstanding with
  | some o => o.mark
  | none => false

/-- What the cabinet has ACCEPTED of the commands last placed. -/
def Cabinet.taken (k : Cabinet) : TakenFlags := { motion := k.motionTaken, pin := k.pinTaken, heat := k.heatTaken }

/-- The reply answers a MOVE (R67). -/
def Answer.answersMove (a : Answer) : Bool :=
  match a.cmd with
  | .motion c => c.isMove
  | _ => false

/-- The allocator's part of a reply that depends on whether it is the first (R67, R81, R82). -/
def State.allocFirst (s : State) (i : Stn) (st : CabStatus) (first : Bool) (a : Answer) : State :=
  if first then
    let sur := s.surchargeNow
    let q := s.cfg.phaseP
    (s.modMotionGrant i fun g => g.adopt (phaseSum q sur st.az.phase st.el.phase) sur).settleHeatFirst i st.closed
  else if a.answersMove then s.modMotionGrant i fun g => { g with awaiting := false }
  else s

/-- A STOP or BRAKE that was rejected returns to an empty motion slot (R170). -/
def State.returnRejected (s : State) (i : Stn) (st : CabStatus) (a : Answer) : State :=
  match a.cmd, a.verdict with
  | .motion c, .rejected _ =>
    if c.isMove = false ∧ st.switch = .remote ∧ st.faulty = false ∧ (s.cab i).motion = none then
      s.modCab i fun k => { k with motion := some c }
    else s
  | _, _ => s

/-- Whether the lockout manager's part is taken before the station's: a free choice where R11 leaves either order, for a reply that
shows LOCAL to a station whose status is open. -/
def State.lockFirst (s : State) (i : Stn) (st : CabStatus) : Bool :=
  decide (st.switch = .localDrive) && (s.lock i).status.open && Config.lockoutBeforeSwitch s.choices

/-- The lockout manager and the station take a reply in the order chosen (R11, R165). -/
def State.lockAndStation (s : State) (i : Stn) (st : CabStatus) (first : Bool) (tk : TakenFlags) (a : Answer)
    (mark : Bool) : State :=
  if s.lockFirst i st then
    (((s.lockReply i st a).judgeLock i).stationReply i st first tk a mark).judgeLock i
  else ((s.stationReply i st first tk a mark).lockReply i st a).judgeLock i

/-- The stow sequencer and the park take a reply (R108 to R110, R119, R141). -/
def State.jobsReply (s : State) (i : Stn) (st : CabStatus) (tk : TakenFlags) (a : Answer) : State :=
  (s.stowReply i st tk a).parkReply i st tk

/-- Whether the snow melt controller's cycle computation sees the motion state from before or from after the reply: a free choice
where they differ in being STOWED (R165). -/
def State.stowedSeen (s : State) (i : Stn) (was : Bool) : Bool :=
  if Config.heaterBeforeMotion s.choices then was else s.isStowed i

/-- The snow melt controller takes a reply (R132, R134, R138, R139). -/
def State.heatTakes (s : State) (i : Stn) (st : CabStatus) (first : Bool) (tk : TakenFlags) (a : Answer)
    (was : Bool) : State :=
  let seen := s.stowedSeen i was
  if first then s.judgeBarAs i seen else (s.heatReply i st.closed tk.heat a seen).judgeBarAs i seen

/-- Every block takes a good reply (R165). -/
def State.takeReply (s : State) (i : Stn) (st : CabStatus) (a : Answer) : State :=
  let k := s.cab i
  let first := s.pollOnly i
  let was := s.isStowed i
  let now := s.clock
  let s := (s.modCab i fun k => k.takeReply st a now).modStn i fun r => r.write st
  let s := (s.allocFirst i st first a).allocReply i st
  let s := (s.lockAndStation i st first k.taken a k.mark).jobsReply i st k.taken a
  let s := s.heatTakes i st first k.taken a was
  let s := (s.returnRejected i st a).judgeLock i
  { s with choices := s.choices + 1 }

/-- The verdict suits the request: none exactly for POLL (R164). -/
def verdictSuits (c : Sent) (v : Verdict) : Bool := decide (c = .poll) == decide (v = .none)

/-- What a frame of the drive bus carries to the visit in progress, if it is good (R164). -/
def State.goodStatus (s : State) (v : BusVisit) (bytes : List Byte) : Option (CabStatus × Answer) :=
  if s.clock ≤ v.start + v.timeout then
    match polledFrame bytes with
    | some f =>
      if f.kind = kindStatus ∧ f.tag.toNat = v.station.val + 1 then
        match statusOf f.payload, (s.cab v.station).outstanding with
        | some (vd, st), some o => if verdictSuits o.cmd vd then some (st, { cmd := o.cmd, verdict := vd }) else none
        | _, _ => none
      else none
    | none => none
  else none

/-- What the visit in progress brings is not taken: its station has been disabled (R3, R159). -/
def State.visitVoid (s : State) (v : BusVisit) : Bool := v.void || s.isDisabled v.station

/-- The visit in progress ends and the next begins (R160). -/
def State.endVisit (s : State) (v : BusVisit) : State := s.nextVisit (some v.station)

/-- The outstanding command becomes absent without being returned or counted (R159). -/
def State.dropOutstanding (s : State) (i : Stn) : State := s.modCab i fun k => { k with outstanding := none }

/-! ### A miss -/

/-- The outstanding command returns to its slot if its mark is set and the slot is empty (R166). -/
def Cabinet.restore (k : Cabinet) : Cabinet :=
  let k' := { k with outstanding := none }
  match k.outstanding with
  | none => k'
  | some o =>
    if o.mark then
      match o.cmd with
      | .poll => k'
      | .motion c => if k.motion = none then { k' with motion := some c } else k'
      | .pin c => if k.pin = none then { k' with pin := some c } else k'
      | .heat c => if k.heat = none then { k' with heat := some c } else k'
    else k'

/-- The most that a miss count holds (R159). -/
def maxMisses : Nat := 15

/-- The station becomes LOST when its miss count has reached MISS_LIMIT (R166, R167, R172). -/
def State.judgeLoss (s : State) (i : Stn) : State :=
  let m := (s.stn i).motion
  if s.cfg.missLimit ≤ (s.cab i).misses ∧ m ≠ .lost ∧ m ≠ .disabled then s.lose i else s

/-- A miss (R166). -/
def State.miss (s : State) (i : Stn) : State :=
  let s := s.modCab i fun k => { k.restore with misses := min maxMisses (k.misses + 1) }
  (s.modStnStats i fun t => { t with misses := bump t.misses }).judgeLoss i

/-! ### Enable and disable -/

/-- A station is enabled (R8, R113, R147, R159). -/
def State.enableStation (s : State) (i : Stn) : State :=
  let s := (s.modStn i fun r => { r with enabled := true }).setMotion i .unknown
  let s := s.modCab i fun k => { Cabinet.reset with inCycle := true, outstanding := k.outstanding }
  let s := (s.modLock i fun r => r.setStates .pending).judgeLockBar i
  match s.camp.state with
  | .active | .holding | .calm => s.giveEntry i (.excluded .unknown)
  | _ => s

/-- The conditions that a named enabled station must meet for a DISABLE (R9). -/
def State.mayDisable (s : State) (i : Stn) : Bool :=
  (s.stn i).motion.isResting && decide ((s.stn i).owner = none) && decide ((s.motionGrant i).amount = 0) &&
    decide ((s.heatGrant i).amount = 0)

/-- The cabinet fields of a station record become absent (R9). -/
def Station.blank (r : Station) : Station :=
  { r with enabled := false, az := AxisRec.absent, el := AxisRec.absent, pin := none, switch := none, temp := none }

/-- A visit to a disabled station's cabinet or panel is not taken (R147, R159). -/
def State.voidVisits (s : State) (i : Stn) : State :=
  { s with
    bus := { s.bus with visit := s.bus.visit.map fun v => if v.station = i then { v with void := true } else v }
    locks := { s.locks with visit := s.locks.visit.map fun v => if v.station = i then { v with void := true } else v } }

/-- A station is disabled (R9, R113, R147, R159). Its channel is BARRED at once by R9, also one that R137 would put in STOPPING: the
model's choice, which only a HEATER_P of 0 lets arise (log entry 38). -/
def State.disableStation (s : State) (i : Stn) : State :=
  let s := (s.modStn i Station.blank).setMotion i .disabled
  let s := s.modCab i fun k => { Cabinet.reset with outstanding := k.outstanding }
  let s := (s.voidVisits i).modLock i LockRec.disable
  let s := (s.dropEntry i).leaveHeat i
  (s.judgeLock i).setChan i .barred

/-- The bus and the panel line become active if they were idle (R148, R160). -/
def State.wakeLines (s : State) : State :=
  let s := match s.bus.visit with
    | none => s.nextVisit none
    | some _ => s
  match s.locks.visit with
  | none => s.nextPanel none
  | some _ => s

/-! ### Panel replies -/

/-- What the panel visit in progress brings is not taken: its station has been disabled (R147). -/
def State.panelVoid (s : State) (v : PanelVisit) : Bool := v.void || s.isDisabled v.station

/-- What a frame of the panel line carries to the visit in progress, if it is good (R148). -/
def State.goodKeys (s : State) (v : PanelVisit) (bytes : List Byte) : Option (List (Option (Nat × LockKind))) :=
  if s.clock ≤ v.start + v.timeout then
    match polledFrame bytes with
    | some f => if f.kind = kindKeys ∧ f.tag.toNat = v.station.val + 1 then keysOf f.payload else none
    | none => none
  else none

end Sys2Proof.Machine
end

