-- ==== Sys2Proof/Machine/Links.lean ====
section
/-! DEFINITION. The searching receivers, and the taking of a request with its reply (R173 to R176). -/

namespace Sys2Proof.Machine

/-! ### Receivers -/

/-- The receiver of a line (R173). -/
def State.rx (s : State) : Line → Receiver
  | .linkS => s.linkS.rx
  | .linkO => s.linkO.rx
  | .site => s.site

/-- Rewrites the receiver of a line. -/
def State.setRx (s : State) (ln : Line) (r : Receiver) : State :=
  match ln with
  | .linkS => { s with linkS := { s.linkS with rx := r } }
  | .linkO => { s with linkO := { s.linkO with rx := r } }
  | .site => { s with site := r }

/-- The first candidate of a searched stream: what follows the first delimiter (R173). -/
def candidate (l : List Byte) : List Byte := (l.dropWhile fun b => b != delimiter).drop 1

/-- What a receiver has found in its stream (R173). -/
inductive Found where
  | nothing
  | start (held : List Byte)
  | good (f : Frame) (rest : List Byte)
  | bad (held : List Byte)
deriving DecidableEq, Repr

/-- What a receiver finds in the bytes it holds followed by further bytes (R173). -/
def Receiver.find (r : Receiver) (bytes : List Byte) : Found :=
  let l := r.held ++ bytes
  if r.collecting then
    match l with
    | [] => .nothing
    | len :: rest =>
      match collect len rest with
      | none => .nothing
      | some (some f, tail) => .good f tail
      | some (none, _) => .bad (len :: rest)
  else
    match candidate l with
    | [] => .nothing
    | len :: rest => if lenOk len then .start (len :: rest) else .bad (len :: rest)

/-- The link on which a discard of a line raises LOST_INPUT (R173). -/
def lostOn : Line → Link
  | .linkS => .S
  | .linkO => .O
  | .site => .O

/-- A candidate is discarded (R173). -/
def State.discard (s : State) (ln : Line) (held : List Byte) : State :=
  let s := (s.setRx ln { collecting := false, held := held }).modLine ln fun t => { t with bad := bump t.bad }
  s.notice (lostOn ln) .lostInput

/-- A good frame has been gathered: it counts, and the search resumes (R173, R174). -/
def State.gathered (s : State) (ln : Line) (rest : List Byte) : State :=
  (s.setRx ln { collecting := false, held := rest }).modLine ln fun t => { t with good := bump t.good }

/-- Places of an input FIFO (R174). -/
def fifoPlaces : Nat := 8

/-- A good frame joins the input FIFO of its link, or is dropped (R174, R175). -/
def State.joinFifo (s : State) (l : Link) (f : Frame) : State :=
  if fifoPlaces ≤ (s.link l).fifo.length then
    (s.modLine (lineOf l) fun t => { t with dropped := bump t.dropped }).notice l .lostInput
  else
    let p := s.cfg.pauseAt
    s.modLink l fun k => LinkState.judgePause { k with fifo := k.fifo ++ [f] } p

/-- A good frame of the site line that satisfies p, with the state that has gathered it (R174). -/
def State.siteFrame (s : State) (bytes : List Byte) (p : Frame → Bool) : Option (Frame × State) :=
  match s.site.find bytes with
  | .good f rest => if p f then some (f, s.gathered .site rest) else none
  | _ => none

/-! ### Requests -/

/-- Writes the payload of the reply that waits (R176). -/
def fillFrame (p : List Byte) (f : Frame) : Frame := if f.isReply then { f with payload := p } else f

/-- Writes the payload of a link's reply wherever it waits (R176). -/
def LinkState.fillReply (k : LinkState) (p : List Byte) : LinkState :=
  { k with order := k.order.map (fillFrame p), sending := k.sending.map (fillFrame p) }

/-- The oldest frame of a link's FIFO, if this command takes it and no reply waits or is being sent (R176). -/
def State.requestFor (s : State) (l : Link) (c : Instr) : Option Frame :=
  match (s.link l).fifo with
  | [] => none
  | f :: _ => if requestOf l f.kind = c ∧ (s.link l).replyBusy = false then some f else none

/-- A request leaves the FIFO, the count is judged, and the place of its reply is taken in the transmit order (R175, R176). -/
def State.openRequest (s : State) (l : Link) (f : Frame) : State :=
  let g := s.cfg.goAt
  s.modLink l fun k =>
    (LinkState.judgeGo { k with fifo := k.fifo.tail } g).placeTail { kind := kindReply, tag := f.tag, payload := [] }

/-- The reply takes its code and data (R176). -/
def State.answer (s : State) (l : Link) (kind : Byte) (c : Code) (data : List Byte) : State :=
  s.modLink l fun k => k.fillReply (replyPayload kind c data)

/-- A request that changes nothing but what it answers is taken (R176). -/
def State.takeQuery (s : State) (l : Link) (c : Instr) (q : State → List Byte → Code × List Byte) : State :=
  match s.requestFor l c with
  | none => s
  | some f =>
    let s' := s.openRequest l f
    let r := q s' f.payload
    s'.answer l f.kind r.1 r.2

/-- What a block makes of a request: the state, the code, the data, and whether the admission list is reconsidered whatever
changed (R77). -/
structure Result where
  state : State
  code : Code
  data : List Byte
  force : Bool
deriving DecidableEq, Repr

/-- A request that is refused, changing nothing (R176). -/
def State.refuse (s : State) (c : Code) : Result := { state := s, code := c, data := [], force := false }

/-- A request that is taken, with its data. -/
def State.done (s : State) (data : List Byte) : Result := { state := s, code := .done, data := data, force := false }

/-- A request that may change state is taken: the block acts, what follows is settled, and the reply is written into the place it
took before (R176). -/
def State.takeRequest (s : State) (l : Link) (c : Instr) (h : State → List Byte → Result) : State :=
  match s.requestFor l c with
  | none => s
  | some f =>
    let s' := s.openRequest l f
    let r := h s' f.payload
    let s'' := if r.code = .done then settle r.force s' r.state else r.state
    s''.answer l f.kind r.code r.data

end Sys2Proof.Machine
end

