-- ==== Sys2Proof/Machine/Requests.lean ====
section
/-! DEFINITION. The requests of Link S and Link O that act: their handlers, and one meaning for each command (R8, R9, R17, R39 to
R59, R84, R116, R118, R125, R150, R181 to R183). -/

namespace Sys2Proof.Machine

/-- A payload without bytes (R191). -/
def noArgs (p : List Byte) (r : Unit → Result) (s : State) : Result := if p = [] then r () else s.refuse .badArg

/-- Places of the scheduler queue (R38). -/
def groupPlaces : Nat := 16

/-- Places of the operator queue (R51). -/
def steerPlaces : Nat := 8

/-! ### Link S -/

/-- An accepted SLEW joins the tail (R39, R40). -/
def State.addGroup (s : State) (a : SlewArgs) : State :=
  let n := s.sched.take
  let g : Group :=
    { number := n, state := .queued, members := a.stations.map fun i => (i, none), target := a.target, cap := a.cap,
      prio := a.prio, mode := a.mode, hold := a.hold }
  displayNotices s { s with sched := { s.sched with groups := s.sched.groups ++ [g], next := numberAfter n } }

/-- SLEW (R39). -/
def takeSlew (s : State) (p : List Byte) : Result :=
  match slewArgs p with
  | none => s.refuse .badArg
  | some a =>
    if groupPlaces ≤ s.sched.groups.length then s.refuse .full
    else (s.addGroup a).done (u16 s.sched.take)

/-- The group of a number. -/
def State.group? (s : State) (n : Nat) : Option Group := s.sched.groups.find? fun g => decide (g.number = n)

/-- CANCEL (R47). -/
def takeCancel (s : State) (p : List Byte) : Result :=
  match p with
  | [a, b] =>
    if rd16 a b = 0 then s.refuse .badArg
    else
      match s.group? (rd16 a b) with
      | none => s.refuse .noSuch
      | some g => (s.endGroup .cancelled g).done []
  | _ => s.refuse .badArg

/-- The QUEUED groups. -/
def State.queuedGroups (s : State) : List Group := s.sched.groups.filter fun g => decide (g.state = .queued)

/-- FLUSH (R48). -/
def takeFlush (s : State) (p : List Byte) : Result :=
  noArgs p (fun _ => (s.queuedGroups.foldl (State.endGroup .cancelled) s).done (u16 s.queuedGroups.length)) s

/-- RESUME (R46). -/
def takeResume (s : State) (p : List Byte) : Result :=
  noArgs p (fun _ => (displayNotices s { s with sched := { s.sched with suspended := false } }).done []) s

/-- REST (R17). -/
def takeRest (s : State) (p : List Byte) : Result :=
  match setArg p with
  | none => s.refuse .badArg
  | some l =>
    let b := l.filter fun i => decide ((s.stn i).motion = .pointed)
    (b.foldl State.brakePointed s).done (encSet b)

/-! ### Link O -/

/-- An accepted STEER joins the tail (R51). -/
def State.addSteer (s : State) (a : SteerArgs) : State :=
  let n := s.oper.take
  let t : Steer :=
    { number := n, station := a.station, target := a.target, cap := a.cap, state := .queued, outcome := none }
  displayNotices s { s with oper := { s.oper with steers := s.oper.steers ++ [t], next := numberAfter n } }

/-- STEER (R51). -/
def takeSteer (s : State) (p : List Byte) : Result :=
  match steerArgs p with
  | none => s.refuse .badArg
  | some a =>
    if steerPlaces ≤ s.oper.steers.length then s.refuse .full
    else (s.addSteer a).done (u16 s.oper.take)

/-- A station set payload that is not empty. -/
def someStns (p : List Byte) : Option (List Stn) :=
  match setArg p with
  | some [] => none
  | x => x

/-- HALT (R57). -/
def takeHalt (s : State) (p : List Byte) : Result :=
  match someStns p with
  | none => s.refuse .badArg
  | some l => (l.foldl State.haltStation s).done (encSet (l.filter s.haltActs))

/-- An entry that STOW_ALL builds afresh (R116). -/
def State.stowAllBuilds (s : State) (i : Stn) : Bool :=
  match s.rosterStatus? i with
  | none => true
  | some .halted => true
  | some (.interrupted .driveRefused) => true
  | some _ => false

/-- STOW_ALL by the campaign state (R116). -/
def State.stowAll (s : State) : State :=
  match s.camp.state with
  | .none => s.startOrRestart .operator
  | .ending => s.startOrRestart .operator
  | .active | .holding | .calm =>
    let t := s.addCause .operator
    let t := (t.enabledStns.filter t.stowAllBuilds).foldl State.buildEntry t
    (t.rejoinAll s).resumeCampaign

/-- STOW_ALL (R116). -/
def takeStowAll (s : State) (p : List Byte) : Result :=
  noArgs p (fun _ => let t := s.stowAll; t.done (u16 (t.stowOwned - s.stowOwned))) s

/-- UNSTOW is accepted (R118). -/
def State.unstowAccepted (s : State) : Bool :=
  match s.camp.state with
  | .calm => true
  | .holding => s.camp.operatorHeld && decide (s.wind.stage ≠ .stow)
  | .none => decide (s.stowedStns ≠ [])
  | .active => false
  | .ending => false

/-- The counts that an accepted UNSTOW carries (R118). -/
def unstowCounts (c : Campaign) : List Byte := u16 (c.count .unpinning) ++ u16 (c.count .unpinned) ++ u16 (c.count .locked)

/-- UNSTOW (R118). Where it is DONE with no effect, the reply carries the three counts at 0: the model's choice (log entry 35). -/
def takeUnstow (s : State) (p : List Byte) : Result :=
  noArgs p
    (fun _ =>
      if s.unstowAccepted then let t := s.beginEnding; t.done (unstowCounts t.camp)
      else if s.camp.state = .none then s.done (u16 0 ++ u16 0 ++ u16 0)
      else s.refuse .state) s

/-- What SNOW_ON and SNOW_OFF carry (R125). The precipitation class goes as an optional code, 0 for absent and else the class plus 1: the
model's choice (log entry 20). -/
def snowData (w : Snow) : List Byte :=
  u8 w.mode.ctorIdx ++ encOptCode (w.source.map (·.ctorIdx)) ++ encOptCode (w.cls.map (·.ctorIdx)) ++ encTemp w.air

/-- SNOW_ON (R125). -/
def takeSnowOn (s : State) (p : List Byte) : Result :=
  noArgs p (fun _ => let t := s.snowTurnOn .command; t.done (snowData t.snow)) s

/-- SNOW_OFF (R125). -/
def takeSnowOff (s : State) (p : List Byte) : Result :=
  noArgs p (fun _ => let t := s.snowTurnOff; t.done (snowData t.snow)) s

/-- CONSOLE_LOCK (R150). -/
def takeConsoleLock (s : State) (p : List Byte) : Result :=
  match consoleLockArgs p with
  | none => s.refuse .badArg
  | some (i, k, h, q) =>
    if ((s.lock i).slots.get k).isSome || s.isDisabled i then s.refuse .state
    else ((s.joinSlot i k h q).judgeLockBar i).done []

/-- CONSOLE_UNLOCK (R150). -/
def takeConsoleUnlock (s : State) (p : List Byte) : Result :=
  match consoleUnlockArgs p with
  | none => s.refuse .badArg
  | some (i, k, h) =>
    match (s.lock i).slots.get k with
    | none => s.refuse .noSuch
    | some e => if e.holder = h then ((s.emptySlot i k).judgeLockBar i).done [] else s.refuse .state

/-- WRITE_OFF (R84). -/
def takeWriteOff (s : State) (p : List Byte) : Result :=
  match stationArg p with
  | none => s.refuse .badArg
  | some i =>
    if (s.stn i).motion = .lost then
      let n := (s.motionGrant i).writeOffAmount + (s.heatGrant i).writeOffAmount
      ((s.modMotionGrant i Grant.writeOff).modHeatGrant i Grant.writeOff).done (u16 n)
    else s.refuse .state

/-- ENABLE (R8). -/
def takeEnable (s : State) (p : List Byte) : Result :=
  match someStns p with
  | none => s.refuse .badArg
  | some l => ((l.filter fun i => !(s.stn i).enabled).foldl State.enableStation s).wakeLines.done []

/-- DISABLE (R9). -/
def takeDisable (s : State) (p : List Byte) : Result :=
  match someStns p with
  | none => s.refuse .badArg
  | some l =>
    let named := l.filter fun i => (s.stn i).enabled
    match named.filter fun i => !s.mayDisable i with
    | [] => (named.foldl State.disableStation s).done []
    | failed => { state := s, code := .state, data := encSet failed, force := false }

/-! ### SET, GET, CLEAR -/

/-- Some station is ADMITTING, SLEWING, STOWING or STOPPING (R22, R181). -/
def State.anyBusy (s : State) : Bool :=
  allStns.any fun i => (s.stn i).motion.isOwned || decide ((s.stn i).motion = .stopping)

/-- A SET of HEAT_PRIORITY reaches every heater entry of the list (R62). -/
def State.reprioritise (s : State) : State :=
  let n := s.cfg.heatPriority
  let f := fun (e : Entry) => match e.body with
    | .heater _ => { e with prio := n }
    | .motion _ _ => e
  { s with power := { s.power with list := s.power.list.map f } }

/-- A SET of SNOW_IDLE moves every idle expiry (R140). -/
def State.moveIdle (s : State) : State :=
  let n := seconds s.cfg.snowIdle
  { s with
    snow := { s.snow with idleExpiry := Vector.ofFn fun i => (s.stn i).idleSince.map fun t => t + n } }

/-- A SET that adds a raised flag to a mask produces a notice (R179). -/
def State.maskSet (s : State) (l : Link) (before : BitVec 10) : State :=
  let added := (s.link l).flags &&& s.mask l &&& ~~~before
  let now := s.clock
  if added = 0 then s else s.modLink l fun k => k.produceNotice now

/-- The owning rule applies a parameter that has been written; `before` is the table before the SET (R181). -/
def State.applyParam (s : State) (p : Param) (before : Params) : State :=
  match p with
  | .heatPriority => s.reprioritise
  | .mastEnable => (s.enableMasts before).evaluate false
  | .mastSilence => s.moveMastSilence.evaluate false
  | .minMasts => s.evaluate false
  | .snowClass => s.judgeAuto s.snow.auto
  | .snowTemp => s.judgeAuto s.snow.auto
  | .autoSnow => s.judgeAuto (if s.cfg.autoSnow && !before.autoSnow then false else s.snow.auto)
  | .snowIdle => s.moveIdle.judgeParks
  | .panelSilence => allStns.foldl State.moveSilence s
  | .missLimit => allStns.foldl State.judgeLoss s
  | .maskS => s.maskSet .S before.maskS
  | .maskO => s.maskSet .O before.maskO
  | _ => s

/-- Parameters whose SET has the admission list reconsidered (R62, R77). -/
def Param.reconsiders : Param → Bool
  | .heatFloor => true
  | .heatPriority => true
  | .floor _ => true
  | _ => false

/-- A SET that is taken (R181). -/
def State.setTaken (s : State) (num idx : Nat) (p : Param) (t : Int) : Result :=
  let before := s.cfg
  let dep := match before.lowered p t with
    | some (_, v) => i32 v
    | none => []
  let s' := { s with cfg := before.assign p t }.applyParam p before
  { state := s', code := .done, data := u16 num ++ u8 idx ++ i32 t ++ dep, force := p.reconsiders }

/-- SET (R181). -/
def takeSet (s : State) (p : List Byte) : Result :=
  match setParamArgs p with
  | none => s.refuse .badArg
  | some (num, idx, v) =>
    match itemOf num idx with
    | some (.param q) =>
      if q.isLimit && s.anyBusy then s.refuse .state
      else
        let t := s.cfg.taken q v
        if q = .mastEnable ∧ t = 0 then s.refuse .badArg else s.setTaken num idx q t
    | _ => s.refuse .badArg

/-- The value of an item (R182, R190); the precipitation class as an optional code is the model's choice (log entry 20). -/
def State.itemValue (s : State) : Item → List Byte
  | .param p => i32 (s.cfg.get p)
  | .snowMode => u8 s.snow.mode.ctorIdx
  | .snowSource => encOptCode (s.snow.source.map (·.ctorIdx))
  | .precipClass => encOptCode (s.snow.cls.map (·.ctorIdx))
  | .airTemp => encTemp s.snow.air

/-- GET (R182). -/
def answerGet (s : State) (p : List Byte) : Code × List Byte :=
  match p with
  | [n0, n1, x] =>
    match itemOf (rd16 n0 n1) x.toNat with
    | some q => (.done, s.itemValue q)
    | none => (.badArg, [])
  | _ => (.badArg, [])

/-- CLEAR (R183). -/
def takeClear (s : State) (p : List Byte) : Result :=
  noArgs p (fun _ => s.clearQueues.done (u16 s.sched.groups.length ++ u16 s.oper.steers.length)) s

/-! ### Meanings -/

/-- What exec answers. -/
abbrev Out := Host.Outcome State Fault Refusal

/-- SLEW (R39). -/
def execSlew (s : State) : Out := .next (s.takeRequest .S .slew takeSlew)
/-- CANCEL (R47). -/
def execCancel (s : State) : Out := .next (s.takeRequest .S .cancel takeCancel)
/-- FLUSH (R48). -/
def execFlush (s : State) : Out := .next (s.takeRequest .S .flush takeFlush)
/-- RESUME (R46). -/
def execResume (s : State) : Out := .next (s.takeRequest .S .resume takeResume)
/-- REST (R17). -/
def execRest (s : State) : Out := .next (s.takeRequest .S .rest takeRest)
/-- STEER (R51). -/
def execSteer (s : State) : Out := .next (s.takeRequest .O .steer takeSteer)
/-- HALT (R57). -/
def execHalt (s : State) : Out := .next (s.takeRequest .O .halt takeHalt)
/-- STOW_ALL (R116). -/
def execStowAll (s : State) : Out := .next (s.takeRequest .O .stowAll takeStowAll)
/-- UNSTOW (R118). -/
def execUnstow (s : State) : Out := .next (s.takeRequest .O .unstow takeUnstow)
/-- SNOW_ON (R125). -/
def execSnowOn (s : State) : Out := .next (s.takeRequest .O .snowOn takeSnowOn)
/-- SNOW_OFF (R125). -/
def execSnowOff (s : State) : Out := .next (s.takeRequest .O .snowOff takeSnowOff)
/-- CONSOLE_LOCK (R150). -/
def execConsoleLock (s : State) : Out := .next (s.takeRequest .O .consoleLock takeConsoleLock)
/-- CONSOLE_UNLOCK (R150). -/
def execConsoleUnlock (s : State) : Out := .next (s.takeRequest .O .consoleUnlock takeConsoleUnlock)
/-- WRITE_OFF (R84). -/
def execWriteOff (s : State) : Out := .next (s.takeRequest .O .writeOff takeWriteOff)
/-- ENABLE (R8). -/
def execEnable (s : State) : Out := .next (s.takeRequest .O .enable takeEnable)
/-- DISABLE (R9). -/
def execDisable (s : State) : Out := .next (s.takeRequest .O .disable takeDisable)
/-- SET (R181). -/
def execSetParam (s : State) : Out := .next (s.takeRequest .O .setParam takeSet)
/-- GET (R182). -/
def execGetParam (s : State) : Out := .next (s.takeQuery .O .getParam answerGet)
/-- CLEAR (R183). -/
def execClearAll (s : State) : Out := .next (s.takeRequest .O .clearAll takeClear)

end Sys2Proof.Machine
end

