-- ==== Sys2Proof/Machine/Queries.lean ====
section
/-! DEFINITION. The queries and requests that either link may carry: what each answers, and one meaning for each command (R19, R50,
R85, R101, R123, R158, R176, R180, R185). -/

namespace Sys2Proof.Machine

/-- A query without arguments (R191). -/
def answerPlain (d : State → List Byte) (s : State) (p : List Byte) : Code × List Byte :=
  if p = [] then (.done, d s) else (.badArg, [])

/-! ### Q_STATION -/

/-- One axis of a station record (R19). -/
def axisData (a : AxisRec) : List Byte :=
  encAngle a.pos ++ encOptCode (a.phase.map (·.ctorIdx)) ++ encAngle a.target ++ encOpt8 a.fault

/-- A station record with its two mirrors (R19). -/
def State.stationData (s : State) (i : Stn) : List Byte :=
  let r := s.stn i
  encStn i ++ encFlag r.enabled ++ u8 r.motion.ctorIdx ++ encOwner r.owner ++ encOptCode (r.posture.map (·.ctorIdx)) ++
    encOptTime r.idleSince ++ axisData r.az ++ axisData r.el ++ encOptCode (r.pin.map (·.ctorIdx)) ++
    encOptCode (r.switch.map (·.ctorIdx)) ++ encTemp r.temp ++ u8 (s.lock i).status.ctorIdx ++
    u8 (s.chan i).state.ctorIdx

/-- Q_STATION (R19). -/
def answerStation (s : State) (p : List Byte) : Code × List Byte :=
  match stationArg p with
  | some i => (.done, s.stationData i)
  | none => (.badArg, [])

/-! ### Q_POWER -/

/-- The SUMMARY section (R85). -/
def State.summaryData (s : State) : List Byte :=
  u16 s.cfg.feedCap ++ u16 s.power.feedLimit ++ u16 s.avail ++ u16 s.cfg.stowReserve ++ u16 s.reserve ++ u16 s.ceiling ++
    u16 s.cfg.heatFloor ++ u8 s.floorNow ++ encPower (s.classTotal .stow) ++ encPower (s.classTotal .ordinary) ++
    encPower (s.classTotal .heat) ++ encPower s.total ++ encPower s.projected ++ encFlag s.power.deficit ++ u16 s.power.list.length ++
    encOpt32 (s.head?.map fun e => e.seq.toNat)

/-- Code of a class: its place in the table of R63, which lists none as its fourth value (R190). -/
def clsCode (c : Option GrantClass) : Nat :=
  match c with
  | some .stow => 0
  | some .ordinary => 1
  | some .heat => 2
  | none => 3

/-- What both consumers of a station show of their grants (R85). -/
def grantData (g : Grant) : List Byte :=
  u8 (clsCode g.cls) ++ u16 g.amount ++ encOpt8 g.surcharge ++ encOpt32 (g.seq.map (·.toNat)) ++
    u8 g.hold.ctorIdx

/-- Both consumers of a station (R85). -/
def State.grantsData (s : State) (i : Stn) : List Byte :=
  let g := s.motionGrant i
  grantData g ++ encFlag g.shed ++ encFlag g.awaiting ++ encFlag g.localRes ++ grantData (s.heatGrant i)

/-- Kind of an entry: STATION, GANG, HEATER (R69). -/
def Entry.kindCode (e : Entry) : Nat :=
  match e.body with
  | .motion false _ => 0
  | .motion true _ => 1
  | .heater _ => 2

/-- Stations of an entry. -/
def Entry.stations (e : Entry) : List Stn :=
  match e.body with
  | .motion _ ps => ps.map (·.station)
  | .heater i => [i]

/-- One entry of the LIST section (R85). Its stations go as a station set of 4 bytes, not as a counted list: the model's choice (log
entry 20). -/
def State.entryData (s : State) (e : Entry) : List Byte :=
  u8 e.kindCode ++ encSet e.stations ++ u8 e.cls.ctorIdx ++ u8 e.prio ++ encPower (s.increase e) ++
    encOpt32 (if e.cls = .stow then some e.stowDur else none) ++ u32 e.seq.toNat ++ encFlag (s.passedOver e)

/-- The LIST section (R85). -/
def State.listData (s : State) (first count : Nat) : List Byte :=
  let l := (s.headOrder.drop (first - 1)).take count
  u8 l.length ++ (l.map s.entryData).flatten

/-- Q_POWER (R85). -/
def answerPower (s : State) (p : List Byte) : Code × List Byte :=
  match p with
  | [sec, f, c] =>
    match sec.toNat with
    | 0 => (.done, s.summaryData)
    | 1 =>
      if 1 ≤ f.toNat ∧ 1 ≤ c.toNat ∧ c.toNat ≤ 8 ∧ f.toNat + c.toNat ≤ 33 then
        (.done, (((allStns.drop (f.toNat - 1)).take c.toNat).map s.grantsData).flatten)
      else (.badArg, [])
    | 2 =>
      if 1 ≤ f.toNat ∧ f.toNat ≤ 64 ∧ 1 ≤ c.toNat ∧ c.toNat ≤ 8 then (.done, s.listData f.toNat c.toNat)
      else (.badArg, [])
    | _ => (.badArg, [])
  | _ => (.badArg, [])

/-! ### Q_WIND -/

/-- One mast record (R101). -/
def State.mastData (s : State) (i : MastNo) : List Byte :=
  let m := s.wind.masts.get i
  encFlag (s.cfg.mastOn i) ++ encFlag m.live ++ encOptCode (m.condition.map (·.ctorIdx)) ++ encOpt16 m.valid ++
    encOptTime m.lastFrame ++ encOptTime m.lastValid ++ encOpt16 (m.ring.getLast?.map (·.value)) ++ u16 m.ring.length ++
    encOpt16 m.mean ++ encOpt16 m.gust

/-- The stage record and the mast records (R101). -/
def State.windData (s : State) : List Byte :=
  let w := s.wind
  u8 w.stage.ctorIdx ++ u8 w.cause.ctorIdx ++ encFlag w.hold ++ encFlag w.short ++ u16 s.cfg.required ++
    u16 w.liveMasts.length ++ encOpt16 w.siteMean ++ encOpt16 w.siteGust ++ encFlag w.dwell.isSome ++
    encOptTime (w.dwell.map (·.start)) ++ encOptTime (w.dwell.map (·.expiry)) ++ encTime w.changed ++
    (allMasts.map s.mastData).flatten

/-! ### Q_CAMPAIGN -/

/-- A station in WAITING_POWER comes before another in the stow order (R123). -/
def stowOrderBefore (a b : RosterEntry) : Bool :=
  let da := a.stowDur.getD 0
  let db := b.stowDur.getD 0
  if da ≠ db then decide (db < da) else decide (a.station.val ≤ b.station.val)

/-- Place of an entry in the stow order (R123); counting it from 1 is the model's choice (log entry 40). -/
def Campaign.stowPlace (c : Campaign) (e : RosterEntry) : Nat :=
  (c.roster.filter fun x => decide (x.status = .waitingPower)).countP fun x => stowOrderBefore x e

/-- One roster entry (R123). The stow duration and the place stand only in an entry in WAITING_POWER, the duration in 4 bytes without a
presence byte: the model's choice (log entry 20). -/
def Campaign.entryData (c : Campaign) (e : RosterEntry) : List Byte :=
  encStn e.station ++ u8 e.status.code ++ u8 e.status.detail ++ u8 ((e.outcome.map (·.code)).getD 0) ++
    (if e.status = .waitingPower then u32 (e.stowDur.getD 0) ++ u8 (c.stowPlace e) else [])

/-- The campaign record and the roster (R123). -/
def State.campaignData (s : State) : List Byte :=
  let c := s.camp
  u8 c.state.ctorIdx ++ encOptCode (c.cause.map (·.ctorIdx)) ++ encCauses c.also ++ encOptTime c.start ++
    encFlag c.deadline.isSome ++ encOptTime c.deadline ++ encFlag c.late ++ u8 c.roster.length ++
    (c.roster.map c.entryData).flatten

/-! ### Q_QUEUE -/

/-- One group of the scheduler queue (R50), its stations as a station set (log entry 20). -/
def groupData (g : Group) : List Byte :=
  u16 g.number ++ u8 g.state.ctorIdx ++ u8 g.prio ++ u8 g.mode.ctorIdx ++ encFlag g.hold ++ encSet g.stations ++
    u16 (g.members.countP fun m => m.2.isSome)

/-- One steer of the operator queue (R50). -/
def steerData (t : Steer) : List Byte := u16 t.number ++ encStn t.station ++ u8 t.state.ctorIdx

/-- The queue of the link that carries the query (R50). -/
def State.queueData (l : Link) (s : State) : List Byte :=
  match l with
  | .S =>
    u8 s.schedDisplay.ctorIdx ++ encFlag s.sched.suspended ++ u16 s.sched.next ++ u8 s.sched.groups.length ++
      (s.sched.groups.map groupData).flatten
  | .O =>
    u8 s.operDisplay.ctorIdx ++ u16 s.oper.next ++ u8 s.oper.steers.length ++ (s.oper.steers.map steerData).flatten

/-! ### Q_LOCKOUT -/

/-- One slot of a lockout list (R158). -/
def slotData (e : Option LockEntry) : List Byte :=
  match e with
  | none => [0, 0, 0, 0, 0, 0, 0, 0]
  | some x => u16 x.holder ++ u8 x.kind.ctorIdx ++ u8 x.state.ctorIdx ++ encTime x.taken

/-- The lockout details of a station (R158). -/
def State.lockData (s : State) (i : Stn) : List Byte :=
  let r := s.lock i
  u8 r.status.ctorIdx ++ encFlag (s.heaterBar i) ++ u8 (if r.known then 0 else 1) ++ encOptTime r.lastGood ++
    encOptTime r.silence ++ u8 r.phase.ctorIdx ++ encOptTime r.warnExp ++ (r.slots.toList.map slotData).flatten ++
    encFlag r.lOcc

/-- Q_LOCKOUT (R158). -/
def answerLockout (s : State) (p : List Byte) : Code × List Byte :=
  match p with
  | [n] =>
    if n.toNat = 0 then (.done, (allStns.map fun i => u8 (s.lock i).status.ctorIdx).flatten)
    else
      match stnOf n.toNat with
      | some i => (.done, s.lockData i)
      | none => (.badArg, [])
  | _ => (.badArg, [])

/-! ### ACK and DUMP -/

/-- ACK (R180). -/
def takeAck (l : Link) (s : State) (p : List Byte) : Result :=
  match p with
  | [a, b] =>
    let s' := s.modLink l fun k => k.lowerFlags (BitVec.ofNat 10 (rd16 a b))
    s'.done (u16 (s'.link l).flags.toNat)
  | _ => s.refuse .badArg

/-- The counters of a line in the array set (R185, R190). -/
def lineData (t : LineStats) : List Byte := u16 t.good ++ u16 t.bad ++ u16 t.dropped ++ u16 t.reports

/-- The array set (R185). -/
def Stats.arrayData (t : Stats) : List Byte :=
  u16 t.admissions ++ u16 t.sheds ++ u16 t.deficits ++ lineData t.lineS ++ lineData t.lineO ++ lineData t.site

/-- The eight counters of a station (R185). -/
def stnData (t : StnStats) : List Byte :=
  u16 t.arrivals ++ u16 t.otherEndings ++ u16 t.stows ++ u16 t.onPhases ++ u16 t.cuts ++ u16 t.misses ++ u16 t.lockouts ++
    u16 t.losses

/-- The array set is returned to 0 (R185). -/
def Stats.clearArray (t : Stats) : Stats :=
  { t with
    admissions := 0, sheds := 0, deficits := 0, lineS := LineStats.reset, lineO := LineStats.reset,
    site := LineStats.reset }

/-- The counters of a station are returned to 0 (R185). -/
def Stats.clearStn (t : Stats) (i : Stn) : Stats := { t with stn := upd t.stn i fun _ => StnStats.reset }

/-- DUMP of the array set (R185). -/
def dumpArray (s : State) (clear : Bool) : Result :=
  let t := if clear then { s with stats := s.stats.clearArray } else s
  t.done s.stats.arrayData

/-- DUMP of a station range (R185). -/
def dumpRange (s : State) (l : List Stn) (clear : Bool) : Result :=
  let t := if clear then { s with stats := l.foldl Stats.clearStn s.stats } else s
  t.done (l.map fun i => stnData (s.stats.stn.get i)).flatten

/-- DUMP (R185). -/
def takeDump (s : State) (p : List Byte) : Result :=
  match p with
  | [f, c, x] =>
    match rdFlag x with
    | none => s.refuse .badArg
    | some clear =>
      if f.toNat = 0 then dumpArray s clear
      else if 1 ≤ c.toNat ∧ c.toNat ≤ 8 ∧ f.toNat + c.toNat ≤ 33 then
        dumpRange s ((allStns.drop (f.toNat - 1)).take c.toNat) clear
      else s.refuse .badArg
  | _ => s.refuse .badArg

/-- A request that touches only its link's flags or the statistics is taken: nothing else is to be judged. -/
def State.takeLocal (s : State) (l : Link) (c : Instr) (h : State → List Byte → Result) : State :=
  match s.requestFor l c with
  | none => s
  | some f =>
    let s' := s.openRequest l f
    let r := h s' f.payload
    r.state.answer l f.kind r.code r.data

/-- The reply to a kind that is no request of the link (R176). -/
def answerUnknown (kind : Byte) : Code := if anyRequestKind kind then .wrongLink else .badArg

/-- UNKNOWN_REQUEST_KIND (R176). -/
def State.takeUnknown (s : State) (l : Link) : State :=
  match s.requestFor l (.unknownRequestKind l) with
  | none => s
  | some f => (s.openRequest l f).answer l f.kind (answerUnknown f.kind) []

/-! ### Meanings -/

/-- Q_STATION (R19). -/
def execQStation (l : Link) (s : State) : Out := .next (s.takeQuery l (.qStation l) answerStation)
/-- Q_POWER (R85). -/
def execQPower (l : Link) (s : State) : Out := .next (s.takeQuery l (.qPower l) answerPower)
/-- Q_WIND (R101). -/
def execQWind (l : Link) (s : State) : Out := .next (s.takeQuery l (.qWind l) (answerPlain State.windData))
/-- Q_CAMPAIGN (R123). -/
def execQCampaign (l : Link) (s : State) : Out := .next (s.takeQuery l (.qCampaign l) (answerPlain State.campaignData))
/-- Q_QUEUE (R50). -/
def execQQueue (l : Link) (s : State) : Out := .next (s.takeQuery l (.qQueue l) (answerPlain (State.queueData l)))
/-- Q_LOCKOUT (R158). -/
def execQLockout (l : Link) (s : State) : Out := .next (s.takeQuery l (.qLockout l) answerLockout)
/-- ACK (R180). -/
def execAck (l : Link) (s : State) : Out := .next (s.takeLocal l (.ack l) (takeAck l))
/-- DUMP (R185). -/
def execDump (l : Link) (s : State) : Out := .next (s.takeLocal l (.dump l) takeDump)
/-- UNKNOWN_REQUEST_KIND (R176). -/
def execUnknownRequestKind (l : Link) (s : State) : Out := .next (s.takeUnknown l)

end Sys2Proof.Machine
end

