-- ==== Sys2Proof/Machine/LineEvents.lean ====
section
/-! DEFINITION. The events of the lines and of RESET: one meaning for each command (R61, R88, R126, R148, R149, R164 to R166, R173, R174,
R177, R186). -/

namespace Sys2Proof.Machine


/-! ### RESET and the control links -/

/-- POWER_ON_RESET (R186): every piece of state at its reset value; the commands that wait are not the part's. -/
def execPowerOnReset (s : State) : Out := .next { State.reset with choices := s.choices, pending := s.pending }

/-- A good frame on a control link (R173 to R175). -/
def State.linkFrame (s : State) (l : Link) (bytes : List Byte) : State :=
  match (s.rx (lineOf l)).find bytes with
  | .good f rest => (s.gathered (lineOf l) rest).joinFifo l f
  | _ => s

/-- LINK_FRAME_RECEIVED (R174). -/
def execLinkFrameReceived (l : Link) (bytes : List Byte) (s : State) : Out := .next (s.linkFrame l bytes)

/-- A discarded candidate (R173). -/
def State.badFrame (s : State) (ln : Line) (bytes : List Byte) : State :=
  match (s.rx ln).find bytes with
  | .bad held => s.discard ln held
  | _ => s

/-- BAD_FRAME (R173). -/
def execBadFrame (ln : Line) (bytes : List Byte) (s : State) : Out := .next (s.badFrame ln bytes)

/-- The receiver goes to COLLECTING (R173). -/
def State.startCollecting (s : State) (ln : Line) (bytes : List Byte) : State :=
  match (s.rx ln).find bytes with
  | .start held => s.setRx ln { collecting := true, held := held }
  | _ => s

/-- COLLECTING_START (R173). -/
def execCollectingStart (ln : Line) (bytes : List Byte) (s : State) : Out := .next (s.startCollecting ln bytes)

/-- TRANSMIT_FRAME_END (R177). -/
def execTransmitFrameEnd (l : Link) (s : State) : Out := .next (s.modLink l LinkState.endFrame)

/-! ### The site line -/

/-- A MAST frame (R88, R174). -/
def State.mastFrame (s : State) (bytes : List Byte) : State :=
  match s.siteFrame bytes fun f => f.kind == kindMast with
  | none => s
  | some (f, t) =>
    match mastArgs f.payload with
    | some (m, rs) => settle false t (t.takeMast m rs)
    | none => s

/-- MAST (R88). -/
def execMast (bytes : List Byte) (s : State) : Out := .next (s.mastFrame bytes)

/-- A PRECIP frame (R126, R174). -/
def State.precipFrame (s : State) (bytes : List Byte) : State :=
  match s.siteFrame bytes fun f => f.kind == kindPrecip with
  | none => s
  | some (f, t) =>
    match precipArgs f.payload with
    | some (c, air) =>
      match classOf c with
      | some k => settle false t (t.takePrecip k air)
      | none => t
    | none => s

/-- PRECIP (R126). -/
def execPrecip (bytes : List Byte) (s : State) : Out := .next (s.precipFrame bytes)

/-- The highest limit taken (R61). -/
def maxLimit : Nat := 40000

/-- A feeder limit is taken (R61). -/
def State.takeFeeder (s : State) (n : Nat) : State := { s with power := { s.power with feedLimit := min n maxLimit } }

/-- A FEEDER frame (R61, R174). -/
def State.feederFrame (s : State) (bytes : List Byte) : State :=
  match s.siteFrame bytes fun f => f.kind == kindFeeder with
  | none => s
  | some (f, t) =>
    match feederArg f.payload with
    | some n => settle false t (t.takeFeeder n)
    | none => s

/-- FEEDER (R61). -/
def execFeeder (bytes : List Byte) (s : State) : Out := .next (s.feederFrame bytes)

/-- Any other good frame of the site line (R174). -/
def State.ignoredFrame (s : State) (bytes : List Byte) : State :=
  match s.siteFrame bytes fun f => !siteFrameTaken f with
  | none => s
  | some (_, t) => t

/-- SITE_FRAME_IGNORED (R174). -/
def execSiteFrameIgnored (bytes : List Byte) (s : State) : Out := .next (s.ignoredFrame bytes)

/-! ### The drive bus -/

/-- A good reply on the drive bus (R164, R165). -/
def State.statusReply (s : State) (bytes : List Byte) : State :=
  match s.bus.visit with
  | none => s
  | some v =>
    match s.goodStatus v bytes with
    | none => s
    | some (st, a) =>
      if s.visitVoid v then (s.dropOutstanding v.station).endVisit v
      else (settle false s (s.takeReply v.station st a)).endVisit v

/-- STATUS_REPLY (R165). -/
def execStatusReply (bytes : List Byte) (s : State) : Out := .next (s.statusReply bytes)

/-- The visit in progress ends without a good reply (R159, R166). -/
def State.missVisit (s : State) (v : BusVisit) : State :=
  if s.visitVoid v then (s.dropOutstanding v.station).endVisit v
  else (settle false s (s.miss v.station)).endVisit v

/-- A reply on the drive bus that is not good (R164, R166). -/
def State.badReply (s : State) (bytes : List Byte) : State :=
  match s.bus.visit with
  | none => s
  | some v => if (s.goodStatus v bytes).isSome then s else s.missVisit v

/-- BAD_REPLY (R164). -/
def execBadReply (bytes : List Byte) (s : State) : Out := .next (s.badReply bytes)

/-- REPLY_TIMEOUT has passed for the visit in progress (R166). -/
def State.busTimeout (s : State) : Bool :=
  match s.bus.visit with
  | some v => decide (v.start + v.timeout ≤ s.clock)
  | none => false

/-- The drive bus's timeout (R166). -/
def State.replyTimeout (s : State) : State :=
  match s.bus.visit with
  | none => s
  | some v => if s.busTimeout then s.missVisit v else s

/-- REPLY_TIMEOUT_EXPIRY (R166). -/
def execReplyTimeoutExpiry (s : State) : Out := .next s.replyTimeout

/-! ### The panel line -/

/-- A good reply on the panel line (R148, R149). -/
def State.keysReply (s : State) (bytes : List Byte) : State :=
  match s.locks.visit with
  | none => s
  | some v =>
    match s.goodKeys v bytes with
    | none => s
    | some ks =>
      let s' := if s.panelVoid v then s else settle false s (s.takeKeys v.station ks)
      s'.nextPanel (some v.station)

/-- KEYS (R149). -/
def execKeys (bytes : List Byte) (s : State) : Out := .next (s.keysReply bytes)

/-- REPLY_TIMEOUT has passed for the panel visit in progress (R148). -/
def State.panelTimeout (s : State) : Bool :=
  match s.locks.visit with
  | some v => decide (v.start + v.timeout ≤ s.clock)
  | none => false

/-- A panel visit ends by a reply that is not good, or by none (R148). -/
def State.panelMissed (s : State) (bytes : Option (List Byte)) : State :=
  match s.locks.visit with
  | none => s
  | some v =>
    match bytes with
    | some b => if (s.goodKeys v b).isSome then s else s.nextPanel (some v.station)
    | none => if s.panelTimeout then s.nextPanel (some v.station) else s

/-- PANEL_REPLY_MISSED (R148). -/
def execPanelReplyMissed (bytes : Option (List Byte)) (s : State) : Out := .next (s.panelMissed bytes)

end Sys2Proof.Machine
end

