-- ==== Sys2Proof/Machine/Timers.lean ====
section
/-! DEFINITION. The expiries: whether each is due, and one meaning for each command (R91, R98, R117, R128, R133, R135, R140, R148,
R156). An expiry that is not due does not arise, and its command then changes nothing. -/

namespace Sys2Proof.Machine

/-- A kept expiry time has come. -/
def State.reached (s : State) (t : Option Nat) : Bool :=
  match t with
  | some e => decide (e ≤ s.clock)
  | none => false

/-- Takes an expiry that is due, with what follows. -/
def State.expire (s : State) (due : Bool) (f : State → State) : Out := if due then .next (settle false s (f s)) else .next s

/-- A panel's silence expiry is due (R148). -/
def State.panelSilenceDue (s : State) (i : Stn) : Bool := (s.lock i).known && s.reached (s.lock i).silence

/-- PANEL_SILENCE_EXPIRY (R148). -/
def execPanelSilenceExpiry (i : Stn) (s : State) : Out := s.expire (s.panelSilenceDue i) fun s => s.panelSilent i

/-- A warning expiry is due (R156). -/
def State.warningDue (s : State) (i : Stn) : Bool :=
  decide ((s.lock i).phase = .warning) && s.reached (s.lock i).warnExp

/-- WARNING_EXPIRY (R156). -/
def execWarningExpiry (i : Stn) (s : State) : Out := s.expire (s.warningDue i) fun s => s.warningEnd i

/-- SILENCE_EXPIRY (R91, R94). -/
def execSilenceExpiry (m : MastNo) (s : State) : Out := s.expire (s.silenceDue m) fun s => s.silenceEnd m

/-- DWELL_EXPIRY (R94, R98). -/
def execDwellExpiry (s : State) : Out := s.expire (s.wind.dwellEvent s.clock) fun s => s.evaluate true

/-- The deadline has expired (R117). -/
def State.deadlineEnd (s : State) : State :=
  let s' := { s with camp := { s.camp with deadline := none } }
  if s.camp.allFinal || s.camp.late then s'
  else { s' with camp := { s'.camp with late := true } }.noticeBoth .late

/-- DEADLINE_EXPIRY (R117). -/
def execDeadlineExpiry (s : State) : Out := s.expire (s.reached s.camp.deadline) State.deadlineEnd

/-- The clear timer has expired (R128). -/
def State.clearEnd (s : State) : State :=
  let s' := { s with snow := { s.snow with clearTimer := none } }
  if s.cfg.autoSnow = true ∧ s.snow.mode = .on ∧ s.snow.source = some .auto then s'.snowTurnOff else s'

/-- CLEAR_TIMER_EXPIRY (R128). -/
def execClearTimerExpiry (s : State) : Out := s.expire (s.reached s.snow.clearTimer) State.clearEnd

/-- Timer A is due (R133). -/
def State.timerADue (s : State) (i : Stn) : Bool := decide ((s.chan i).state = .on) && s.reached (s.chan i).timer

/-- TIMER_A_EXPIRY (R133). -/
def execTimerAExpiry (i : Stn) (s : State) : Out := s.expire (s.timerADue i) fun s => s.stopHeat i .offPhase

/-- Timer B is due (R135). -/
def State.timerBDue (s : State) (i : Stn) : Bool := decide ((s.chan i).state = .offPhase) && s.reached (s.chan i).timer

/-- TIMER_B_EXPIRY (R135). -/
def execTimerBExpiry (i : Stn) (s : State) : Out := s.expire (s.timerBDue i) fun s => s.startCycle i

/-- The idle expiry has come: it is judged once (R140). -/
def State.idleEnd (s : State) (i : Stn) : State :=
  { s with snow := { s.snow with idleExpiry := upd s.snow.idleExpiry i fun _ => none } }.judgePark i

/-- IDLE_EXPIRY (R140). -/
def execIdleExpiry (i : Stn) (s : State) : Out :=
  s.expire (s.reached (s.snow.idleExpiry.get i)) fun s => s.idleEnd i

end Sys2Proof.Machine
end

