-- ==== Sys2Proof/Machine/Dispatch.lean ====
section
/-! DEFINITION. The dispatch of a command to its meaning: one arm per constructor of Instr. -/

namespace Sys2Proof.Machine

def exec (i : Instr) (s : State) : Host.Outcome State Fault Refusal :=
  match i with
  | .powerOnReset => Sys2Proof.Machine.execPowerOnReset s
  | .linkFrameReceived l b => Sys2Proof.Machine.execLinkFrameReceived l b s
  | .badFrame ln b => Sys2Proof.Machine.execBadFrame ln b s
  | .transmitFrameEnd l => Sys2Proof.Machine.execTransmitFrameEnd l s
  | .slew => Sys2Proof.Machine.execSlew s
  | .cancel => Sys2Proof.Machine.execCancel s
  | .flush => Sys2Proof.Machine.execFlush s
  | .resume => Sys2Proof.Machine.execResume s
  | .rest => Sys2Proof.Machine.execRest s
  | .steer => Sys2Proof.Machine.execSteer s
  | .halt => Sys2Proof.Machine.execHalt s
  | .stowAll => Sys2Proof.Machine.execStowAll s
  | .unstow => Sys2Proof.Machine.execUnstow s
  | .snowOn => Sys2Proof.Machine.execSnowOn s
  | .snowOff => Sys2Proof.Machine.execSnowOff s
  | .consoleLock => Sys2Proof.Machine.execConsoleLock s
  | .consoleUnlock => Sys2Proof.Machine.execConsoleUnlock s
  | .writeOff => Sys2Proof.Machine.execWriteOff s
  | .enable => Sys2Proof.Machine.execEnable s
  | .disable => Sys2Proof.Machine.execDisable s
  | .setParam => Sys2Proof.Machine.execSetParam s
  | .getParam => Sys2Proof.Machine.execGetParam s
  | .clearAll => Sys2Proof.Machine.execClearAll s
  | .qStation l => Sys2Proof.Machine.execQStation l s
  | .qPower l => Sys2Proof.Machine.execQPower l s
  | .qWind l => Sys2Proof.Machine.execQWind l s
  | .qCampaign l => Sys2Proof.Machine.execQCampaign l s
  | .qQueue l => Sys2Proof.Machine.execQQueue l s
  | .qLockout l => Sys2Proof.Machine.execQLockout l s
  | .ack l => Sys2Proof.Machine.execAck l s
  | .dump l => Sys2Proof.Machine.execDump l s
  | .unknownRequestKind l => Sys2Proof.Machine.execUnknownRequestKind l s
  | .mast b => Sys2Proof.Machine.execMast b s
  | .precip b => Sys2Proof.Machine.execPrecip b s
  | .feeder b => Sys2Proof.Machine.execFeeder b s
  | .siteFrameIgnored b => Sys2Proof.Machine.execSiteFrameIgnored b s
  | .statusReply b => Sys2Proof.Machine.execStatusReply b s
  | .badReply b => Sys2Proof.Machine.execBadReply b s
  | .replyTimeoutExpiry => Sys2Proof.Machine.execReplyTimeoutExpiry s
  | .keys b => Sys2Proof.Machine.execKeys b s
  | .panelReplyMissed b => Sys2Proof.Machine.execPanelReplyMissed b s
  | .panelSilenceExpiry k => Sys2Proof.Machine.execPanelSilenceExpiry k s
  | .warningExpiry k => Sys2Proof.Machine.execWarningExpiry k s
  | .silenceExpiry m => Sys2Proof.Machine.execSilenceExpiry m s
  | .dwellExpiry => Sys2Proof.Machine.execDwellExpiry s
  | .deadlineExpiry => Sys2Proof.Machine.execDeadlineExpiry s
  | .clearTimerExpiry => Sys2Proof.Machine.execClearTimerExpiry s
  | .timerAExpiry k => Sys2Proof.Machine.execTimerAExpiry k s
  | .timerBExpiry k => Sys2Proof.Machine.execTimerBExpiry k s
  | .idleExpiry k => Sys2Proof.Machine.execIdleExpiry k s
  | .collectingStart ln b => Sys2Proof.Machine.execCollectingStart ln b s

end Sys2Proof.Machine
end

