-- ==== Sys2Proof/Machine/Step.lean ====
section
/-! DEFINITION. One step of the block: the command at the front of the queue; on an empty queue, the first event that the state itself
holds ready, or one millisecond of site time. -/

namespace Sys2Proof.Machine

/-- The event that a line's receiver finds in the bytes it already holds (R173). -/
def State.rxEvent (s : State) (ln : Line) : Option Instr :=
  match (s.rx ln).find [] with
  | .nothing => none
  | .start _ => some (.collectingStart ln [])
  | .bad _ => some (.badFrame ln [])
  | .good f _ =>
    match ln with
    | .linkS => some (.linkFrameReceived .S [])
    | .linkO => some (.linkFrameReceived .O [])
    | .site =>
      if siteFrameTaken f then
        if f.kind == kindMast then some (.mast [])
        else if f.kind == kindPrecip then some (.precip [])
        else some (.feeder [])
      else some (.siteFrameIgnored [])

/-- The request that a link takes now, if it may take one (R176). -/
def State.requestEvent (s : State) (l : Link) : Option Instr :=
  match (s.link l).fifo with
  | [] => none
  | f :: _ => if (s.link l).replyBusy then none else some (requestOf l f.kind)

/-- The first item of a list for which a condition holds, as a command. -/
def dueOf {α : Type} (l : List α) (p : α → Bool) (c : α → Instr) : Option Instr := (l.find? p).map c

/-- A condition as a command. -/
def dueIf (b : Bool) (c : Instr) : Option Instr := if b then some c else none

/-- The events that the state itself may hold ready, in the order in which the model takes them. -/
def State.dueEvents (s : State) : List (Option Instr) :=
  [ s.rxEvent .linkS, s.rxEvent .linkO, s.rxEvent .site, s.requestEvent .S, s.requestEvent .O,
    dueIf s.busTimeout .replyTimeoutExpiry, dueIf s.panelTimeout (.panelReplyMissed none),
    dueIf (s.wind.dwellEvent s.clock) .dwellExpiry, dueOf allMasts s.silenceDue .silenceExpiry,
    dueIf (s.reached s.camp.deadline) .deadlineExpiry, dueIf (s.reached s.snow.clearTimer) .clearTimerExpiry,
    dueOf allStns s.warningDue .warningExpiry, dueOf allStns s.panelSilenceDue .panelSilenceExpiry,
    dueOf allStns s.timerADue .timerAExpiry, dueOf allStns s.timerBDue .timerBExpiry,
    dueOf allStns (fun i => s.reached (s.snow.idleExpiry.get i)) .idleExpiry ]

/-- The next event that the state itself holds ready. -/
def State.dueEvent (s : State) : Option Instr := s.dueEvents.findSome? id

/-- What the block does on an empty queue: its next event, or one millisecond of site time. -/
def idle (s : State) : Host.Outcome State Fault Refusal :=
  match s.dueEvent with
  | some c => exec c s
  | none => .next { s with clock := s.clock + 1 }

/-- One step: the command at the front of the queue is taken with the rest of the queue. -/
def step (s : State) : Host.Outcome State Fault Refusal :=
  match s.pending with
  | c :: rest => exec c { s with pending := rest }
  | [] => idle s

/-- Puts the command that a table word spells at the front of the queue; no word spells one. -/
def State.withFetchWord (s : State) (nbits w : Nat) : State :=
  match Sys2Proof.decodeTableWord nbits w with
  | some c => { s with pending := c :: s.pending }
  | none => s

end Sys2Proof.Machine
end

