-- ==== Sys2Proof/WellFormed.lean ====
section
/-! DEFINITION. Which commands can be written down as one event of a line. -/

namespace Sys2Proof

/-- The longest frame: delimiter, LEN, 250 bytes and two check bytes (R187). -/
def maxFrameBytes : Nat := 254

/-- A frame on a polled line is at least an empty envelope and at most the longest one (R187). -/
def polledFrameWf (b : List Byte) : Bool := decide (6 ≤ b.length) && decide (b.length ≤ maxFrameBytes)

/-- What completes a frame on a searching receiver is at most the bytes after LEN (R173). -/
def completionWf (b : List Byte) : Bool := decide (b.length ≤ maxFrameBytes - 2)

/-- A command is well formed when the bytes it carries fit one frame of its line. -/
def Instr.wf : Instr → Bool
  | .linkFrameReceived _ b => completionWf b
  | .mast b => completionWf b
  | .precip b => completionWf b
  | .feeder b => completionWf b
  | .siteFrameIgnored b => completionWf b
  | .statusReply b => polledFrameWf b
  | .keys b => polledFrameWf b
  | .badReply b => decide (b.length ≤ maxFrameBytes)
  | .panelReplyMissed (some b) => decide (b.length ≤ maxFrameBytes)
  | .powerOnReset | .badFrame _ _ | .transmitFrameEnd _ | .slew | .cancel | .flush | .resume | .rest | .steer | .halt
  | .stowAll | .unstow | .snowOn | .snowOff | .consoleLock | .consoleUnlock | .writeOff | .enable | .disable
  | .setParam | .getParam | .clearAll | .qStation _ | .qPower _ | .qWind _ | .qCampaign _ | .qQueue _
  | .qLockout _ | .ack _ | .dump _ | .unknownRequestKind _ | .replyTimeoutExpiry | .panelReplyMissed none
  | .panelSilenceExpiry _ | .warningExpiry _ | .silenceExpiry _ | .dwellExpiry | .deadlineExpiry
  | .clearTimerExpiry | .timerAExpiry _ | .timerBExpiry _ | .idleExpiry _
  | .collectingStart _ _ => true

end Sys2Proof
end

