-- ==== Sys2Proof/Safety.lean ====
section
/-! DEFINITION. The terms of the statements: the invariants of the block, the premises of its commands, and the payload encoders that the
decoders answer. -/

namespace Sys2Proof.Machine

/-! ### Invariants -/

/-- A station has a motion owner exactly when it is ADMITTING, SLEWING or STOWING (R4), and is enabled exactly when it is not
DISABLED (R8, R9). -/
def OwnerRule (s : State) : Prop :=
  ∀ i : Stn, (s.stn i).owner.isSome = (s.stn i).motion.isOwned ∧ (s.stn i).enabled = !s.isDisabled i

/-- The places of the FIFOs and of the report queues (R174, R178), and an idle transmitter has nothing waiting (R177). -/
def LinkRule (s : State) : Prop :=
  ∀ l : Link, (s.link l).fifo.length ≤ fifoPlaces ∧ (s.link l).reportCount ≤ reportPlaces ∧
    ((s.link l).sending = none → (s.link l).order = [])

/-- A counter fits 16 bits (R184). -/
def fits16 (n : Nat) : Prop := n ≤ 65535

/-- The counters of a station fit 16 bits. -/
def StnStats.small (t : StnStats) : Prop :=
  fits16 t.arrivals ∧ fits16 t.otherEndings ∧ fits16 t.stows ∧ fits16 t.onPhases ∧ fits16 t.cuts ∧ fits16 t.misses ∧
    fits16 t.lockouts ∧ fits16 t.losses

/-- The counters of a line fit 16 bits. -/
def LineStats.small (t : LineStats) : Prop := fits16 t.good ∧ fits16 t.bad ∧ fits16 t.dropped ∧ fits16 t.reports

/-- Every counter fits 16 bits (R184). -/
def CounterRule (s : State) : Prop :=
  (∀ i : Stn, (s.stats.stn.get i).small) ∧ fits16 s.stats.admissions ∧ fits16 s.stats.sheds ∧ fits16 s.stats.deficits ∧
    s.stats.lineS.small ∧ s.stats.lineO.small ∧ s.stats.site.small

/-- Every parameter lies in its range, a fall level lies below its rise level, GO_AT below PAUSE_AT, and some mast is enabled
(R87, R99, R181, R182). -/
def ParamRule (s : State) : Prop :=
  (∀ p : Param, p.range.1 ≤ s.cfg.get p ∧ s.cfg.get p ≤ p.range.2) ∧
    (∀ u : UpStage, s.cfg.fallMean.at u < s.cfg.riseMean.at u ∧ s.cfg.fallGust.at u < s.cfg.riseGust.at u) ∧
    s.cfg.goAt < s.cfg.pauseAt ∧ s.cfg.mastEnable ≠ 0

/-- The latest status of a cabinet showed both axes BRAKED. -/
def Cabinet.lastBraked (k : Cabinet) : Bool :=
  match k.last with
  | some x => x.status.braked
  | none => false

/-- A lockout entry is IN_FORCE only while the latest status of its cabinet showed both axes braked (R152), and a station is in its
warning only while it is at rest (R155). -/
def LockRule (s : State) : Prop :=
  ∀ i : Stn, ((s.lock i).hasInForce = true → (s.cab i).lastBraked = true) ∧
    ((s.lock i).phase = .warning → (s.stn i).motion.isResting = true)

/-- A grant of amount 0 has class none, no surcharge or prices, no sequence and its flags at no (R63). -/
def Grant.clean (g : Grant) : Prop :=
  g.amount = 0 →
    g.cls = none ∧ g.surcharge = none ∧ g.phaseP = none ∧ g.seq = none ∧ g.shed = false ∧ g.awaiting = false ∧
      g.localRes = false

/-- A grant without a class has amount 0 (R63). -/
def Grant.classed (g : Grant) : Prop := g.cls = none → g.amount = 0

/-- Every grant of amount 0 is clean, and every grant without a class has amount 0 (R63). -/
def GrantRule (s : State) : Prop :=
  ∀ i : Stn, ((s.motionGrant i).clean ∧ (s.motionGrant i).classed) ∧ (s.heatGrant i).clean ∧ (s.heatGrant i).classed

/-- The stations whose motion consumers wait in an entry. -/
def Entry.motionStns (e : Entry) : List Stn :=
  match e.body with
  | .motion _ ps => ps.map (·.station)
  | .heater _ => []

/-- The station whose heater consumer waits in an entry. -/
def Entry.heaterStns (e : Entry) : List Stn :=
  match e.body with
  | .motion _ _ => []
  | .heater i => [i]

/-- The places of the admission list (R69). -/
def listPlaces : Nat := 64

/-- The admission list holds at most 64 entries, none of them empty and no consumer twice; a motion consumer that waits there belongs to
an ADMITTING station and a heater consumer to a channel in WAIT (R5, R69, R129). -/
def ListRule (s : State) : Prop :=
  s.power.list.length ≤ listPlaces ∧ (s.power.list.flatMap Entry.motionStns).Nodup ∧
    (s.power.list.flatMap Entry.heaterStns).Nodup ∧
    ∀ e ∈ s.power.list, e.motionStns ++ e.heaterStns ≠ [] ∧
      (∀ i ∈ e.motionStns, (s.stn i).motion = .admitting) ∧ ∀ i ∈ e.heaterStns, (s.chan i).state = .wait

/-- The capacities of the queues and rings, and the order of the roster (R38, R51, R89, R102). -/
def SizeRule (s : State) : Prop :=
  s.sched.groups.length ≤ groupPlaces ∧ s.oper.steers.length ≤ steerPlaces ∧
    (∀ m : MastNo, (s.wind.masts.get m).ring.length ≤ ringPlaces) ∧
    s.camp.roster.Pairwise (fun a b => a.station.val < b.station.val)

/-! ### Premises -/

/-- The oldest frame of a link's FIFO is f, of this kind, and the link may take a request (R176). -/
def Ready (s : State) (l : Link) (f : Frame) (kind : Byte) : Prop :=
  (s.link l).fifo.head? = some f ∧ (s.link l).replyBusy = false ∧ f.kind = kind

/-- The state after an acting request that answers DONE: the frame has left the FIFO and the reply has its place, the block has
acted, what follows has been settled, and the reply holds its code and data (R176). -/
def requestDone (s : State) (l : Link) (f : Frame) (act : State → State) (data : List Byte) : State :=
  (settle false (s.openRequest l f) (act (s.openRequest l f))).answer l f.kind .done data

/-- The state after a request that only answers. -/
def requestAnswered (s : State) (l : Link) (f : Frame) (c : Code) (data : List Byte) : State :=
  (s.openRequest l f).answer l f.kind c data

/-- Two states differ in nothing but the input side, the flags and the outgoing frames of a control link. -/
def OnlyLink (l : Link) (s t : State) : Prop := ∃ f : LinkState → LinkState, t = s.modLink l f

/-! ### Encoders -/

/-- The verdict bytes of a STATUS reply (R192). -/
def encVerdict : Verdict → List Byte
  | .none => [0, 0]
  | .accepted => [1, 0]
  | .rejected c => 2 :: u8 (c.ctorIdx + 1)

/-- One axis of a STATUS payload (R192). -/
def encAxisStatus (a : AxisStatus) : List Byte := i32 a.pos ++ u8 a.phase.ctorIdx ++ u8 a.fault

/-- A STATUS payload (R192). -/
def encStatus (v : Verdict) (st : CabStatus) : List Byte :=
  encVerdict v ++ encAxisStatus st.az ++ encAxisStatus st.el ++ u8 st.pin.ctorIdx ++ u8 st.switch.ctorIdx ++
    encFlag st.closed ++ encTemp st.temp

/-- An axis of a status lies in its ranges (R164, R190). -/
def AxisStatus.legal (a : AxisStatus) : Prop := -360000 ≤ a.pos ∧ a.pos ≤ 360000 ∧ a.fault ≤ 255

/-- Every field of a status lies in its range (R164, R190). -/
def CabStatus.legal (st : CabStatus) : Prop :=
  st.az.legal ∧ st.el.legal ∧ ∀ t, st.temp = some t → -32768 < t ∧ t ≤ 32767

/-- One slot of a KEYS payload (R192). -/
def encKey (k : Option (Nat × LockKind)) : List Byte :=
  match k with
  | none => [0, 0, 0]
  | some (h, q) => u16 h ++ u8 q.ctorIdx

/-- A holder lies in its range (R144). -/
def keyLegal (k : Option (Nat × LockKind)) : Prop := ∀ h q, k = some (h, q) → 1 ≤ h ∧ h ≤ 9999

end Sys2Proof.Machine
end

