-- ==== Sys2Proof/Certificates/Slice0/Obligations.lean ====
section
/-! DEFINITION. The statements for the provers. -/

section Statements

open Sys2Proof Sys2Proof.Machine

/-! ### The step and reset -/

/-- A step takes the command at the front of the queue on the state with the queue's rest; on an empty queue it takes the first event
that the state holds ready, and where there is none site time goes on by 1 ms (log entry 2: the model's choice). -/
def Obligations.StepTakesFrontCommand : Prop :=
  (∀ (c : Instr) (rest : List Instr) (s : State), s.pending = c :: rest → step s = exec c { s with pending := rest }) ∧
  (∀ s : State, s.pending = [] →
    step s = match s.dueEvent with
      | some c => exec c s
      | none => .next { s with clock := s.clock + 1 })

/-- POWER_ON_RESET completes with every part of the machine at the value that the spec gives for reset; the queue of commands, the
count of free choices (log entry 5) and the lapsed dwell expiry (log entry 46) are the model's own. -/
def Obligations.PowerOnResetGivesResetValues : Prop :=
  ∀ s : State, ∃ t, exec .powerOnReset s = .next t ∧ t.pending = s.pending ∧ t.choices = s.choices ∧ t.clock = 0 ∧
    t.cfg = Params.default ∧
    (∀ i : Stn, t.stn i = Station.reset ∧ t.motionGrant i = Grant.reset ∧ t.heatGrant i = Grant.reset ∧
      t.chan i = Channel.reset ∧ t.park i = none ∧ t.lock i = LockRec.reset ∧ t.cab i = Cabinet.reset ∧
      t.stats.stn.get i = StnStats.reset) ∧
    t.sched = { groups := [], suspended := false, next := 1 } ∧ t.oper = { steers := [], next := 1 } ∧
    t.power.feedLimit = 40000 ∧ t.avail = 0 ∧ t.reserve = 0 ∧ t.ceiling = 0 ∧ t.power.list = [] ∧
    t.power.arrival = 1 ∧ t.power.admission = 1 ∧ t.power.deficit = false ∧
    (∀ m : MastNo, t.wind.masts.get m = Mast.reset ∧ t.cfg.mastOn m = true) ∧
    t.wind.stage = .stow ∧ t.wind.cause = .start ∧ t.wind.hold = true ∧ t.wind.short = true ∧ t.wind.dwell = none ∧
    t.wind.siteMean = none ∧ t.wind.siteGust = none ∧ t.wind.changed = 0 ∧
    t.camp.state = .holding ∧ t.camp.cause = some .start ∧ t.camp.also = [] ∧ t.camp.start = none ∧
    t.camp.deadline = none ∧ t.camp.late = false ∧ t.camp.roster = [] ∧
    t.snow.mode = .off ∧ t.snow.source = none ∧ t.snow.cls = none ∧ t.snow.air = none ∧ t.snow.auto = false ∧
    t.snow.clearTimer = none ∧ (∀ i : Stn, t.snow.idleExpiry.get i = none) ∧ t.locks.visit = none ∧ t.bus.visit = none ∧
    t.linkS = LinkState.reset ∧ t.linkO = LinkState.reset ∧ t.site = Receiver.reset ∧
    t.stats.admissions = 0 ∧ t.stats.sheds = 0 ∧ t.stats.deficits = 0 ∧
    t.stats.lineS = LineStats.reset ∧ t.stats.lineO = LineStats.reset ∧ t.stats.site = LineStats.reset

/-- The invariants of the block hold right after reset. -/
def Obligations.InvariantsHoldAtReset : Prop :=
  OwnerRule State.reset ∧ LinkRule State.reset ∧ CounterRule State.reset ∧ ParamRule State.reset ∧
    LockRule State.reset ∧ GrantRule State.reset ∧ SizeRule State.reset ∧ ListRule State.reset

/-! ### Invariants that every step keeps -/

/-- Every step keeps the rule of R4 on motion owners, with that of R8 and R9 on enabled stations. -/
def Obligations.StepKeepsOwnerRule : Prop :=
  ∀ s t : State, OwnerRule s → step s = .next t → OwnerRule t

/-- Every step keeps the FIFOs within 8 frames and the report queues within 16 reports, and no frame waits at an idle transmitter (log
entry 23: the model's reading of R177); every step keeps the motion queues, the mast rings and the roster within their places, and the
roster in ascending station number. -/
def Obligations.StepKeepsQueueBounds : Prop :=
  (∀ s t : State, LinkRule s → step s = .next t → LinkRule t) ∧
  (∀ s t : State, SizeRule s → step s = .next t → SizeRule t)

/-- Every step keeps every counter within 16 bits. -/
def Obligations.StepKeepsCounterRule : Prop :=
  ∀ s t : State, CounterRule s → step s = .next t → CounterRule t

/-- Every step keeps every parameter in its range, fall levels below rise levels and GO_AT below PAUSE_AT. -/
def Obligations.StepKeepsParamRule : Prop :=
  ∀ s t : State, ParamRule s → step s = .next t → ParamRule t

/-- Every step keeps R152 and R155: a lockout entry is IN_FORCE only while the latest status that its cabinet returned showed both axes
braked, and a station is in its warning only while it is HELD, POINTED, PARKED or STOWED. -/
def Obligations.StepKeepsLockRule : Prop :=
  ∀ s t : State, LockRule s → step s = .next t → LockRule t

/-- Every step keeps R63: a grant has class none exactly when its amount is 0, and then no surcharge, no sequence and its flags at no. Two
clauses are the model's reading: that no prices are kept either (the kept prices of a grant are log entry 12's), and that class and flags
fall so also where the amount comes out 0 by a LOCAL_P or ACCEL prices of 0 (log entry 28). -/
def Obligations.StepKeepsGrantRule : Prop :=
  ∀ s t : State, GrantRule s → step s = .next t → GrantRule t

/-! ### Whole-machine rules -/

/-- R155: no station becomes FREE except at a warning expiry. -/
def Obligations.OnlyWarningExpiryFrees : Prop :=
  ∀ (c : Instr) (i : Stn) (s t : State), exec c s = .next t → c ≠ .warningExpiry i → (s.lock i).status ≠ .free →
    (t.lock i).status ≠ .free

/-- A warning expiry that is due frees its station and ends the warning; while the snow mode is OFF, the idle-since time of a HELD station is
then the expiry's time. A judged release ends where an entry, L, an UNKNOWN panel or a disable stands in its way; it begins from NONE in a
status that is not FREE; WAIT_REST becomes WARNING at rest, with WARN_TIME to run, and WARNING becomes WAIT_REST away from rest. What
follows an event leaves a station in WARNING only while it is at rest. -/
def Obligations.WarningEndFrees : Prop :=
  (∀ (i : Stn) (s : State), s.warningDue i = true →
    exec (.warningExpiry i) s = .next (settle false s (s.warningEnd i)) ∧
    ((s.warningEnd i).lock i).status = .free ∧ ((s.warningEnd i).lock i).phase = .none ∧
    ((s.warningEnd i).lock i).warnExp = none ∧
    ((s.stn i).motion = .held → s.snow.mode = .off →
      ((s.warningEnd i).stn i).idleSince = some s.clock)) ∧
  (∀ (r : LockRec) (disabled rest : Bool) (now warn : Nat),
    (releaseBlocked disabled r = true → (r.judgeRelease disabled rest now warn).phase = .none ∧
      (r.judgeRelease disabled rest now warn).warnExp = none) ∧
    (releaseBlocked disabled r = false → r.phase = .none → r.status = .free →
      r.judgeRelease disabled rest now warn = r) ∧
    (releaseBlocked disabled r = false → r.phase = .waitRest ∨ (r.phase = .none ∧ r.status ≠ .free) → rest = true →
      (r.judgeRelease disabled rest now warn).phase = .warning ∧
      (r.judgeRelease disabled rest now warn).warnExp = some (now + 1000 * warn)) ∧
    (releaseBlocked disabled r = false → r.phase = .none → r.status ≠ .free → rest = false →
      (r.judgeRelease disabled rest now warn).phase = .waitRest) ∧
    (releaseBlocked disabled r = false → r.phase = .waitRest → rest = false →
      r.judgeRelease disabled rest now warn = r) ∧
    (releaseBlocked disabled r = false → r.phase = .warning → rest = true →
      r.judgeRelease disabled rest now warn = r) ∧
    (releaseBlocked disabled r = false → r.phase = .warning → rest = false →
      (r.judgeRelease disabled rest now warn).phase = .waitRest ∧
      (r.judgeRelease disabled rest now warn).warnExp = none) ∧
    (releaseBlocked disabled r = true ↔
      disabled = true ∨ r.known = false ∨ r.lOcc = true ∨ ∃ k : Fin 6, (r.slots.get k).isSome = true)) ∧
  (∀ (force : Bool) (old s : State) (i : Stn), ((settle force old s).lock i).phase = .warning →
    ((settle force old s).stn i).motion = .held ∨ ((settle force old s).stn i).motion = .pointed ∨
      ((settle force old s).stn i).motion = .parked ∨ ((settle force old s).stn i).motion = .stowed)

/-- Whatever request is taken, its frame leaves the FIFO and exactly one reply, with its TAG and its kind, goes out on its link. -/
def Obligations.EveryRequestAnsweredOnce : Prop :=
  ∀ (l : Link) (s : State) (f : Frame), (s.link l).fifo.head? = some f → (s.link l).replyBusy = false →
    ∃ t r, exec (requestOf l f.kind) s = .next t ∧ (t.link l).fifo = (s.link l).fifo.tail ∧
      (t.link l).outgoing.filter Frame.isReply = [r] ∧ r.tag = f.tag ∧
      ∃ c data, r.payload = replyPayload f.kind c data

/-- Records that only their own commands write: no command but POWER_ON_RESET sets site time, none but SET and POWER_ON_RESET writes a
parameter, none but FEEDER and POWER_ON_RESET writes FEED_LIMIT, and none touches the commands that wait. That a command takes no site
time, and that the queue stays with the model through a reset, are the model's choices (log entries 2 and 5). -/
def Obligations.OwnedRecordsKeepTheirWriters : Prop :=
  ∀ (c : Instr) (s t : State), exec c s = .next t →
    t.pending = s.pending ∧ (c ≠ .powerOnReset → t.clock = s.clock) ∧
    (c ≠ .powerOnReset → c ≠ .setParam → t.cfg = s.cfg) ∧
    (c ≠ .powerOnReset → (∀ b, c ≠ .feeder b) → t.power.feedLimit = s.power.feedLimit)

/-- A request that its owning block does not answer DONE leaves the block's state as it is; taken as a command, it changes nothing but its
link, where its frame leaves the FIFO and the count is judged (R175), and answers the code and the data of the refusal. -/
def Obligations.RefusedRequestChangesNothing : Prop :=
  (∀ (s : State) (p : List Byte), ∀ h ∈
    [takeSlew, takeCancel, takeFlush, takeResume, takeRest, takeSteer, takeHalt, takeStowAll, takeUnstow, takeSnowOn,
      takeSnowOff, takeConsoleLock, takeConsoleUnlock, takeWriteOff, takeEnable, takeDisable, takeSet, takeClear,
      takeAck .S, takeAck .O, takeDump],
    (h s p).code ≠ .done → (h s p).state = s) ∧
  (∀ (s : State) (f : Frame), ∀ x ∈
    ([(.S, .slew, takeSlew), (.S, .cancel, takeCancel), (.S, .flush, takeFlush), (.S, .resume, takeResume),
      (.S, .rest, takeRest), (.O, .steer, takeSteer), (.O, .halt, takeHalt), (.O, .stowAll, takeStowAll),
      (.O, .unstow, takeUnstow), (.O, .snowOn, takeSnowOn), (.O, .snowOff, takeSnowOff),
      (.O, .consoleLock, takeConsoleLock), (.O, .consoleUnlock, takeConsoleUnlock), (.O, .writeOff, takeWriteOff),
      (.O, .enable, takeEnable), (.O, .disable, takeDisable), (.O, .setParam, takeSet), (.O, .clearAll, takeClear),
      (.S, .ack .S, takeAck .S), (.O, .ack .O, takeAck .O), (.S, .dump .S, takeDump), (.O, .dump .O, takeDump)] :
      List (Link × Instr × (State → List Byte → Result))),
    (s.link x.1).fifo.head? = some f → (s.link x.1).replyBusy = false → requestOf x.1 f.kind = x.2.1 →
    (x.2.2 (s.openRequest x.1 f) f.payload).code ≠ .done →
    ∃ t, exec x.2.1 s = .next t ∧
      t = requestAnswered s x.1 f (x.2.2 (s.openRequest x.1 f) f.payload).code
        (x.2.2 (s.openRequest x.1 f) f.payload).data ∧
      OnlyLink x.1 s t ∧ (t.link x.1).fifo = (s.link x.1).fifo.tail ∧ (t.link x.1).flags = (s.link x.1).flags ∧
      (t.link x.1).rx = (s.link x.1).rx)

/-- A query changes nothing but the FIFO, the paused flag and the outgoing frames of its link. -/
def Obligations.QueryTouchesOnlyItsLink : Prop :=
  ∀ (l : Link) (c : Instr) (s : State),
    c ∈ [.qStation l, .qPower l, .qWind l, .qCampaign l, .qQueue l, .qLockout l, .unknownRequestKind l] →
    ∃ t, exec c s = .next t ∧ OnlyLink l s t ∧ (t.link l).flags = (s.link l).flags ∧ (t.link l).rx = (s.link l).rx

/-! ### Frames and receivers -/

/-- A searching receiver that holds nothing takes the bytes of a frame, after bytes that hold no delimiter, to COLLECTING, and then hands
on exactly that frame and keeps the bytes that follow it. -/
def Obligations.ReceiverRecoversFrame : Prop :=
  ∀ (f : Frame) (noise rest : List Byte), f.payload.length ≤ 248 → delimiter ∉ noise →
    ∃ held, Receiver.find { collecting := false, held := [] } (noise ++ f.bytes.take 2) = .start held ∧
      Receiver.find { collecting := true, held := held } (f.bytes.drop 2 ++ rest) = .good f rest

/-- A STATUS reply written out by R192 from fields in their ranges is read back as it was written, at a visit that is in time and whose
request the verdict suits (that a reply at the very millisecond of the timeout is in time is log entry 27: the model's reading); a KEYS
payload written out from four legal slots is read back as it was written. -/
def Obligations.PolledRepliesReadBack : Prop :=
  (∀ (s : State) (v : BusVisit) (o : Outstanding) (vd : Verdict) (st : CabStatus),
    s.clock ≤ v.start + v.timeout → (s.cab v.station).outstanding = some o → verdictSuits o.cmd vd = true → st.legal →
    s.goodStatus v
      (Frame.bytes { kind := kindStatus, tag := BitVec.ofNat 8 (v.station.val + 1), payload := encStatus vd st }) =
      some (st, { cmd := o.cmd, verdict := vd })) ∧
  (∀ a b c d : Option (Nat × LockKind), keyLegal a → keyLegal b → keyLegal c → keyLegal d →
    keysOf (encKey a ++ encKey b ++ encKey c ++ encKey d) = some [a, b, c, d])

/-- A good frame gathered on a control link counts; it joins the tail of the FIFO while that holds fewer than 8 frames, and is otherwise
dropped, counted, and raises LOST_INPUT. A discard counts one bad frame, goes back to SEARCHING after the delimiter, and raises
LOST_INPUT on its link, or on Link O for the site line. A LEN in range begins COLLECTING and changes nothing else. -/
def Obligations.CandidatesAreTakenOrDiscarded : Prop :=
  (∀ (l : Link) (b : List Byte) (s : State) (f : Frame) (rest : List Byte),
    (s.rx (lineOf l)).find b = .good f rest →
    ∃ t, exec (.linkFrameReceived l b) s = .next t ∧
      (t.stats.line (lineOf l)).good = bump (s.stats.line (lineOf l)).good ∧
      t.rx (lineOf l) = { collecting := false, held := rest } ∧
      (if (s.link l).fifo.length < 8 then
        (t.link l).fifo = (s.link l).fifo ++ [f] ∧
          (t.stats.line (lineOf l)).dropped = (s.stats.line (lineOf l)).dropped
      else
        (t.link l).fifo = (s.link l).fifo ∧
          (t.stats.line (lineOf l)).dropped = bump (s.stats.line (lineOf l)).dropped ∧
          (t.link l).flags.getLsbD NoticeFlag.lostInput.bit.val = true)) ∧
  (∀ (ln : Line) (b held : List Byte) (s : State), (s.rx ln).find b = .bad held →
    ∃ t, exec (.badFrame ln b) s = .next t ∧ t.rx ln = { collecting := false, held := held } ∧
      (t.stats.line ln).bad = bump (s.stats.line ln).bad ∧
      (t.link (lostOn ln)).flags.getLsbD NoticeFlag.lostInput.bit.val = true) ∧
  (∀ (ln : Line) (b held : List Byte) (s : State), (s.rx ln).find b = .start held →
    exec (.collectingStart ln b) s = .next (s.setRx ln { collecting := true, held := held }))

/-- The end of a frame begins the next of the transmit order and frees a report's place; nothing else changes. -/
def Obligations.TransmitFrameEndBeginsNext : Prop :=
  ∀ (l : Link) (s : State), ∃ t, exec (.transmitFrameEnd l) s = .next t ∧ OnlyLink l s t ∧
    (t.link l).sending = (s.link l).order.head? ∧ (t.link l).order = (s.link l).order.tail ∧
    (t.link l).fifo = (s.link l).fifo ∧ (t.link l).flags = (s.link l).flags ∧
    (t.link l).paused = (s.link l).paused ∧ (t.link l).rx = (s.link l).rx ∧
    (t.link l).reportCount + ((s.link l).sending.toList.countP (·.isReport)) = (s.link l).reportCount

/-- PAUSE and GO follow the FIFO count: a frame that joins has the count judged against PAUSE_AT, a request that is taken against GO_AT. A
join that reaches PAUSE_AT with the flag clear sets the flag and sends PAUSE ahead of what waits, taking out a GO that still waits (log
entry 22: the model's reading of R177); a taking that reaches GO_AT with the flag set clears it, and sends GO ahead of what waits unless
PAUSE still waits, which is then removed. An idle transmitter begins the frame at once (log entry 23: the model's reading of R177). No
judgement leaves a PAUSE and a GO waiting together. -/
def Obligations.FlowControlFollowsCount : Prop :=
  (∀ (s : State) (l : Link) (f : Frame), (s.link l).fifo.length < 8 →
    (s.joinFifo l f).link l =
      LinkState.judgePause { s.link l with fifo := (s.link l).fifo ++ [f] } s.cfg.pauseAt) ∧
  (∀ (s : State) (l : Link) (f : Frame),
    (s.openRequest l f).link l =
      (LinkState.judgeGo { s.link l with fifo := (s.link l).fifo.tail } s.cfg.goAt).placeTail
        { kind := kindReply, tag := f.tag, payload := [] }) ∧
  (∀ (k : LinkState) (n : Nat), n ≤ k.fifo.length → k.paused = false →
    (k.judgePause n).paused = true ∧ (k.judgePause n).order.any Frame.isGo = false ∧
    (k.sending.isSome = true → (k.judgePause n).order.head? = some pauseFrame ∧ (k.judgePause n).sending = k.sending) ∧
    (k.sending = none → (k.judgePause n).sending = some pauseFrame)) ∧
  (∀ (k : LinkState) (n : Nat), k.fifo.length < n ∨ k.paused = true → k.judgePause n = k) ∧
  (∀ (k : LinkState) (n : Nat), k.fifo.length ≤ n → k.paused = true → k.order.any Frame.isPause = true →
    (k.judgeGo n).paused = false ∧ (k.judgeGo n).outgoing.countP (·.isGo) = k.outgoing.countP (·.isGo) ∧
      (k.judgeGo n).order.any Frame.isPause = false ∧ (k.judgeGo n).sending = k.sending) ∧
  (∀ (k : LinkState) (n : Nat), k.fifo.length ≤ n → k.paused = true → k.order.any Frame.isPause = false →
    (k.judgeGo n).paused = false ∧
    (k.sending.isSome = true → (k.judgeGo n).order = goFrame :: k.order ∧ (k.judgeGo n).sending = k.sending) ∧
    (k.sending = none → (k.judgeGo n).sending = some goFrame)) ∧
  (∀ (k : LinkState) (n : Nat), n < k.fifo.length ∨ k.paused = false → k.judgeGo n = k) ∧
  (∀ (k : LinkState) (n : Nat), (k.order.any Frame.isPause && k.order.any Frame.isGo) = false →
    ((k.judgePause n).order.any Frame.isPause && (k.judgePause n).order.any Frame.isGo) = false ∧
    ((k.judgeGo n).order.any Frame.isPause && (k.judgeGo n).order.any Frame.isGo) = false)

/-- A raised flag stays as it is when it is raised again; a lowered one is raised, and under its link's mask a NOTICE that lists every raised
flag waits or is being sent, with at most as many notices waiting as before or one. A SET of a mask that adds a raised flag to it produces
such a notice too; one that adds none changes nothing more. -/
def Obligations.RaisingAFlagNotifiesOnce : Prop :=
  (∀ (k : LinkState) (mask : BitVec 10) (now : Nat) (f : NoticeFlag),
    (k.flags.getLsbD f.bit.val = true → k.raiseFlag mask now f = k) ∧
    (k.flags.getLsbD f.bit.val = false →
      (k.raiseFlag mask now f).flags = k.flags ||| (1 <<< f.bit.val) ∧
      (mask.getLsbD f.bit.val = false → (k.raiseFlag mask now f).outgoing = k.outgoing) ∧
      (mask.getLsbD f.bit.val = true →
        noticeFrame (k.flags ||| (1 <<< f.bit.val)) now ∈ (k.raiseFlag mask now f).outgoing ∧
        (k.raiseFlag mask now f).order.countP (·.isNotice) ≤ max 1 (k.order.countP (·.isNotice))))) ∧
  (∀ (s : State) (l : Link) (f : NoticeFlag),
    (s.notice l f).link l = (s.link l).raiseFlag (s.mask l) s.clock f) ∧
  (∀ (s : State) (before : Params),
    s.applyParam .maskS before = s.maskSet .S before.maskS ∧ s.applyParam .maskO before = s.maskSet .O before.maskO) ∧
  (∀ (s : State) (l : Link) (before : BitVec 10),
    ((s.link l).flags &&& s.mask l &&& ~~~before = 0 → s.maskSet l before = s) ∧
    ((s.link l).flags &&& s.mask l &&& ~~~before ≠ 0 →
      ((s.maskSet l before).link l).flags = (s.link l).flags ∧
      noticeFrame (s.link l).flags s.clock ∈ ((s.maskSet l before).link l).outgoing ∧
      ((s.maskSet l before).link l).order.countP (·.isNotice) ≤ max 1 ((s.link l).order.countP (·.isNotice))))

/-! ### The slew planner -/

/-- R32: the duration of a moved axis is the smallest whole number of ms that covers its profile, trapezoidal when d × a ≥ v × v and
triangular otherwise; the slew duration of a plan is the larger of its two axes', one that is not moved counting as 0; and a stow
entry carries the slew duration of its plan as stow duration. -/
def Obligations.DurationIsLeastWholeTime : Prop :=
  (∀ d v a : Nat, 0 < d → 0 < v → 0 < a →
    (v * v ≤ d * a → ∀ t : Nat, duration d v a ≤ t ↔ 1000 * (d * a + v * v) ≤ t * (v * a)) ∧
    (d * a < v * v → ∀ t : Nat, duration d v a ≤ t ↔ 4000000 * d ≤ t * t * a)) ∧
  (∀ (c : Params) (i : Stn) (k : PlanKind) (w : Option Wrap) (cap : Option Nat) (g : Stage) (a0 a1 e0 e1 : Int),
    (makePlan c i k w cap g a0 a1 e0 e1).duration =
      max (planAxis c .az g cap a0 a1).dur (planAxis c .el g cap e0 e1).dur) ∧
  (∀ (c : Params) (x : Axis) (g : Stage) (cap : Option Nat) (p q : Int),
    (planAxis c x g cap p q).dur =
      if p = q then 0
      else duration (q - p).natAbs (velocity (c.vmax x) cap (c.derate.at g)) (c.amax x)) ∧
  (∀ (e : Entry) (g : Bool) (p : Plan) (ps : List Plan), e.body = .motion g (p :: ps) → e.stowDur = p.duration)

/-- R28: with wrap NEAREST the target azimuth is one of the turns of the sky azimuth that lie within AZ_MIN..AZ_MAX, the nearest to the start,
then the one of smaller magnitude, then the positive one; with none of them the plan is OUT_OF_LIMITS; a re-plan keeps the choice. -/
def Obligations.NearestWrapIsChosenOnce : Prop :=
  ∀ (c : Params) (start : Int) (t : Target), t.wrap = .nearest → 0 ≤ t.az → t.az ≤ 359999 →
    -270000 ≤ c.azMin → c.azMax ≤ 270000 →
    (targetAz c start t = none ↔ ∀ k : Int, ¬ (c.azMin ≤ t.az + k * 360000 ∧ t.az + k * 360000 ≤ c.azMax)) ∧
    (∀ a, targetAz c start t = some a →
      (∃ k : Int, a = t.az + k * 360000) ∧ c.azMin ≤ a ∧ a ≤ c.azMax ∧
      ∀ k : Int, c.azMin ≤ t.az + k * 360000 → t.az + k * 360000 ≤ c.azMax →
        (a - start).natAbs ≤ (t.az + k * 360000 - start).natAbs ∧
        ((a - start).natAbs = (t.az + k * 360000 - start).natAbs →
          a.natAbs ≤ (t.az + k * 360000).natAbs ∧
          (a.natAbs = (t.az + k * 360000).natAbs → t.az + k * 360000 ≤ a))) ∧
    (∀ (i : Stn) (g : Stage) (el : Int) (cap : Option Nat), targetAz c start t = none →
      planOrdinary c i g start el t cap = none) ∧
    (∀ (i : Stn) (g : Stage) (el : Int) (cap : Option Nat) (a : Int), targetAz c start t = some a →
      c.elLo ≤ t.el → t.el ≤ c.elHi →
      ∃ p, planOrdinary c i g start el t cap = some p ∧ p.az.start = start ∧ p.az.dist = (a - start).natAbs ∧
        (a ≠ start → p.az.move.map (·.target) = some a) ∧
        ∀ (c' : Params) (g' : Stage), (replan c' g' p).az.move.map (·.target) = p.az.move.map (·.target) ∧
          (replan c' g' p).az.start = p.az.start ∧ (replan c' g' p).az.dist = p.az.dist)

/-! ### The motion queues -/

/-- A new group or steer takes a number in 1..65535 that no item of its queue holds. -/
def Obligations.NewNumbersAreFree : Prop :=
  (∀ q : SchedQueue, q.groups.length ≤ 16 → 1 ≤ q.next → q.next ≤ 65535 →
    1 ≤ q.take ∧ q.take ≤ 65535 ∧ q.take ∉ q.groups.map (·.number)) ∧
  (∀ q : OperQueue, q.steers.length ≤ 8 → 1 ≤ q.next → q.next ≤ 65535 →
    1 ≤ q.take ∧ q.take ≤ 65535 ∧ q.take ∉ q.steers.map (·.number))

/-- A well-formed SLEW into a queue with room is answered DONE with the new group's number, and the group joins the tail as QUEUED with no
outcome; a full queue is answered FULL and a malformed SLEW BAD_ARG. -/
def Obligations.SlewQueuesAGroup : Prop :=
  (∀ (s : State) (f : Frame) (a : SlewArgs), Ready s .S f 0x01 → slewArgs f.payload = some a →
    s.sched.groups.length < 16 →
    exec .slew s = .next (requestDone s .S f (fun o => o.addGroup a) (u16 s.sched.take)) ∧
    (s.addGroup a).sched.groups = s.sched.groups ++
      [{ number := s.sched.take, state := .queued, members := a.stations.map fun i => (i, none), target := a.target,
         cap := a.cap, prio := a.prio, mode := a.mode, hold := a.hold }]) ∧
  (∀ (s : State) (f : Frame) (a : SlewArgs), Ready s .S f 0x01 → slewArgs f.payload = some a →
    16 ≤ s.sched.groups.length → exec .slew s = .next (requestAnswered s .S f .full [])) ∧
  (∀ (s : State) (f : Frame), Ready s .S f 0x01 → slewArgs f.payload = none →
    exec .slew s = .next (requestAnswered s .S f .badArg []))

/-- CANCEL ends the named group with CANCELLED; number 0 is BAD_ARG, an unheld number NO_SUCH. A group that is ended so has an outcome for
every member, and each member that it owned is stopped if SLEWING, and returns to its rest posture if ADMITTING. -/
def Obligations.CancelCompletesTheGroup : Prop :=
  (∀ (s : State) (f : Frame) (a b : Byte) (g : Group), Ready s .S f 0x02 → f.payload = [a, b] → rd16 a b ≠ 0 →
    s.group? (rd16 a b) = some g →
    exec .cancel s = .next (requestDone s .S f (fun o => o.endGroup .cancelled g) [])) ∧
  (∀ (s : State) (f : Frame) (a b : Byte), Ready s .S f 0x02 → f.payload = [a, b] → rd16 a b ≠ 0 →
    s.group? (rd16 a b) = none → exec .cancel s = .next (requestAnswered s .S f .noSuch [])) ∧
  (∀ (s : State) (f : Frame) (a b : Byte), Ready s .S f 0x02 → f.payload = [a, b] → rd16 a b = 0 →
    exec .cancel s = .next (requestAnswered s .S f .badArg [])) ∧
  (∀ (s : State) (o : MoveOutcome) (g : Group), ∀ h ∈ (s.endGroup o g).sched.groups, h.number = g.number →
    h.complete = true) ∧
  (∀ (s : State) (o : MoveOutcome) (g : Group) (i : Stn), i ∈ g.stations → (s.stn i).owner = some (.group g.number) →
    ((s.stn i).motion = .slewing →
      ((s.endGroup o g).stn i).motion = .stopping ∧ ((s.endGroup o g).stn i).owner = none ∧
      ((s.endGroup o g).cab i).motion = some .stop) ∧
    ((s.stn i).motion = .admitting →
      ((s.endGroup o g).stn i).motion = ((s.stn i).posture.getD .held).motion ∧
      ((s.endGroup o g).stn i).owner = none))

/-- FLUSH ends every QUEUED group with CANCELLED and carries their count; RESUME clears the suspended flag; REST brakes the named POINTED
stations, which become STOPPING with BRAKE in their motion slots, and carries their set. -/
def Obligations.FlushResumeRestComplete : Prop :=
  (∀ (s : State) (f : Frame), Ready s .S f 0x03 → f.payload = [] →
    exec .flush s = .next (requestDone s .S f
      (fun o => (o.sched.groups.filter fun g => decide (g.state = .queued)).foldl (State.endGroup .cancelled) o)
      (u16 (s.sched.groups.filter fun g => decide (g.state = .queued)).length))) ∧
  (∀ (s : State) (f : Frame), Ready s .S f 0x04 → f.payload = [] →
    exec .resume s = .next (requestDone s .S f
      (fun o => displayNotices o { o with sched := { o.sched with suspended := false } }) [])) ∧
  (∀ (s : State) (f : Frame) (l : List Stn), Ready s .S f 0x05 → setArg f.payload = some l →
    exec .rest s = .next (requestDone s .S f
      (fun o => (l.filter fun i => decide ((o.stn i).motion = .pointed)).foldl State.brakePointed o)
      (encSet (l.filter fun i => decide ((s.stn i).motion = .pointed))))) ∧
  (∀ (s : State) (i : Stn), (s.stn i).motion = .pointed →
    ((s.brakePointed i).stn i).motion = .stopping ∧ ((s.brakePointed i).cab i).motion = some .brake ∧
    ∀ j, j ≠ i → (s.brakePointed i).stn j = s.stn j ∧ (s.brakePointed i).cab j = s.cab j)

/-- A well-formed STEER into a queue with room is answered DONE with its number and joins the tail; HALT acts on each named station and
carries the set acted on; a full queue is answered FULL, and a malformed STEER or HALT and a HALT of no station BAD_ARG. By R57, a HALT
withdraws a waiting motion, with the station back in its rest posture; stops a motion under way, giving HALTED to the owner, and for a stow
leaves no PIN_IN unsent and the roster entry HALTED; and completes with HALTED a steer that waits for the station's rest. It does nothing
else, and touches no other station. -/
def Obligations.SteerAndHaltComplete : Prop :=
  (∀ (s : State) (f : Frame) (a : SteerArgs), Ready s .O f 0x10 → steerArgs f.payload = some a →
    s.oper.steers.length < 8 →
    exec .steer s = .next (requestDone s .O f (fun o => o.addSteer a) (u16 s.oper.take)) ∧
    (s.addSteer a).oper.steers = s.oper.steers ++
      [{ number := s.oper.take, station := a.station, target := a.target, cap := a.cap, state := .queued,
         outcome := none }]) ∧
  (∀ (s : State) (f : Frame) (a : SteerArgs), Ready s .O f 0x10 → steerArgs f.payload = some a →
    8 ≤ s.oper.steers.length → exec .steer s = .next (requestAnswered s .O f .full [])) ∧
  (∀ (s : State) (f : Frame) (i : Stn) (l : List Stn), Ready s .O f 0x11 → setArg f.payload = some (i :: l) →
    exec .halt s = .next (requestDone s .O f (fun o => (i :: l).foldl State.haltStation o)
      (encSet ((i :: l).filter s.haltActs)))) ∧
  (∀ (s : State) (f : Frame), Ready s .O f 0x10 → steerArgs f.payload = none →
    exec .steer s = .next (requestAnswered s .O f .badArg [])) ∧
  (∀ (s : State) (f : Frame), Ready s .O f 0x11 → setArg f.payload = none ∨ setArg f.payload = some [] →
    exec .halt s = .next (requestAnswered s .O f .badArg [])) ∧
  (∀ (s : State) (i : Stn),
    (∀ w, (s.stn i).motion = .admitting → (s.stn i).owner = some w →
      ((s.haltStation i).stn i).motion = ((s.stn i).posture.getD .held).motion ∧
      ((s.haltStation i).stn i).owner = none ∧
      ∀ e ∈ (s.haltStation i).power.list, i ∉ e.motionStns) ∧
    ((s.stn i).motion = .slewing ∨ (s.stn i).motion = .stowing →
      ((s.haltStation i).stn i).motion = .stopping ∧ ((s.haltStation i).stn i).owner = none ∧
      ((s.haltStation i).cab i).motion = some .stop) ∧
    ((s.stn i).motion = .stowing → (s.stn i).owner = some .stow →
      ((s.haltStation i).cab i).pin ≠ some .pinIn ∧
      ∀ e, (s.haltStation i).entry? i = some e → e.status = .halted ∧ e.outcome = some .halted) ∧
    ((s.stn i).motion = .admitting ∨ (s.stn i).motion = .slewing ∨ (s.stn i).motion = .stowing →
      s.haltActs i = true ∧ (s.haltStation i).sched = (s.giveOutcome i .halted).sched ∧
      (s.haltStation i).oper = (s.giveOutcome i .halted).oper ∧ (s.haltStation i).camp = (s.giveOutcome i .halted).camp ∧
      (s.haltStation i).stats = (s.giveOutcome i .halted).stats) ∧
    ((s.stn i).motion ≠ .admitting → (s.stn i).motion ≠ .slewing → (s.stn i).motion ≠ .stowing →
      (s.haltActs i = true ↔ ∃ t ∈ s.oper.steers, t.station = i ∧ t.state = .waitingRest ∧ t.outcome = none) ∧
      s.haltStation i = { s with oper := { s.oper with steers := s.oper.steers.map fun t =>
        if t.station = i ∧ t.state = .waitingRest then { t with outcome := some (t.outcome.getD .halted) } else t } }) ∧
    (∀ j, j ≠ i → (s.haltStation i).stn j = s.stn j ∧ (s.haltStation i).cab j = s.cab j))

/-- An ended motion gives its owner one outcome and counts it: a group records it for its member once, a steer once, STOW in its roster
entry, withdrawing of its own commands the MOVE of a moving stow, the BRAKE of a braking one and a PIN_IN, and no other command that stands
there; SNOW loses its park step; arrivals count as such and all else as another ending. Stopping a motion gives that outcome, clears
the owner, places STOP in the motion slot and makes the station STOPPING without targets; a waiting motion that is withdrawn returns its
station to its rest posture and leaves the list, with no command placed where a group owned it. A slew of a group or steer is judged only
after its MOVE was accepted, and ends POINTED with ARRIVED or SHORT, or STOPPING with BRAKE placed and SHORT; a park brakes when its
elevation is still, and ends PARKED when both axes are braked. No other station's record changes. -/
def Obligations.EndedMotionsComeToRest : Prop :=
  (∀ (s : State) (i : Stn) (o : MoveOutcome), (s.stn i).motion = .slewing ∨ (s.stn i).motion = .stowing →
    ((s.stopMoving i o).stn i).motion = .stopping ∧ ((s.stopMoving i o).stn i).owner = none ∧
    ((s.stopMoving i o).stn i).az.target = none ∧ ((s.stopMoving i o).stn i).el.target = none ∧
    ((s.stopMoving i o).cab i).motion = some .stop ∧
    ((s.stopMoving i o).motionGrant i).amount = (s.motionGrant i).amount ∧
    ((s.stopMoving i o).motionGrant i).awaiting = false ∧
    (∀ j, j ≠ i → (s.stopMoving i o).stn j = s.stn j ∧ (s.stopMoving i o).cab j = s.cab j)) ∧
  (∀ (s : State) (i : Stn) (o : MoveOutcome) (p : Posture) (n : Nat), (s.stn i).motion = .admitting →
    (s.stn i).posture = some p → (s.stn i).owner = some (.group n) →
    ((s.withdrawWaiting i o).stn i).motion = p.motion ∧ ((s.withdrawWaiting i o).stn i).owner = none ∧
    ((s.withdrawWaiting i o).stn i).posture = none ∧ (s.withdrawWaiting i o).bus = s.bus ∧
    (∀ e ∈ (s.withdrawWaiting i o).power.list, ∀ g ps, e.body = .motion g ps → ∀ q ∈ ps, q.station ≠ i) ∧
    (s.withdrawWaiting i o).power.motion = s.power.motion ∧
    (∀ j, j ≠ i → (s.withdrawWaiting i o).stn j = s.stn j)) ∧
  (∀ (s : State) (i : Stn) (o : MoveOutcome), ∀ t ∈ [s.stopMoving i o, s.withdrawWaiting i o],
    t.sched = (s.giveOutcome i o).sched ∧ t.oper = (s.giveOutcome i o).oper ∧ t.camp = (s.giveOutcome i o).camp ∧
      t.stats = (s.giveOutcome i o).stats ∧ t.park i = (s.giveOutcome i o).park i) ∧
  (∀ (s : State) (i : Stn) (o : MoveOutcome) (w : Owner), (s.stn i).owner = some w →
    (s.giveOutcome i o).stats.stn.get i = countOutcome o (s.stats.stn.get i) ∧
    (∀ n, w = .group n → (s.giveOutcome i o).sched.groups =
      s.sched.groups.map fun g => if g.number = n then g.record i o else g) ∧
    (∀ n, w = .steer n → (s.giveOutcome i o).oper.steers =
      s.oper.steers.map fun t => if t.number = n then t.record o else t) ∧
    (w = .stow → ∀ e, s.entry? i = some e → (s.giveOutcome i o).entry? i =
      some { e with status := interruptedStatus o e.status, outcome := some o, noPin := false, stowDur := none }) ∧
    (w = .stow → ∀ e c, s.entry? i = some e → (s.cab i).motion = some c →
      ((s.giveOutcome i o).cab i).motion =
        if (e.status = .moving ∧ c.isMove = true) ∨ (e.status = .braking ∧ c = .brake) then none else some c) ∧
    (w = .stow → ((s.cab i).motion = none → ((s.giveOutcome i o).cab i).motion = none) ∧
      ((s.giveOutcome i o).cab i).pin = if (s.cab i).pin = some .pinIn then none else (s.cab i).pin) ∧
    (w = .snow → (s.giveOutcome i o).park i = none)) ∧
  (∀ (g : Group) (i : Stn) (o : MoveOutcome), ∀ m ∈ g.members,
    if m.1 = i ∧ m.2 = none then (i, some o) ∈ (g.record i o).members else m ∈ (g.record i o).members) ∧
  (∀ (t : Steer) (o : MoveOutcome), (t.record o).outcome = some (t.outcome.getD o)) ∧
  (∀ (o : MoveOutcome) (t : StnStats), countOutcome o t =
    if o = .arrived ∨ o = .short then { t with arrivals := bump t.arrivals }
    else { t with otherEndings := bump t.otherEndings }) ∧
  (∀ (s : State) (i : Stn) (st : CabStatus) (tk : TakenFlags) (a : Answer) (mark : Bool) (w : Owner),
    (s.stn i).motion = .slewing → (s.stn i).owner = some w → (∃ n, w = .group n ∨ w = .steer n) →
    refusedMove a mark = none →
    s.stationRemote i st tk a mark = if tk.motion then s.judgeArrival i st else s) ∧
  (∀ (s : State) (i : Stn) (st : CabStatus) (t : Int) (x : AxisStatus),
    (t, x) ∈ movedAxes (s.stn i) st ↔
      ((s.stn i).az.target = some t ∧ x = st.az) ∨ ((s.stn i).el.target = some t ∧ x = st.el)) ∧
  (∀ (s : State) (i : Stn) (st : CabStatus), (s.stn i).motion = .slewing →
    ((∃ x ∈ movedAxes (s.stn i) st, x.2.phase.moving = true) → s.judgeArrival i st = s) ∧
    ((∀ x ∈ movedAxes (s.stn i) st, x.2.phase = .holding) →
      s.judgeArrival i st = (s.giveOutcome i
        (if ∀ x ∈ movedAxes (s.stn i) st, (x.2.pos - x.1).natAbs ≤ s.cfg.arriveTol then .arrived else .short)).setMotion
          i .pointed ∧
      ((s.judgeArrival i st).stn i).motion = .pointed) ∧
    ((∀ x ∈ movedAxes (s.stn i) st, x.2.phase = .holding ∨ x.2.phase = .braked) →
      (∃ x ∈ movedAxes (s.stn i) st, x.2.phase = .braked) →
      s.judgeArrival i st = ((s.giveOutcome i .short).placeMotion i .brake).setMotion i .stopping ∧
      ((s.judgeArrival i st).stn i).motion = .stopping ∧ ((s.judgeArrival i st).cab i).motion = some .brake) ∧
    ((∀ x ∈ movedAxes (s.stn i) st, x.2.phase.moving = false) →
      ((s.judgeArrival i st).stn i).owner = none ∧ ((s.judgeArrival i st).stn i).az.target = none ∧
        ((s.judgeArrival i st).stn i).el.target = none)) ∧
  (∀ (s : State) (i : Stn) (st : CabStatus) (tk : TakenFlags), (s.stn i).motion = .slewing →
    (s.stn i).owner = some .snow →
    (tk.motion = false → s.parkReply i st tk = s) ∧
    (tk.motion = true → s.park i = some .moving →
      (st.el.phase.moving = true → s.parkReply i st tk = s) ∧
      (st.el.phase.moving = false → ((s.parkReply i st tk).cab i).motion = some .brake ∧
        (s.parkReply i st tk).park i = some .braking ∧ (s.parkReply i st tk).stn i = s.stn i)) ∧
    (tk.motion = true → s.park i = some .braking →
      (st.braked = false → s.parkReply i st tk = s) ∧
      (st.braked = true → ((s.parkReply i st tk).stn i).motion = .parked ∧
        ((s.parkReply i st tk).stn i).owner = none ∧ ((s.parkReply i st tk).stn i).el.target = none ∧
        (s.parkReply i st tk).park i = none ∧
        (s.parkReply i st tk).stats.stn.get i =
          { s.stats.stn.get i with arrivals := bump (s.stats.stn.get i).arrivals })))

/-- CLEAR empties both queues and clears the suspended flag, answers with both counts, and leaves the campaign, the wind, the locks, the
heater grants, the configuration, the numbering and the snow record with its channels and park steps as they stand; only an idle expiry
follows a station that returns to HELD. -/
def Obligations.ClearEmptiesBothQueues : Prop :=
  (∀ (s : State) (f : Frame), Ready s .O f 0x1D → f.payload = [] →
    exec .clearAll s = .next (requestDone s .O f State.clearQueues
      (u16 s.sched.groups.length ++ u16 s.oper.steers.length))) ∧
  (∀ s : State, s.clearQueues.sched = { groups := [], suspended := false, next := s.sched.next } ∧
    s.clearQueues.oper = { steers := [], next := s.oper.next } ∧ s.clearQueues.camp = s.camp ∧
    s.clearQueues.wind = s.wind ∧ s.clearQueues.locks = s.locks ∧ s.clearQueues.cfg = s.cfg ∧
    s.clearQueues.power.heat = s.power.heat ∧ s.clearQueues.power.feedLimit = s.power.feedLimit ∧
    s.clearQueues.snow = { s.snow with idleExpiry := s.clearQueues.snow.idleExpiry } ∧
    ∀ i : Stn, (s.clearQueues.stn i).motion = (s.stn i).motion →
      s.clearQueues.snow.idleExpiry.get i = s.snow.idleExpiry.get i)

/-! ### Power -/

/-- A reconsideration never takes the total of all grants above AVAIL, changes neither AVAIL nor the deficit condition, and does nothing in
deficit. The head is admissible only out of deficit, with the total plus its increase within AVAIL and, unless it is a stow, ORDINARY plus
HEAT plus its increase within the ordinary ceiling; and once such an entry that is no stow is admitted, ORDINARY plus HEAT grants do not
exceed the ordinary ceiling, given that no consumer of the entry holds a stow grant (premises on grants are those of R63). -/
def Obligations.AdmissionsStayWithinAvail : Prop :=
  (∀ s : State, (s.total ≤ s.avail → s.reconsider.total ≤ s.avail) ∧ s.reconsider.avail = s.avail ∧
    s.reconsider.power.deficit = s.power.deficit ∧
    (s.power.deficit = true → s.reconsider = s)) ∧
  (∀ (s : State) (e : Entry), s.admissible e = true ↔
    s.power.deficit = false ∧ s.total + s.increase e ≤ s.avail ∧
      (e.cls ≠ .stow → s.classTotal .ordinary + s.classTotal .heat + s.increase e ≤ s.ceiling)) ∧
  (∀ (s : State) (e : Entry), s.admissible e = true → e.cls ≠ .stow →
    (∀ i ∈ e.motionStns, (s.motionGrant i).cls ≠ some .stow ∧ (s.motionGrant i).classed) →
    (s.admitEntry e).classTotal .ordinary + (s.admitEntry e).classTotal .heat ≤ (s.admitEntry e).ceiling ∧
      (s.admitEntry e).ceiling = s.ceiling ∧ (s.admitEntry e).total ≤ s.avail)

/-- The head of the list is an entry of it that is not passed over, and no entry that is not passed over stands strictly before it: none has a
higher priority; at priority 7 none has a longer stow duration, nor an equal one with a lower station number; at another priority none of
its own has waited longer by the arrival sequences. Exactly the motion entries below FLOOR are passed over, and there is no head only where
every entry is. -/
def Obligations.HeadIsFirstInOrder : Prop :=
  (∀ (s : State) (e : Entry), s.head? = some e →
    e ∈ s.power.list ∧ s.passedOver e = false ∧
    ∀ x ∈ s.power.list, s.passedOver x = false → s.headBefore e x = true ∧ x.prio ≤ e.prio ∧
      (x.prio = e.prio →
        (e.prio = 7 → x.stowDur < e.stowDur ∨ (x.stowDur = e.stowDur ∧ e.firstStn ≤ x.firstStn)) ∧
        (e.prio ≠ 7 → (s.power.arrival - x.seq).toNat ≤ (s.power.arrival - e.seq).toNat))) ∧
  (∀ s : State, s.head? = none ↔ ∀ x ∈ s.power.list, s.passedOver x = true) ∧
  (∀ (s : State) (e : Entry), s.passedOver e = true ↔
    (∃ gang ps, e.body = .motion gang ps) ∧ e.prio < s.cfg.floor.at s.wind.stage) ∧
  (∀ (e : Entry) (gang : Bool) (p : Plan) (ps : List Plan), e.body = .motion gang (p :: ps) →
    e.stowDur = p.duration ∧ e.firstStn = p.station.val)

/-- Cuts are made only where they make the head fit the projected totals; each is of a heater that is ON with a LIVE grant, and a head that is
not a stow leaves the projected HEAT total at or above HEAT_FLOOR. -/
def Obligations.CutsMakeTheHeadFit : Prop :=
  ∀ (s : State) (e : Entry), s.cutsFor e ≠ [] →
    (∀ i ∈ s.cutsFor e, (s.chan i).state = .on ∧ (s.heatGrant i).hold = .live) ∧
    s.fits e.cls (s.increase e) (s.projected - ((s.cutsFor e).map fun i => (s.heatGrant i).amount).sum)
      (s.projClass .ordinary + s.projClass .heat - ((s.cutsFor e).map fun i => (s.heatGrant i).amount).sum) = true ∧
    (e.cls ≠ .stow →
      s.cfg.heatFloor + ((s.cutsFor e).map fun i => (s.heatGrant i).amount).sum ≤ s.projClass .heat)

/-- Deficit actions go on until the projected total is at most AVAIL or no step has an action left. -/
def Obligations.DeficitActionsRunOut : Prop :=
  ∀ s : State, (s.deficitActs deficitFuel).projected ≤ s.avail ∨
    ((s.deficitActs deficitFuel).cuttable = [] ∧ (s.deficitActs deficitFuel).sheddable .slewing = [] ∧
      (s.deficitActs deficitFuel).sheddable .pointed = [])

/-- A reply lowers a motion grant to the smaller of the amount and the phase prices, unless the grant is FROZEN, under a local reservation or
awaiting its move; a reply never raises it so, and a braked dish's grant becomes 0 with class none. An admitted grant keeps the phase
parameters and the surcharge of its plan, and is priced from them whatever the configuration holds later; that it keeps them until it ends,
for both axes, and that a grant which no admission gave is priced from the parameters as they stand, is log entry 12 (the model's reading
of R22, R37 and R66). -/
def Obligations.RepliesLowerGrants : Prop :=
  (∀ (s : State) (i : Stn) (st : CabStatus),
    ((s.lowerMotion i st).motionGrant i).amount ≤ (s.motionGrant i).amount ∧
    ((s.motionGrant i).hold = .frozen ∨ (s.motionGrant i).localRes = true ∨ (s.motionGrant i).awaiting = true →
      (s.lowerMotion i st).motionGrant i = s.motionGrant i) ∧
    (¬ ((s.motionGrant i).hold = .frozen ∨ (s.motionGrant i).localRes = true ∨ (s.motionGrant i).awaiting = true) →
      (∀ u, (s.motionGrant i).surcharge = some u →
        ((s.lowerMotion i st).motionGrant i).amount =
          min (s.motionGrant i).amount (phaseSum ((s.motionGrant i).pricedFrom s.cfg) u st.az.phase st.el.phase)) ∧
      (((s.lowerMotion i st).motionGrant i).amount ≠ 0 →
        ((s.lowerMotion i st).motionGrant i).phaseP = (s.motionGrant i).phaseP ∧
        ((s.lowerMotion i st).motionGrant i).surcharge = (s.motionGrant i).surcharge)) ∧
    (st.braked = true →
      ¬ ((s.motionGrant i).hold = .frozen ∨ (s.motionGrant i).localRes = true ∨ (s.motionGrant i).awaiting = true) →
      ((s.lowerMotion i st).motionGrant i).amount = 0 ∧ ((s.lowerMotion i st).motionGrant i).cls = none) ∧
    (∀ j, j ≠ i → (s.lowerMotion i st).motionGrant j = s.motionGrant j)) ∧
  (∀ (c : Params) (i : Stn) (k : PlanKind) (w : Option Wrap) (cap : Option Nat) (v : Stage) (a0 a1 e0 e1 : Int)
    (g : Grant) (cl : GrantClass) (q : BitVec 32) (c' : Params),
    (makePlan c i k w cap v a0 a1 e0 e1).amount ≠ 0 →
    (g.admitted cl q (makePlan c i k w cap v a0 a1 e0 e1)).pricedFrom c' = c.phaseP ∧
    (g.admitted cl q (makePlan c i k w cap v a0 a1 e0 e1)).surcharge = some (c.surcharge.at v)) ∧
  (∀ (g : Grant) (c : Params), (∀ q, g.phaseP = some q → g.pricedFrom c = q) ∧
    (g.phaseP = none → g.pricedFrom c = c.phaseP)) ∧
  (∀ (q : PhaseParams) (u : Nat) (a e : Phase),
    phaseSum q u a e = ceilDiv (q.of .az a * (100 + u)) 100 + ceilDiv (q.of .el e * (100 + u)) 100)

/-- R84: WRITE_OFF of a LOST station makes each FROZEN grant 0 and WRITTEN_OFF, leaves other grants and all else of the station as they are,
and is answered with the total written off; a fall of the total is a grant fall; of any other station it is refused with STATE, and of a
number outside 1..32 with BAD_ARG. -/
def Obligations.WriteOffFrozenGrants : Prop :=
  (∀ (s : State) (f : Frame) (i : Stn), Ready s .O f 0x18 → stationArg f.payload = some i → (s.stn i).motion = .lost →
    exec .writeOff s = .next (requestDone s .O f
      (fun o => (o.modMotionGrant i Grant.writeOff).modHeatGrant i Grant.writeOff)
      (u16 ((s.motionGrant i).writeOffAmount + (s.heatGrant i).writeOffAmount)))) ∧
  (∀ g : Grant, (g.hold = .frozen → g.writeOff.amount = 0 ∧ g.writeOff.hold = .writtenOff ∧
      g.writeOffAmount = g.amount) ∧
    (g.hold ≠ .frozen → g.writeOff = g ∧ g.writeOffAmount = 0)) ∧
  (∀ (s : State) (i : Stn),
    (∀ j, j ≠ i → ((s.modMotionGrant i Grant.writeOff).modHeatGrant i Grant.writeOff).motionGrant j = s.motionGrant j ∧
      ((s.modMotionGrant i Grant.writeOff).modHeatGrant i Grant.writeOff).heatGrant j = s.heatGrant j) ∧
    ((s.modMotionGrant i Grant.writeOff).modHeatGrant i Grant.writeOff).stns = s.stns ∧
    ((s.modMotionGrant i Grant.writeOff).modHeatGrant i Grant.writeOff).camp = s.camp ∧
    ((s.modMotionGrant i Grant.writeOff).modHeatGrant i Grant.writeOff).locks = s.locks ∧
    ((s.modMotionGrant i Grant.writeOff).modHeatGrant i Grant.writeOff).snow = s.snow ∧
    (0 < (s.motionGrant i).writeOffAmount + (s.heatGrant i).writeOffAmount →
      needsReconsider s ((s.modMotionGrant i Grant.writeOff).modHeatGrant i Grant.writeOff) = true)) ∧
  (∀ (s : State) (f : Frame) (i : Stn), Ready s .O f 0x18 → stationArg f.payload = some i → (s.stn i).motion ≠ .lost →
    exec .writeOff s = .next (requestAnswered s .O f .state [])) ∧
  (∀ (s : State) (f : Frame) (n : Byte), Ready s .O f 0x18 → f.payload = [n] → n.toNat = 0 ∨ 32 < n.toNat →
    exec .writeOff s = .next (requestAnswered s .O f .badArg []))

/-! ### Wind -/

/-- R90 to R92: an enabled mast's mean is the floor of the mean of its samples within MEAN_SPAN and its gust the largest within GUST_SPAN,
absent without a sample; it is live while its newest sample is at most MAST_SILENCE old; the site figures are the largest of the live
masts. R95, R97, R98, outside the start-up hold: an evaluation with too few live masts leaves the stage STOW with cause FEED, the feed
short and no dwell; with enough, the stage rises at once to the highest stage reached, and otherwise falls by one at the expiry of a
running dwell if its condition holds, with cause WIND either way, and else stays, with the dwell started, kept or stopped by its condition.
R96: in the hold, too few live masts change neither stage, cause nor hold, and enough end it at the stage reached, with cause WIND.
R94: a dwell expiry that has come still causes its evaluation after another of the same time, even one that stops the dwell; the field `lapsed`
that holds it is the model's own (log entry 46). -/
def Obligations.StageFollowsFeedAndWind : Prop :=
  (∀ (w : Wind) (c : Params) (now : Nat) (e : Bool), w.hold = false →
    ((w.figures c now).liveMasts.length < c.required →
      (w.evaluate c now e).stage = .stow ∧ (w.evaluate c now e).cause = .feed ∧ (w.evaluate c now e).dwell = none ∧
        (w.evaluate c now e).short = true) ∧
    (c.required ≤ (w.figures c now).liveMasts.length →
      (w.evaluate c now e).short = false ∧
      (w.stage.rank < ((w.figures c now).reached c).rank →
        (w.evaluate c now e).stage = (w.figures c now).reached c ∧ (w.evaluate c now e).cause = .wind) ∧
      (((w.figures c now).reached c).rank ≤ w.stage.rank →
        (e = true → w.dwellDue now = true → (w.figures c now).falls c = true →
          (w.evaluate c now e).stage = w.stage.below ∧ (w.evaluate c now e).cause = .wind) ∧
        (¬ (e = true ∧ w.dwellDue now = true ∧ (w.figures c now).falls c = true) →
          (w.evaluate c now e).stage = w.stage ∧ (w.evaluate c now e).cause = w.cause ∧
          ((w.figures c now).falls c = false → (w.evaluate c now e).dwell = none) ∧
          ((w.figures c now).falls c = true → ∀ d, w.dwell = some d → (w.evaluate c now e).dwell = some d) ∧
          (∀ u, w.stage.up? = some u → (w.figures c now).falls c = true → w.dwell = none →
            (w.evaluate c now e).dwell = some { start := now, expiry := now + 1000 * c.dwell.at u })))) ∧
    ((w.evaluate c now e).stage.rank < w.stage.rank →
      e = true ∧ w.dwellDue now = true ∧ (w.evaluate c now e).stage = w.stage.below ∧
        (w.evaluate c now e).cause = .wind) ∧
    (w.stage.rank < (w.evaluate c now e).stage.rank → (w.evaluate c now e).short = false →
      (w.evaluate c now e).stage = (w.figures c now).reached c)) ∧
  (∀ (w : Wind) (c : Params) (now : Nat) (e : Bool), w.hold = true →
    ((w.figures c now).liveMasts.length < c.required →
      (w.evaluate c now e).hold = true ∧ (w.evaluate c now e).stage = w.stage ∧ (w.evaluate c now e).cause = w.cause ∧
        (w.evaluate c now e).short = true) ∧
    (c.required ≤ (w.figures c now).liveMasts.length → w.dwell = none →
      (w.evaluate c now e).hold = false ∧ (w.evaluate c now e).stage = (w.figures c now).reached c ∧
        (w.evaluate c now e).cause = .wind ∧ (w.evaluate c now e).short = false)) ∧
  (∀ (w : Wind) (c : Params) (now : Nat) (e : Bool),
    ((w.evaluate c now e).lapsed = true ↔
      e = false ∧ (w.lapsed = true ∨ (w.dwellDue now = true ∧ (w.evaluate c now e).dwellDue now = false))) ∧
    (w.dwellEvent now = true → (w.evaluate c now false).dwellEvent now = true)) ∧
  (∀ (w : Wind) (c : Params) (now : Nat) (i : MastNo),
    (c.mastOn i = false → ((w.figures c now).masts.get i).live = false) ∧
    (c.mastOn i = true →
      (((w.figures c now).masts.get i).live = true ↔
        ∃ x, (w.masts.get i).ring.getLast? = some x ∧ ageOf now x.time ≤ 1000 * c.mastSilence) ∧
      (∀ l : List Sample, l = (w.masts.get i).ring.filter (fun x => decide (ageOf now x.time ≤ 1000 * c.meanSpan)) →
        ((w.figures c now).masts.get i).mean = if l = [] then none else some ((l.map (·.value)).sum / l.length)) ∧
      (∀ m, ((w.figures c now).masts.get i).gust = some m ↔
        (∃ x ∈ (w.masts.get i).ring, ageOf now x.time ≤ 1000 * c.gustSpan ∧ x.value = m) ∧
        ∀ x ∈ (w.masts.get i).ring, ageOf now x.time ≤ 1000 * c.gustSpan → x.value ≤ m))) ∧
  (∀ (w : Wind) (c : Params) (now m : Nat),
    ((w.figures c now).siteMean = some m ↔
      (∃ x ∈ (w.figures c now).liveMasts, x.mean = some m) ∧
      ∀ x ∈ (w.figures c now).liveMasts, ∀ n, x.mean = some n → n ≤ m) ∧
    ((w.figures c now).siteGust = some m ↔
      (∃ x ∈ (w.figures c now).liveMasts, x.gust = some m) ∧
      ∀ x ∈ (w.figures c now).liveMasts, ∀ n, x.gust = some n → n ≤ m))

/-! ### Stow campaigns -/

/-- The campaign state is judged by the roster: ACTIVE with every entry final goes to HOLDING or CALM by the stage and the causes, HOLDING with
an entry not final to ACTIVE, and ENDING with every entry released to NONE with an empty roster. -/
def Obligations.CampaignFollowsItsRoster : Prop :=
  ∀ s : State,
    (s.camp.state = .active → s.camp.allFinal = true →
      s.judgeCampaign.camp.state = (if s.wind.stage = .stow ∨ s.camp.operatorHeld = true then .holding else .calm)) ∧
    (s.camp.state = .active → s.camp.allFinal = false → s.judgeCampaign = s) ∧
    (s.camp.state = .holding → s.camp.allFinal = false → s.judgeCampaign.camp.state = .active) ∧
    (s.camp.state = .ending → (∀ e ∈ s.camp.roster, e.status.isReleased = true) →
      s.judgeCampaign.camp.state = .none ∧ s.judgeCampaign.camp.roster = [] ∧ s.judgeCampaign.camp.cause = none ∧
        s.judgeCampaign.camp.also = [] ∧ s.judgeCampaign.camp.deadline = none) ∧
    (s.camp.state = .calm ∨ s.camp.state = .none → s.judgeCampaign = s)

/-- STOW_ALL is taken in every campaign state; from NONE it is a start with cause OPERATOR, which sets the start time and the deadline and
clears the LATE mark. -/
def Obligations.StowAllStartsACampaign : Prop :=
  (∀ (s : State) (f : Frame), Ready s .O f 0x12 → f.payload = [] →
    exec .stowAll s = .next (requestDone s .O f State.stowAll
      (u16 ((s.openRequest .O f).stowAll.stowOwned - (s.openRequest .O f).stowOwned)))) ∧
  (∀ s : State, s.camp.state = .none → s.camp.cause = none → s.camp.roster = [] →
    s.stowAll.camp.state = .active ∧ s.stowAll.camp.cause = some .operator ∧ s.stowAll.camp.start = some s.clock ∧
      s.stowAll.camp.deadline = some (s.clock + 1000 * s.cfg.stowDeadline) ∧ s.stowAll.camp.late = false)

/-- UNSTOW is accepted in CALM, in an operator-held HOLDING below STOW, and in NONE with an enabled station STOWED; it then begins ENDING. In
ACTIVE, ENDING and HOLDING otherwise it is refused with STATE. -/
def Obligations.UnstowByCampaignState : Prop :=
  (∀ (s : State) (f : Frame), Ready s .O f 0x13 → f.payload = [] → s.unstowAccepted = true →
    exec .unstow s = .next (requestDone s .O f State.beginEnding
      (unstowCounts (s.openRequest .O f).beginEnding.camp)) ∧
    s.beginEnding.camp.state = .ending ∧ s.beginEnding.camp.deadline = none) ∧
  (∀ (s : State) (f : Frame), Ready s .O f 0x13 → f.payload = [] → s.unstowAccepted = false → s.camp.state ≠ .none →
    exec .unstow s = .next (requestAnswered s .O f .state [])) ∧
  (∀ s : State, s.camp.state = .active ∨ s.camp.state = .ending → s.unstowAccepted = false) ∧
  (∀ s : State, s.camp.state = .calm → s.unstowAccepted = true) ∧
  (∀ s : State, s.camp.state = .none →
    (s.unstowAccepted = true ↔ ∃ i : Stn, (s.stn i).enabled = true ∧ (s.stn i).motion = .stowed)) ∧
  (∀ s : State, s.camp.state = .holding →
    (s.unstowAccepted = true ↔ s.camp.operatorHeld = true ∧ s.wind.stage ≠ .stow))

/-- A stow ends with its station STOWED, no owner and one more stow completed, the roster entry STOWED or STOWED_NO_PIN by the no-pin mark, and
no outcome counted. -/
def Obligations.CompletedStowIsStowed : Prop :=
  ∀ (s : State) (i : Stn) (noPin : Bool), (s.stn i).motion = .stowing →
    ((s.completeStow i noPin).stn i).motion = .stowed ∧ ((s.completeStow i noPin).stn i).owner = none ∧
    ((s.completeStow i noPin).stats.stn.get i) =
      { s.stats.stn.get i with stows := bump (s.stats.stn.get i).stows } ∧
    (∀ e, (s.completeStow i noPin).entry? i = some e →
      e.status = (if noPin then .stowedNoPin else .stowed) ∧ e.noPin = false) ∧
    (s.completeStow i noPin).cab i = s.cab i

/-! ### Snow -/

/-- A duty lies between 0 and 100 and within DUTY_MIN and DUTY_MAX, DUTY_MIN prevailing; its ON length A is the least whole second that covers
it. A cycle start holds A and B = HEAT_PERIOD less A in the channel, and leaves it WAIT, or with A of 0 in OFF_PHASE for HEAT_PERIOD. -/
def Obligations.DutyStaysInItsLimits : Prop :=
  (∀ (c : Params) (raw : Int), c.dutyMin ≤ 100 → c.dutyMax ≤ 100 →
    duty c raw ≤ 100 ∧ c.dutyMin ≤ duty c raw ∧ (c.dutyMin ≤ c.dutyMax → duty c raw ≤ c.dutyMax) ∧
    (c.dutyMin ≤ raw → raw ≤ c.dutyMax → (duty c raw : Int) = raw) ∧
    onLength c (duty c raw) ≤ c.heatPeriod ∧ c.heatPeriod * duty c raw ≤ 100 * onLength c (duty c raw) ∧
    100 * onLength c (duty c raw) < c.heatPeriod * duty c raw + 100) ∧
  (∀ (s : State) (i : Stn) (stowed : Bool), s.cfg.dutyMin ≤ 100 → s.cfg.dutyMax ≤ 100 →
    ∃ a b, ((s.startCycleAs i stowed).chan i).onLen = some a ∧ ((s.startCycleAs i stowed).chan i).offLen = some b ∧
      a = onLength s.cfg (s.cycleDuty i stowed) ∧ a + b = s.cfg.heatPeriod ∧
      (0 < a → ((s.startCycleAs i stowed).chan i).state = .wait ∧ ((s.startCycleAs i stowed).chan i).timer = none ∧
        (s.startCycleAs i stowed).power.list = s.power.list ++
          [{ body := .heater i, cls := .heat, prio := s.cfg.heatPriority, seq := s.power.arrival }]) ∧
      (a = 0 → ((s.startCycleAs i stowed).chan i).state = .offPhase ∧
        ((s.startCycleAs i stowed).chan i).timer = some (s.clock + 1000 * s.cfg.heatPeriod) ∧
        (s.startCycleAs i stowed).power = s.power))

/-- SNOW_ON and SNOW_OFF are taken in every state and set mode and source; the mode turning OFF leaves no channel in a phase of its cycle.
The precipitation class byte of their replies is log entry 20: the model's choice. -/
def Obligations.SnowRequestsSetTheMode : Prop :=
  (∀ (s : State) (f : Frame), Ready s .O f 0x14 → f.payload = [] →
    exec .snowOn s = .next (requestDone s .O f (fun o => o.snowTurnOn .command)
      (snowData ((s.openRequest .O f).snowTurnOn .command).snow))) ∧
  (∀ (s : State) (f : Frame), Ready s .O f 0x15 → f.payload = [] →
    exec .snowOff s = .next (requestDone s .O f State.snowTurnOff (snowData (s.openRequest .O f).snowTurnOff.snow))) ∧
  (∀ s : State, (s.snowTurnOn .command).snow.mode = .on ∧ (s.snowTurnOn .command).snow.source = some .command) ∧
  (∀ s : State, s.snowTurnOff.snow.mode = .off) ∧
  (∀ s : State, s.snow.mode = .on → s.snowTurnOff.snow.source = none ∧
    ∀ i : Stn, (s.snowTurnOff.chan i).state ≠ .offPhase ∧ (s.snowTurnOff.chan i).state ≠ .wait ∧
      (s.snowTurnOff.chan i).state ≠ .starting ∧ (s.snowTurnOff.chan i).state ≠ .on)

/-- A bar that comes into force leaves the channel BARRED or STOPPING, with its timer stopped. R134: in STOPPING, an open contactor judged after
the accepted HEAT_OFF confirms the stop: the grant becomes 0 and the channel goes to BARRED, IDLE, OFF_PHASE or a fresh cycle by the first
line that fits; any other reply leaves channel and grant, and a rejected HEAT_OFF is placed again in an empty slot. -/
def Obligations.BarStopsTheChannel : Prop :=
  (∀ (s : State) (i : Stn), s.barred i = true → (s.chan i).state ≠ .stopping → (s.chan i).state ≠ .barred →
    (((s.judgeBar i).chan i).state = .barred ∨ ((s.judgeBar i).chan i).state = .stopping) ∧
    ((s.judgeBar i).chan i).timer = none ∧
    ((s.chan i).state = .on ∨ (s.chan i).state = .starting →
      ((s.judgeBar i).cab i).heat = some .heatOff ∧ ((s.judgeBar i).chan i).after = some .newCycle ∧
        ((s.judgeBar i).heatGrant i) = s.heatGrant i)) ∧
  (∀ (s : State) (i : Stn) (closed taken : Bool) (a : Answer) (stowed : Bool), (s.chan i).state = .stopping →
    (taken = true → closed = false →
      ((s.heatReply i closed taken a stowed).heatGrant i).amount = 0 ∧
      (s.barred i = true → ((s.heatReply i closed taken a stowed).chan i).state = .barred) ∧
      (s.barred i = false → s.snow.mode = .off → ((s.heatReply i closed taken a stowed).chan i).state = .idle) ∧
      (s.barred i = false → s.snow.mode = .on → (s.chan i).after = some .offPhase → ∀ n, (s.chan i).offLen = some n →
        (n ≠ 0 → ((s.heatReply i closed taken a stowed).chan i).state = .offPhase ∧
          ((s.heatReply i closed taken a stowed).chan i).timer = some (s.clock + 1000 * n)) ∧
        (n = 0 → s.heatReply i closed taken a stowed = (s.endHeatGrant i).startCycleAs i stowed)) ∧
      (s.barred i = false → s.snow.mode = .on → (s.chan i).after = some .newCycle →
        s.heatReply i closed taken a stowed = (s.endHeatGrant i).startCycleAs i stowed)) ∧
    (taken = false ∨ closed = true →
      (s.heatReply i closed taken a stowed).snow = s.snow ∧ (s.heatReply i closed taken a stowed).power = s.power ∧
      (a.rejects (.heat .heatOff) = false → s.heatReply i closed taken a stowed = s) ∧
      (a.rejects (.heat .heatOff) = true →
        ((s.heatReply i closed taken a stowed).cab i).heat =
          if (s.cab i).heat = none then some .heatOff else (s.cab i).heat)))

/-! ### Lockouts -/

/-- What a lockout that takes effect does, by the motion state of its station: a waiting motion returns to its rest posture; a motion under
way is stopped, and a stow leaves no PIN_IN unsent and its entry INTERRUPTED(LOCKOUT); a POINTED dish is braked; an unpinning is given
up; in any other state nothing changes. -/
def Obligations.LockoutActsByMotionState : Prop :=
  ∀ (s : State) (i : Stn),
    (∀ w, (s.stn i).motion = .admitting → (s.stn i).owner = some w →
      ((s.lockTakesEffect i).stn i).motion = ((s.stn i).posture.getD .held).motion ∧
      ((s.lockTakesEffect i).stn i).owner = none) ∧
    ((s.stn i).motion = .slewing ∨ (s.stn i).motion = .stowing →
      ((s.lockTakesEffect i).stn i).motion = .stopping ∧ ((s.lockTakesEffect i).stn i).owner = none ∧
      ((s.lockTakesEffect i).cab i).motion = some .stop) ∧
    ((s.stn i).motion = .stowing → (s.stn i).owner = some .stow →
      ((s.lockTakesEffect i).cab i).pin ≠ some .pinIn ∧
      ∀ e, (s.lockTakesEffect i).entry? i = some e →
        e.status = .interrupted .lockout ∧ e.outcome = some .lockout) ∧
    ((s.stn i).motion = .pointed →
      ((s.lockTakesEffect i).stn i).motion = .stopping ∧ ((s.lockTakesEffect i).cab i).motion = some .brake) ∧
    ((s.stn i).motion = .stowed → s.rosterStatus? i = some .unpinning →
      ((s.lockTakesEffect i).stn i).motion = .stowed ∧ ((s.lockTakesEffect i).cab i).pin ≠ some .pinOut ∧
      (s.lockTakesEffect i).rosterStatus? i =
        some (if s.camp.state = .ending then .locked else .excluded .lockout)) ∧
    ((s.stn i).motion ≠ .admitting → (s.stn i).motion ≠ .slewing → (s.stn i).motion ≠ .stowing →
      (s.stn i).motion ≠ .pointed → ¬ ((s.stn i).motion = .stowed ∧ s.rosterStatus? i = some .unpinning) →
      s.lockTakesEffect i = s)

/-- CONSOLE_LOCK puts a PENDING entry in an empty slot of an enabled station, and is otherwise refused with STATE; CONSOLE_UNLOCK takes out
the entry of the named holder, and is refused with STATE for another holder and with NO_SUCH for an empty slot. Either is refused with
BAD_ARG for another length, a station outside 1..32, a slot other than C1 and C2 (sent as 0 and 1), a holder outside 1..9999, or a kind
other than MOTION and FULL. -/
def Obligations.ConsoleLocksJoinAndLeave : Prop :=
  (∀ (s : State) (f : Frame) (i : Stn) (k : Fin 6) (h : Nat) (q : LockKind), Ready s .O f 0x16 →
    consoleLockArgs f.payload = some (i, k, h, q) → (s.lock i).slots.get k = none → s.isDisabled i = false →
    exec .consoleLock s = .next (requestDone s .O f (fun o => (o.joinSlot i k h q).judgeLockBar i) []) ∧
    ((s.joinSlot i k h q).lock i).slots.get k =
      some { holder := h, kind := q, state := .pending, taken := s.clock }) ∧
  (∀ (s : State) (f : Frame) (i : Stn) (k : Fin 6) (h : Nat) (q : LockKind), Ready s .O f 0x16 →
    consoleLockArgs f.payload = some (i, k, h, q) → ((s.lock i).slots.get k).isSome = true ∨ s.isDisabled i = true →
    exec .consoleLock s = .next (requestAnswered s .O f .state [])) ∧
  (∀ (s : State) (f : Frame) (i : Stn) (k : Fin 6) (h : Nat) (e : LockEntry), Ready s .O f 0x17 →
    consoleUnlockArgs f.payload = some (i, k, h) → (s.lock i).slots.get k = some e →
    exec .consoleUnlock s =
      .next (if e.holder = h then requestDone s .O f (fun o => (o.emptySlot i k).judgeLockBar i) []
        else requestAnswered s .O f .state [])) ∧
  (∀ (s : State) (f : Frame) (i : Stn) (k : Fin 6) (h : Nat), Ready s .O f 0x17 →
    consoleUnlockArgs f.payload = some (i, k, h) → (s.lock i).slots.get k = none →
    exec .consoleUnlock s = .next (requestAnswered s .O f .noSuch [])) ∧
  (∀ (s : State) (i : Stn) (k : Fin 6), ((s.emptySlot i k).lock i).slots.get k = none) ∧
  (∀ (s : State) (f : Frame), Ready s .O f 0x16 →
    (f.payload.length ≠ 5 ∨ ∃ n c a b q, f.payload = [n, c, a, b, q] ∧
      (n.toNat = 0 ∨ 32 < n.toNat ∨ 1 < c.toNat ∨ rd16 a b = 0 ∨ 9999 < rd16 a b ∨ 1 < q.toNat)) →
    exec .consoleLock s = .next (requestAnswered s .O f .badArg [])) ∧
  (∀ (s : State) (f : Frame), Ready s .O f 0x17 →
    (f.payload.length ≠ 4 ∨ ∃ n c a b, f.payload = [n, c, a, b] ∧
      (n.toNat = 0 ∨ 32 < n.toNat ∨ 1 < c.toNat ∨ rd16 a b = 0 ∨ 9999 < rd16 a b)) →
    exec .consoleUnlock s = .next (requestAnswered s .O f .badArg []))

/-- A good KEYS reply leaves K1..K4 as it shows them, keeping the entry of an unchanged key and joining an entry for any other, PENDING and taken
at the reply's time; C1 and C2 stay. -/
def Obligations.KeysReplaceThePanelSlots : Prop :=
  ∀ (s : State) (i : Stn) (a b c d : Option (Nat × LockKind)) (k : Fin 4),
    let t := ([(0, a), (1, b), (2, c), (3, d)] : List (Fin 6 × Option (Nat × LockKind))).foldl (State.compareSlot i) s
    ((t.lock i).slots.get (k.castLE (by omega))).map (fun e => (e.holder, e.kind)) = [a, b, c, d][k]! ∧
    (∀ e, (s.lock i).slots.get (k.castLE (by omega)) = some e → [a, b, c, d][k]! = some (e.holder, e.kind) →
      (t.lock i).slots.get (k.castLE (by omega)) = some e) ∧
    (∀ h q, [a, b, c, d][k]! = some (h, q) →
      (∀ e, (s.lock i).slots.get (k.castLE (by omega)) = some e → ¬ (e.holder = h ∧ e.kind = q)) →
      (t.lock i).slots.get (k.castLE (by omega)) =
        some { holder := h, kind := q, state := .pending, taken := s.clock }) ∧
    (t.lock i).slots.get 4 = (s.lock i).slots.get 4 ∧ (t.lock i).slots.get 5 = (s.lock i).slots.get 5 ∧
    (∀ j, j ≠ i → t.lock j = s.lock j)

/-! ### The drive bus -/

/-- A visit sends the first of STOP, HEAT_OFF, BRAKE, MOVE, the pin command and HEAT_ON that stands in its slot and is not passed over, and else
POLL; it sends no MOVE or pin command unless the lockout status is FREE, no MOVE unless the latest status showed every axis BRAKED or
HOLDING, and nothing but POLL to an UNKNOWN or LOST station. What goes leaves its slot and is the outstanding command, with its return mark
set, and the reply is timed from now by REPLY_TIMEOUT. -/
def Obligations.VisitSendsByTheOrder : Prop :=
  ∀ (s : State) (i : Stn), ∃ o, ((s.beginVisit i).cab i).outstanding = some o ∧ o.mark = true ∧
    (∀ m, o.cmd = .motion (.move m) → s.isFree i = true ∧ (s.cab i).atRest = true) ∧
    (∀ c, o.cmd = .pin c → s.isFree i = true) ∧
    (s.pollOnly i = true → o.cmd = .poll) ∧
    (s.pollOnly i = false →
      ((s.cab i).motion = some .stop → o.cmd = .motion .stop) ∧
      ((s.cab i).motion ≠ some .stop → (s.cab i).heat = some .heatOff → o.cmd = .heat .heatOff) ∧
      ((s.cab i).motion = some .brake → (s.cab i).heat ≠ some .heatOff → o.cmd = .motion .brake) ∧
      (∀ m, (s.cab i).motion = some (.move m) → (s.cab i).heat ≠ some .heatOff → s.isFree i = true →
        (s.cab i).atRest = true → o.cmd = .motion (.move m)) ∧
      ((s.cab i).motion ≠ some .stop → (s.cab i).motion ≠ some .brake → (s.cab i).heat ≠ some .heatOff →
        ((s.cab i).motion = none ∨ s.isFree i = false ∨ (s.cab i).atRest = false) →
        (∀ c, (s.cab i).pin = some c → s.isFree i = true → o.cmd = .pin c) ∧
        ((s.cab i).pin = none ∨ s.isFree i = false →
          o.cmd = if (s.cab i).heat = some .heatOn then .heat .heatOn else .poll))) ∧
    ((s.beginVisit i).cab i).motion = (if o.cmd.isMotion then none else (s.cab i).motion) ∧
    ((s.beginVisit i).cab i).pin = (if o.cmd.isPin then none else (s.cab i).pin) ∧
    ((s.beginVisit i).cab i).heat = (if o.cmd.isHeat then none else (s.cab i).heat) ∧
    (s.beginVisit i).bus.visit =
      some { station := i, start := s.clock, timeout := s.cfg.replyTimeout, void := false } ∧
    (∀ j, j ≠ i → (s.beginVisit i).cab j = s.cab j) ∧ ∀ j, (s.beginVisit i).stn j = s.stn j

/-- A good reply in time is taken, what follows is settled, and the visit ends and the next begins; a reply for a disabled station is not
taken. A reply that is taken clears the miss count and the outstanding command, becomes the last status, and is what the station's record
then shows; no other station's records change. -/
def Obligations.StatusReplyIsTaken : Prop :=
  (∀ (b : List Byte) (s : State) (v : BusVisit) (st : CabStatus) (a : Answer), s.bus.visit = some v →
    s.goodStatus v b = some (st, a) → s.visitVoid v = false →
    exec (.statusReply b) s = .next ((settle false s (s.takeReply v.station st a)).endVisit v)) ∧
  (∀ (b : List Byte) (s : State) (v : BusVisit) (st : CabStatus) (a : Answer), s.bus.visit = some v →
    s.goodStatus v b = some (st, a) → s.visitVoid v = true →
    exec (.statusReply b) s = .next ((s.dropOutstanding v.station).endVisit v)) ∧
  (∀ (s : State) (i : Stn) (st : CabStatus) (a : Answer),
    ((s.takeReply i st a).cab i).misses = 0 ∧ ((s.takeReply i st a).cab i).outstanding = none ∧
    ((s.takeReply i st a).cab i).last = some { status := st, time := s.clock } ∧
    ((s.takeReply i st a).stn i).az.pos = some st.az.pos ∧ ((s.takeReply i st a).stn i).az.phase = some st.az.phase ∧
    ((s.takeReply i st a).stn i).el.pos = some st.el.pos ∧ ((s.takeReply i st a).stn i).el.phase = some st.el.phase ∧
    ((s.takeReply i st a).stn i).az.fault = some st.az.fault ∧ ((s.takeReply i st a).stn i).el.fault = some st.el.fault ∧
    ((s.takeReply i st a).stn i).pin = some st.pin ∧ ((s.takeReply i st a).stn i).switch = some st.switch ∧
    ((s.takeReply i st a).stn i).temp = st.temp ∧
    ∀ j, j ≠ i → (s.takeReply i st a).stn j = s.stn j ∧ (s.takeReply i st a).cab j = s.cab j)

/-- A reply that is not good, and the timeout, are each a miss: it counts, the outstanding command, of motion, pin or heater, returns to its
slot if that is empty and nothing has overtaken it, and the visit ends. The miss that brings the count to MISS_LIMIT makes the station LOST,
with empty slots, no owner and one more loss; a LOST or DISABLED station's record stays. At the visit of a station that has been disabled
nothing counts or returns. -/
def Obligations.MissesCountAndReturn : Prop :=
  (∀ (b : List Byte) (s : State) (v : BusVisit), s.bus.visit = some v → s.goodStatus v b = none →
    s.visitVoid v = false →
    exec (.badReply b) s = .next ((settle false s (s.miss v.station)).endVisit v)) ∧
  (∀ (s : State) (v : BusVisit), s.bus.visit = some v → v.start + v.timeout ≤ s.clock → s.visitVoid v = false →
    exec .replyTimeoutExpiry s = .next ((settle false s (s.miss v.station)).endVisit v)) ∧
  (∀ (k : Cabinet) (c : MotionCmd) (m : Bool), k.outstanding = some { cmd := .motion c, mark := m } →
    k.restore.outstanding = none ∧
    (m = true → k.motion = none → k.restore.motion = some c) ∧
    (m = false ∨ k.motion ≠ none → k.restore.motion = k.motion)) ∧
  (∀ (s : State) (i : Stn), (s.cab i).misses + 1 < s.cfg.missLimit →
    ((s.miss i).stn i).motion = (s.stn i).motion ∧ ((s.miss i).cab i).misses = min 15 ((s.cab i).misses + 1) ∧
      ((s.miss i).stats.stn.get i).misses = bump (s.stats.stn.get i).misses) ∧
  (∀ (k : Cabinet) (c : PinCmd) (m : Bool), k.outstanding = some { cmd := .pin c, mark := m } →
    k.restore.outstanding = none ∧
    (m = true → k.pin = none → k.restore.pin = some c) ∧
    (m = false ∨ k.pin ≠ none → k.restore.pin = k.pin) ∧ k.restore.motion = k.motion ∧ k.restore.heat = k.heat) ∧
  (∀ (k : Cabinet) (c : HeatCmd) (m : Bool), k.outstanding = some { cmd := .heat c, mark := m } →
    k.restore.outstanding = none ∧
    (m = true → k.heat = none → k.restore.heat = some c) ∧
    (m = false ∨ k.heat ≠ none → k.restore.heat = k.heat) ∧ k.restore.motion = k.motion ∧ k.restore.pin = k.pin) ∧
  (∀ (s : State) (i : Stn), s.cfg.missLimit ≤ min 15 ((s.cab i).misses + 1) → (s.stn i).motion ≠ .lost →
    (s.stn i).motion ≠ .disabled →
    ((s.miss i).stn i).motion = .lost ∧ ((s.miss i).stn i).owner = none ∧
    ((s.miss i).cab i).motion = none ∧ ((s.miss i).cab i).pin = none ∧ ((s.miss i).cab i).heat = none ∧
    ((s.miss i).cab i).outstanding = none ∧ ((s.miss i).cab i).misses = min 15 ((s.cab i).misses + 1) ∧
    ((s.miss i).stats.stn.get i).losses = bump (s.stats.stn.get i).losses ∧
    ((s.miss i).stats.stn.get i).misses = bump (s.stats.stn.get i).misses) ∧
  (∀ (s : State) (i : Stn), (s.stn i).motion = .lost ∨ (s.stn i).motion = .disabled → (s.miss i).stns = s.stns) ∧
  (∀ (b : List Byte) (s : State) (v : BusVisit), s.bus.visit = some v → s.goodStatus v b = none →
    s.visitVoid v = true → exec (.badReply b) s = .next ((s.dropOutstanding v.station).endVisit v)) ∧
  (∀ (s : State) (v : BusVisit), s.bus.visit = some v → v.start + v.timeout ≤ s.clock → s.visitVoid v = true →
    exec .replyTimeoutExpiry s = .next ((s.dropOutstanding v.station).endVisit v))

/-- A station that becomes LOST has no owner, empty slots, frozen grants of the amounts they held and a BARRED channel. -/
def Obligations.LossFreezesTheStation : Prop :=
  ∀ (s : State) (i : Stn), (s.stn i).motion ≠ .lost →
    ((s.lose i).stn i).motion = .lost ∧ ((s.lose i).stn i).owner = none ∧
    ((s.lose i).cab i).motion = none ∧ ((s.lose i).cab i).pin = none ∧ ((s.lose i).cab i).heat = none ∧
    ((s.lose i).cab i).last = (s.cab i).last ∧
    ((s.lose i).motionGrant i).amount = (s.motionGrant i).amount ∧ ((s.lose i).motionGrant i).hold = .frozen ∧
    ((s.lose i).heatGrant i).amount = (s.heatGrant i).amount ∧ ((s.lose i).heatGrant i).hold = .frozen ∧
    ((s.lose i).chan i).state = .barred ∧ ((s.lose i).lock i).slots = (s.lock i).slots

/-- The first good reply after UNKNOWN or LOST is resolved by the first line that it matches. -/
def Obligations.FirstReplyIsResolved : Prop :=
  ∀ (s : State) (i : Stn) (st : CabStatus), (s.stn i).motion = .unknown ∨ (s.stn i).motion = .lost →
    ((s.resolveFirst i st).stn i).motion =
      (if st.switch = .localDrive then .manual
      else if st.az.fault ≠ 0 ∨ st.el.fault ≠ 0 then .fault
      else if st.az.phase = .braked ∧ st.el.phase = .braked then
        if st.pin = .pinIn ∧ 89900 ≤ st.el.pos ∧ st.el.pos ≤ 90100 then .stowed else .held
      else .stopping) ∧
    (((s.resolveFirst i st).stn i).motion = .stopping → ((s.resolveFirst i st).cab i).motion = some .stop) ∧
    (((s.resolveFirst i st).stn i).motion ≠ .stopping → (s.resolveFirst i st).bus = s.bus)

/-! ### Enable, disable, configuration, statistics -/

/-- ENABLE and DISABLE: the named disabled stations become enabled and UNKNOWN, with cabinets in cycle; a DISABLE is taken whole, or refused
whole with the stations that failed; a disabled station has no cabinet figures, its cabinet out of cycle, its panel UNKNOWN, its channel
BARRED and no roster entry (BARRED at once also where HEATER_P is 0 and the heater may be on: log entry 38, the model's choice). -/
def Obligations.EnableAndDisableComplete : Prop :=
  (∀ (s : State) (f : Frame) (i : Stn) (l : List Stn), Ready s .O f 0x19 → setArg f.payload = some (i :: l) →
    exec .enable s = .next (requestDone s .O f
      (fun o => (((i :: l).filter fun j => !(o.stn j).enabled).foldl State.enableStation o).wakeLines) [])) ∧
  (∀ (s : State) (i : Stn), (s.stn i).motion = .disabled →
    ((s.enableStation i).stn i).motion = .unknown ∧ ((s.enableStation i).stn i).enabled = true ∧
      ((s.enableStation i).cab i).inCycle = true ∧ ((s.enableStation i).cab i).misses = 0) ∧
  (∀ (s : State) (f : Frame) (i : Stn) (l : List Stn), Ready s .O f 0x1A → setArg f.payload = some (i :: l) →
    (∀ j ∈ i :: l, (s.stn j).enabled = true → s.mayDisable j = true) →
    exec .disable s = .next (requestDone s .O f
      (fun o => ((i :: l).filter fun j => (o.stn j).enabled).foldl State.disableStation o) [])) ∧
  (∀ (s : State) (f : Frame) (i : Stn) (l : List Stn), Ready s .O f 0x1A → setArg f.payload = some (i :: l) →
    ¬ (∀ j ∈ i :: l, (s.stn j).enabled = true → s.mayDisable j = true) →
    exec .disable s = .next (requestAnswered s .O f .state
      (encSet (((i :: l).filter fun j => (s.stn j).enabled).filter fun j => !s.mayDisable j)))) ∧
  (∀ (s : State) (i : Stn),
    ((s.disableStation i).stn i).motion = .disabled ∧ ((s.disableStation i).stn i).enabled = false ∧
    ((s.disableStation i).stn i).az = AxisRec.absent ∧ ((s.disableStation i).stn i).el = AxisRec.absent ∧
    ((s.disableStation i).cab i).inCycle = false ∧ ((s.disableStation i).lock i).known = false ∧
    ((s.disableStation i).lock i).status = .unknown ∧ ((s.disableStation i).chan i).state = .barred ∧
    (s.disableStation i).entry? i = none ∧ ∀ j, j ≠ i → (s.disableStation i).stn j = s.stn j)

/-- SET of a parameter writes the value taken and applies it, carrying parameter, index, the value taken and any dependent value that it
lowers: in the configuration that SET leaves, the parameter reads the value taken, the dependent parameter its lowered value, and every other
as before; axis limits are refused with STATE while a station is busy, and a MAST_ENABLE that names no mast, read-only items, unknown names and
malformed requests with BAD_ARG. GET answers the value held, of a parameter or of a read-only item of the snow record, and BAD_ARG for an
unknown name. The layout of the data is log entry 20: the model's choice. -/
def Obligations.SetAndGetParameters : Prop :=
  (∀ (s : State) (f : Frame) (num idx : Nat) (v : Int) (p : Param), Ready s .O f 0x1B →
    setParamArgs f.payload = some (num, idx, v) → itemOf num idx = some (.param p) →
    p.isLimit = false ∨ s.anyBusy = false → p ≠ .mastEnable ∨ s.cfg.taken p v ≠ 0 →
    ∃ r : Result, r = (s.openRequest .O f).setTaken num idx p (s.cfg.taken p v) ∧
      exec .setParam s =
        .next ((settle p.reconsiders (s.openRequest .O f) r.state).answer .O f.kind .done r.data) ∧
      r.data = u16 num ++ u8 idx ++ i32 (s.cfg.taken p v) ++
        (match s.cfg.lowered p (s.cfg.taken p v) with
          | some (_, low) => i32 low
          | none => []) ∧
      r.state.cfg = s.cfg.assign p (s.cfg.taken p v) ∧
      (∃ t, exec .setParam s = .next t ∧ t.cfg = s.cfg.assign p (s.cfg.taken p v) ∧
        (ParamRule s → t.cfg.get p = s.cfg.taken p v ∧
          ∀ q low, s.cfg.lowered p (s.cfg.taken p v) = some (q, low) → t.cfg.get q = low) ∧
        ∀ q, q ≠ p → (∀ low, s.cfg.lowered p (s.cfg.taken p v) ≠ some (q, low)) → t.cfg.get q = s.cfg.get q)) ∧
  (∀ (c : Params) (p : Param) (t : Int),
    (∀ q low, c.lowered p t = some (q, low) ↔
      low = t - 1 ∧ low < c.get q ∧
        ((p = .pauseAt ∧ q = .goAt) ∨ (∃ u, p = .riseMean u ∧ q = .fallMean u) ∨
          ∃ u, p = .riseGust u ∧ q = .fallGust u))) ∧
  (∀ (s : State) (f : Frame) (num idx : Nat) (v : Int) (p : Param), Ready s .O f 0x1B →
    setParamArgs f.payload = some (num, idx, v) → itemOf num idx = some (.param p) → p.isLimit = true →
    s.anyBusy = true → exec .setParam s = .next (requestAnswered s .O f .state [])) ∧
  (∀ (s : State) (f : Frame) (num idx : Nat) (v : Int), Ready s .O f 0x1B →
    setParamArgs f.payload = some (num, idx, v) → itemOf num idx = some (.param .mastEnable) →
    s.cfg.taken .mastEnable v = 0 → exec .setParam s = .next (requestAnswered s .O f .badArg [])) ∧
  (∀ (s : State) (f : Frame) (num idx : Nat) (v : Int), Ready s .O f 0x1B →
    setParamArgs f.payload = some (num, idx, v) → (∀ p, itemOf num idx ≠ some (.param p)) →
    exec .setParam s = .next (requestAnswered s .O f .badArg [])) ∧
  (∀ (s : State) (f : Frame), Ready s .O f 0x1B → setParamArgs f.payload = none →
    exec .setParam s = .next (requestAnswered s .O f .badArg [])) ∧
  (∀ (s : State) (f : Frame) (a b c : Byte), Ready s .O f 0x1C → f.payload = [a, b, c] →
    (∀ p, itemOf (rd16 a b) c.toNat = some (.param p) →
      exec .getParam s = .next (requestAnswered s .O f .done (i32 (s.cfg.get p)))) ∧
    (itemOf (rd16 a b) c.toNat = some .snowMode →
      exec .getParam s = .next (requestAnswered s .O f .done (u8 s.snow.mode.ctorIdx))) ∧
    (itemOf (rd16 a b) c.toNat = some .snowSource →
      exec .getParam s = .next (requestAnswered s .O f .done (encOptCode (s.snow.source.map (·.ctorIdx))))) ∧
    (itemOf (rd16 a b) c.toNat = some .precipClass →
      exec .getParam s = .next (requestAnswered s .O f .done (encOptCode (s.snow.cls.map (·.ctorIdx))))) ∧
    (itemOf (rd16 a b) c.toNat = some .airTemp →
      exec .getParam s = .next (requestAnswered s .O f .done (encTemp s.snow.air))) ∧
    (itemOf (rd16 a b) c.toNat = none → exec .getParam s = .next (requestAnswered s .O f .badArg []))) ∧
  (∀ (s : State) (f : Frame), Ready s .O f 0x1C → f.payload.length ≠ 3 →
    exec .getParam s = .next (requestAnswered s .O f .badArg []))

/-- The queries answer DONE with the record that the block holds, each form and section of its own, and BAD_ARG for an argument outside its range
or a payload of another length; a kind that is no request of the link is answered WRONG_LINK if it is one of the other, and BAD_ARG if it is
of neither. The layout of the data that R190 leaves open is log entries 20, 24 and 40: the model's choice. -/
def Obligations.QueriesAnswerTheRecords : Prop :=
  ∀ (l : Link) (s : State) (f : Frame),
    (∀ i, Ready s l f 0x50 → stationArg f.payload = some i →
      exec (.qStation l) s = .next (requestAnswered s l f .done (s.stationData i))) ∧
    (Ready s l f 0x50 → stationArg f.payload = none →
      exec (.qStation l) s = .next (requestAnswered s l f .badArg [])) ∧
    (Ready s l f 0x51 → f.payload.head? = some 0 → f.payload.length = 3 →
      exec (.qPower l) s = .next (requestAnswered s l f .done s.summaryData)) ∧
    (∀ n c : Byte, Ready s l f 0x51 → f.payload = [1, n, c] →
      exec (.qPower l) s = .next
        (if 1 ≤ n.toNat ∧ 1 ≤ c.toNat ∧ c.toNat ≤ 8 ∧ n.toNat + c.toNat ≤ 33 then
          requestAnswered s l f .done (((allStns.drop (n.toNat - 1)).take c.toNat).map s.grantsData).flatten
        else requestAnswered s l f .badArg [])) ∧
    (∀ n c : Byte, Ready s l f 0x51 → f.payload = [2, n, c] →
      exec (.qPower l) s = .next
        (if 1 ≤ n.toNat ∧ n.toNat ≤ 64 ∧ 1 ≤ c.toNat ∧ c.toNat ≤ 8 then
          requestAnswered s l f .done (u8 ((s.headOrder.drop (n.toNat - 1)).take c.toNat).length ++
            (((s.headOrder.drop (n.toNat - 1)).take c.toNat).map s.entryData).flatten)
        else requestAnswered s l f .badArg [])) ∧
    (Ready s l f 0x51 → f.payload.length ≠ 3 ∨ (∃ a, f.payload.head? = some a ∧ 2 < a.toNat) →
      exec (.qPower l) s = .next (requestAnswered s l f .badArg [])) ∧
    (Ready s l f 0x52 → exec (.qWind l) s = .next
      (if f.payload = [] then requestAnswered s l f .done s.windData else requestAnswered s l f .badArg [])) ∧
    (Ready s l f 0x53 → exec (.qCampaign l) s = .next
      (if f.payload = [] then requestAnswered s l f .done s.campaignData else requestAnswered s l f .badArg [])) ∧
    (Ready s l f 0x54 → exec (.qQueue l) s = .next
      (if f.payload = [] then requestAnswered s l f .done (s.queueData l) else requestAnswered s l f .badArg [])) ∧
    (Ready s l f 0x55 → f.payload = [0] →
      exec (.qLockout l) s = .next (requestAnswered s l f .done
        (allStns.map fun i => u8 (s.lock i).status.ctorIdx).flatten)) ∧
    (∀ i, Ready s l f 0x55 → stationArg f.payload = some i →
      exec (.qLockout l) s = .next (requestAnswered s l f .done (s.lockData i))) ∧
    (Ready s l f 0x55 → f.payload ≠ [0] → stationArg f.payload = none →
      exec (.qLockout l) s = .next (requestAnswered s l f .badArg [])) ∧
    (∀ c, (s.link l).fifo.head? = some f → (s.link l).replyBusy = false → ownRequest l f.kind = none →
      c = (if anyRequestKind f.kind then Code.wrongLink else .badArg) →
      exec (.unknownRequestKind l) s = .next (requestAnswered s l f c []))

/-- ACK lowers exactly the named flags of its link and answers those still raised; a DUMP answers the counters and, with its clear flag,
returns exactly those it carries to 0; an argument outside its range is BAD_ARG. That no count stands before the station counters is log
entry 20: the model's choice. -/
def Obligations.AckAndDumpComplete : Prop :=
  (∀ (l : Link) (s : State) (f : Frame) (a b : Byte), Ready s l f 0x56 → f.payload = [a, b] →
    ∃ t, exec (.ack l) s = .next t ∧ OnlyLink l s t ∧
      (t.link l).flags = (s.link l).flags &&& ~~~(BitVec.ofNat 10 (rd16 a b)) ∧
      ∃ r ∈ (t.link l).outgoing, r.kind = kindReply ∧ r.tag = f.tag ∧
        r.payload = replyPayload f.kind .done (u16 (t.link l).flags.toNat)) ∧
  (∀ (l : Link) (s : State) (f : Frame), Ready s l f 0x56 → f.payload.length ≠ 2 →
    exec (.ack l) s = .next (requestAnswered s l f .badArg [])) ∧
  (∀ (l : Link) (s : State) (f : Frame) (x c : Byte) (clear : Bool), Ready s l f 0x57 → f.payload = [0, c, x] →
    rdFlag x = some clear →
    exec (.dump l) s = .next ({ s.openRequest l f with
      stats := if clear then s.stats.clearArray else s.stats }.answer l f.kind .done s.stats.arrayData)) ∧
  (∀ (l : Link) (s : State) (f : Frame) (n c x : Byte) (clear : Bool), Ready s l f 0x57 → f.payload = [n, c, x] →
    rdFlag x = some clear → 1 ≤ n.toNat → 1 ≤ c.toNat → c.toNat ≤ 8 → n.toNat + c.toNat ≤ 33 →
    exec (.dump l) s = .next ({ s.openRequest l f with
      stats := if clear then ((allStns.drop (n.toNat - 1)).take c.toNat).foldl Stats.clearStn s.stats else s.stats
      }.answer l f.kind .done
        (((allStns.drop (n.toNat - 1)).take c.toNat).map fun i => stnData (s.stats.stn.get i)).flatten)) ∧
  (∀ (l : Link) (s : State) (f : Frame), Ready s l f 0x57 →
    (f.payload.length ≠ 3 ∨ ∃ n c x, f.payload = [n, c, x] ∧
      (rdFlag x = none ∨ (n.toNat ≠ 0 ∧ ¬ (1 ≤ c.toNat ∧ c.toNat ≤ 8 ∧ n.toNat + c.toNat ≤ 33)))) →
    exec (.dump l) s = .next (requestAnswered s l f .badArg [])) ∧
  (∀ t : Stats, t.clearArray =
    { stn := t.stn, admissions := 0, sheds := 0, deficits := 0,
      lineS := { good := 0, bad := 0, dropped := 0, reports := 0 },
      lineO := { good := 0, bad := 0, dropped := 0, reports := 0 },
      site := { good := 0, bad := 0, dropped := 0, reports := 0 } }) ∧
  (∀ (t : Stats) (l : List Stn),
    (∀ i ∈ l, (l.foldl Stats.clearStn t).stn.get i =
      { arrivals := 0, otherEndings := 0, stows := 0, onPhases := 0, cuts := 0, misses := 0, lockouts := 0,
        losses := 0 }) ∧
    (∀ i, i ∉ l → (l.foldl Stats.clearStn t).stn.get i = t.stn.get i) ∧
    { l.foldl Stats.clearStn t with stn := t.stn } = t)

/-! ### Site and panel events, expiries -/

/-- A good frame of the site line is handed to the block that owns its kind: MAST to the wind monitor, PRECIP to the snow melt controller,
FEEDER to the allocator, which takes a value above 40000 as 40000; any other counts and is ignored. A MAST frame of a mast that does not
exist or is not enabled changes nothing; of an enabled one, it writes frame time, count and condition, adds to the ring the median of
three valid readings, the higher of two or the only one, each clamped to 800, drops the oldest of 128 samples for it, moves the silence expiry
to MAST_SILENCE plus 1 ms after a new sample, and has the stage evaluated. A PRECIP frame of a class outside 0..3 is ignored; any other replaces class and air temperature, starts the clear timer at class NONE
if it does not run and stops it at another class, and has the automatic condition judged: where that has become true with AUTO_SNOW set and
the mode OFF, the mode turns ON with source AUTO, and it stays otherwise. -/
def Obligations.SiteFramesReachTheirBlocks : Prop :=
  (∀ (b : List Byte) (s : State) (f : Frame) (rest : List Byte), s.site.find b = .good f rest →
    (∀ m rs, f.kind = kindMast → mastArgs f.payload = some (m, rs) →
      exec (.mast b) s =
        .next (settle false (s.gathered .site rest) ((s.gathered .site rest).takeMast m rs))) ∧
    (∀ c k air, f.kind = kindPrecip → precipArgs f.payload = some (c, air) → classOf c = some k →
      exec (.precip b) s =
        .next (settle false (s.gathered .site rest) ((s.gathered .site rest).takePrecip k air))) ∧
    (∀ n, f.kind = kindFeeder → feederArg f.payload = some n →
      exec (.feeder b) s = .next (settle false (s.gathered .site rest)
        { s.gathered .site rest with power := { s.power with feedLimit := min n 40000 } })) ∧
    (∀ c air, f.kind = kindPrecip → precipArgs f.payload = some (c, air) → 3 < c →
      exec (.precip b) s = .next (s.gathered .site rest)) ∧
    (siteFrameTaken f = false → exec (.siteFrameIgnored b) s = .next (s.gathered .site rest))) ∧
  (∀ (s : State) (c : PrecipClass) (air : Option Int),
    (s.takePrecip c air).snow.cls = some c ∧ (s.takePrecip c air).snow.air = air ∧
    (c ≠ .dry → (s.takePrecip c air).snow.clearTimer = none) ∧
    (c = .dry → (s.takePrecip c air).snow.clearTimer =
      some (s.snow.clearTimer.getD (s.clock + 1000 * s.cfg.snowClear))) ∧
    ((s.takePrecip c air).snow.auto = true ↔
      s.cfg.snowClass ≤ c.ctorIdx ∧ ∃ t, air = some t ∧ t ≤ s.cfg.snowTemp) ∧
    ((s.takePrecip c air).snow.auto = true → s.snow.auto = false → s.cfg.autoSnow = true → s.snow.mode = .off →
      (s.takePrecip c air).snow.mode = .on ∧ (s.takePrecip c air).snow.source = some .auto) ∧
    ((s.takePrecip c air).snow.auto = false ∨ s.snow.auto = true ∨ s.cfg.autoSnow = false ∨ s.snow.mode = .on →
      s.takePrecip c air = { s with snow := { s.snow with
        cls := some c, air := air, auto := (s.takePrecip c air).snow.auto,
        clearTimer := (s.takePrecip c air).snow.clearTimer } })) ∧
  (∀ (s : State) (n : Nat) (rs : List (Option Nat)), n = 0 ∨ 4 < n → s.takeMast n rs = s) ∧
  (∀ (s : State) (i : MastNo) (rs : List (Option Nat)),
    s.takeMast (i.val + 1) rs =
      if s.cfg.mastOn i then
        { s with wind := { s.wind with masts := upd s.wind.masts i fun m => m.hear rs s.cfg.mastSilence s.clock } }.evaluate false
      else s) ∧
  (∀ (m : Mast) (a b c : Option Nat) (silence now : Nat),
    m.hear [a, b, c] silence now =
      { m.take [a, b, c] now with
        silence := if [a, b, c].countP (·.isSome) = 0 then m.silence else some (now + 1000 * silence + 1) }) ∧
  (∀ (m : Mast) (a b c : Option Nat) (now : Nat),
    (m.take [a, b, c] now).lastFrame = some now ∧
    (m.take [a, b, c] now).valid = some ([a, b, c].countP (·.isSome)) ∧
    (m.take [a, b, c] now).condition = some
      (if [a, b, c].countP (·.isSome) = 0 then .noReading
       else if [a, b, c].countP (·.isSome) = 1 then .degraded else .normal) ∧
    ([a, b, c].countP (·.isSome) = 0 → (m.take [a, b, c] now).ring = m.ring) ∧
    ([a, b, c].countP (·.isSome) ≠ 0 → ∃ v,
      (m.ring.length < 128 → (m.take [a, b, c] now).ring = m.ring ++ [{ value := v, time := now }]) ∧
      (m.ring.length = 128 → (m.take [a, b, c] now).ring = m.ring.tail ++ [{ value := v, time := now }]) ∧
      (∃ x, some x ∈ [a, b, c] ∧ v = min x 800) ∧
      ([a, b, c].countP (·.isSome) = 2 → ∀ x, some x ∈ [a, b, c] → min x 800 ≤ v) ∧
      (∀ x y z, a = some x → b = some y → c = some z →
        2 ≤ [min x 800, min y 800, min z 800].countP (fun r => decide (r ≤ v)) ∧
        2 ≤ [min x 800, min y 800, min z 800].countP (fun r => decide (v ≤ r)))))

/-- A good KEYS reply is taken, with the panel KNOWN and its silence expiry PANEL_SILENCE after the reply, and its four slots are compared with
the list slot by slot, which gives the slots that the station then has; a reply that is not good, or none by the timeout, changes no slot and
no time, and neither does a good one of a station that has been disabled; then the next panel is visited. -/
def Obligations.PanelRepliesComplete : Prop :=
  (∀ (b : List Byte) (s : State) (v : PanelVisit) (ks : List (Option (Nat × LockKind))), s.locks.visit = some v →
    s.goodKeys v b = some ks → s.panelVoid v = false →
    exec (.keys b) s = .next ((settle false s (s.takeKeys v.station ks)).nextPanel (some v.station)) ∧
    ((s.takeKeys v.station ks).lock v.station).known = true ∧
    ((s.takeKeys v.station ks).lock v.station).lastGood = some s.clock ∧
    ((s.takeKeys v.station ks).lock v.station).silence = some (s.clock + 1000 * s.cfg.panelSilence) ∧
    ∃ a b' c d, ks = [a, b', c, d] ∧
      ∀ slots, slots = ((([(0, a), (1, b'), (2, c), (3, d)] : List (Fin 6 × Option (Nat × LockKind))).foldl
        (State.compareSlot v.station) s).lock v.station).slots →
        ((s.takeKeys v.station ks).lock v.station).slots = slots ∧
        ∃ t, exec (.keys b) s = .next t ∧ (t.lock v.station).slots = slots) ∧
  (∀ (b : List Byte) (s : State) (v : PanelVisit) (ks : List (Option (Nat × LockKind))), s.locks.visit = some v →
    s.goodKeys v b = some ks → s.panelVoid v = true →
    exec (.keys b) s = .next (s.nextPanel (some v.station)) ∧
    (s.nextPanel (some v.station)).locks.recs = s.locks.recs ∧ (s.nextPanel (some v.station)).stns = s.stns) ∧
  (∀ (b : List Byte) (s : State) (v : PanelVisit), s.locks.visit = some v → s.goodKeys v b = none →
    exec (.panelReplyMissed (some b)) s = .next (s.nextPanel (some v.station)) ∧
    (s.nextPanel (some v.station)).locks.recs = s.locks.recs ∧ (s.nextPanel (some v.station)).stns = s.stns) ∧
  (∀ (s : State) (v : PanelVisit), s.locks.visit = some v → v.start + v.timeout ≤ s.clock →
    exec (.panelReplyMissed none) s = .next (s.nextPanel (some v.station)))

/-- Each expiry that is due has its effect: the panel becomes UNKNOWN, the stage is evaluated (also at an expiry of mast or dwell that another
evaluation of the same time has forestalled, R94; the field `lapsed` by which the model remembers that one is its own, log entry 46), the deadline stops, the clear timer stops, the
heater goes to STOPPING or starts a cycle, the idle station is judged once. A judgement finds a park due by the conditions of R140: the
station becomes PARKED at once, or ADMITTING for SNOW with an ORDINARY entry at priority 5; otherwise it does nothing. -/
def Obligations.DueExpiriesAct : Prop :=
  (∀ (i : Stn) (s : State), s.panelSilenceDue i = true →
    exec (.panelSilenceExpiry i) s = .next (settle false s (s.panelSilent i)) ∧
    ((s.panelSilent i).lock i).known = false ∧ ((s.panelSilent i).lock i).status = .unknown) ∧
  (∀ (m : MastNo) (s : State), s.silenceDue m = true →
    exec (.silenceExpiry m) s = .next (settle false s (s.silenceEnd m)) ∧
    s.silenceEnd m = { s with wind := { s.wind with
      masts := upd s.wind.masts m fun r => { r with silence := none } } }.evaluate false) ∧
  (∀ s : State, s.wind.dwellDue s.clock = true ∨ s.wind.lapsed = true →
    exec .dwellExpiry s = .next (settle false s (s.evaluate true))) ∧
  (∀ s : State, s.reached s.camp.deadline = true →
    exec .deadlineExpiry s = .next (settle false s s.deadlineEnd) ∧ s.deadlineEnd.camp.deadline = none ∧
    s.deadlineEnd.camp.late = (s.camp.late || !s.camp.allFinal)) ∧
  (∀ s : State, s.reached s.snow.clearTimer = true →
    exec .clearTimerExpiry s = .next (settle false s s.clearEnd) ∧ s.clearEnd.snow.clearTimer = none ∧
    (s.cfg.autoSnow = true → s.snow.mode = .on → s.snow.source = some .auto → s.clearEnd.snow.mode = .off)) ∧
  (∀ (i : Stn) (s : State), s.timerADue i = true →
    exec (.timerAExpiry i) s = .next (settle false s (s.stopHeat i .offPhase)) ∧
    ((s.stopHeat i .offPhase).chan i).state = .stopping ∧ ((s.stopHeat i .offPhase).chan i).after = some .offPhase ∧
    ((s.stopHeat i .offPhase).cab i).heat = some .heatOff) ∧
  (∀ (i : Stn) (s : State), s.timerBDue i = true →
    exec (.timerBExpiry i) s = .next (settle false s (s.startCycle i))) ∧
  (∀ (i : Stn) (s : State), s.reached (s.snow.idleExpiry.get i) = true →
    exec (.idleExpiry i) s = .next (settle false s (s.idleEnd i)) ∧
    s.idleEnd i = { s with snow := { s.snow with idleExpiry := upd s.snow.idleExpiry i fun _ => none } }.judgePark i) ∧
  (∀ (i : Stn) (s : State), s.parkDue i = true ↔
    s.snow.mode = .on ∧ s.camp.state = .none ∧ (s.stn i).motion = .held ∧ (s.lock i).status = .free ∧
      ∃ t, (s.stn i).idleSince = some t ∧ 1000 * s.cfg.snowIdle ≤ ageOf s.clock t) ∧
  (∀ (i : Stn) (s : State) (p : Plan), p = planSnow s.cfg i s.wind.stage (s.azPos i) (s.elPos i) →
    (s.parkDue i = false → s.judgePark i = s) ∧
    (s.parkDue i = true → p.isNull = true → ((s.judgePark i).stn i).motion = .parked ∧
      ((s.judgePark i).stn i).owner = (s.stn i).owner ∧ (s.judgePark i).power = s.power ∧
      (s.judgePark i).park i = s.park i) ∧
    (s.parkDue i = true → p.isNull = false → ((s.judgePark i).stn i).motion = .admitting ∧
      ((s.judgePark i).stn i).owner = some .snow ∧ ((s.judgePark i).stn i).posture = some .held ∧
      (s.judgePark i).park i = some .waitingPower ∧
      (s.judgePark i).power.list = s.power.list ++
        [{ body := .motion false [p], cls := .ordinary, prio := 5, seq := s.power.arrival }]))

/-- Every step keeps R69: the admission list holds at most 64 entries, none without a consumer and no consumer twice; each motion consumer that
waits there belongs to an ADMITTING station, and each heater consumer to a channel in WAIT. The step starts from a state that also keeps
R4 and R8. -/
def Obligations.StepKeepsListRule : Prop :=
  ∀ s t : State, OwnerRule s → ListRule s → step s = .next t → ListRule t

end Statements
end

