-- ==== Sys2Proof/Laws/State.lean ====
section
/-! SUPPORT. The small lemmas of the state: what each update of a record reads as afterwards, field by field. -/

namespace Sys2Proof

/-- The rewritten place of a table. -/
@[simp] theorem upd_get_same {α : Type} {n : Nat} (v : Vector α n) (i : Fin n) (f : α → α) :
    (upd v i f).get i = f (v.get i) := by simp [upd, Vector.get_eq_getElem]

/-- Any other place of a table. -/
theorem upd_get_ne {α : Type} {n : Nat} (v : Vector α n) {i j : Fin n} (f : α → α) (h : j ≠ i) :
    (upd v i f).get j = v.get j := by
  have : i.val ≠ j.val := fun e => h (Fin.ext e.symm)
  simp [upd, Vector.get_eq_getElem, Vector.getElem_set_ne, this]

/-- Every place of a rewritten table. -/
theorem upd_get {α : Type} {n : Nat} (v : Vector α n) (i j : Fin n) (f : α → α) :
    (upd v i f).get j = if j = i then f (v.get j) else v.get j := by
  by_cases h : j = i
  · subst h; simp
  · simp [h, upd_get_ne v f h]

namespace Machine

variable (s : State)

/-! ### modStn -/

@[simp] theorem modStn_clock (i : Stn) (f : Station → Station) : (s.modStn i f).clock = s.clock := rfl
@[simp] theorem modStn_cfg (i : Stn) (f : Station → Station) : (s.modStn i f).cfg = s.cfg := rfl
@[simp] theorem modStn_sched (i : Stn) (f : Station → Station) : (s.modStn i f).sched = s.sched := rfl
@[simp] theorem modStn_oper (i : Stn) (f : Station → Station) : (s.modStn i f).oper = s.oper := rfl
@[simp] theorem modStn_power (i : Stn) (f : Station → Station) : (s.modStn i f).power = s.power := rfl
@[simp] theorem modStn_wind (i : Stn) (f : Station → Station) : (s.modStn i f).wind = s.wind := rfl
@[simp] theorem modStn_camp (i : Stn) (f : Station → Station) : (s.modStn i f).camp = s.camp := rfl
@[simp] theorem modStn_snow (i : Stn) (f : Station → Station) : (s.modStn i f).snow = s.snow := rfl
@[simp] theorem modStn_locks (i : Stn) (f : Station → Station) : (s.modStn i f).locks = s.locks := rfl
@[simp] theorem modStn_bus (i : Stn) (f : Station → Station) : (s.modStn i f).bus = s.bus := rfl
@[simp] theorem modStn_linkS (i : Stn) (f : Station → Station) : (s.modStn i f).linkS = s.linkS := rfl
@[simp] theorem modStn_linkO (i : Stn) (f : Station → Station) : (s.modStn i f).linkO = s.linkO := rfl
@[simp] theorem modStn_site (i : Stn) (f : Station → Station) : (s.modStn i f).site = s.site := rfl
@[simp] theorem modStn_stats (i : Stn) (f : Station → Station) : (s.modStn i f).stats = s.stats := rfl
@[simp] theorem modStn_choices (i : Stn) (f : Station → Station) : (s.modStn i f).choices = s.choices := rfl
@[simp] theorem modStn_pending (i : Stn) (f : Station → Station) : (s.modStn i f).pending = s.pending := rfl

/-! ### modCab -/

@[simp] theorem modCab_clock (i : Stn) (f : Cabinet → Cabinet) : (s.modCab i f).clock = s.clock := rfl
@[simp] theorem modCab_cfg (i : Stn) (f : Cabinet → Cabinet) : (s.modCab i f).cfg = s.cfg := rfl
@[simp] theorem modCab_stns (i : Stn) (f : Cabinet → Cabinet) : (s.modCab i f).stns = s.stns := rfl
@[simp] theorem modCab_sched (i : Stn) (f : Cabinet → Cabinet) : (s.modCab i f).sched = s.sched := rfl
@[simp] theorem modCab_oper (i : Stn) (f : Cabinet → Cabinet) : (s.modCab i f).oper = s.oper := rfl
@[simp] theorem modCab_power (i : Stn) (f : Cabinet → Cabinet) : (s.modCab i f).power = s.power := rfl
@[simp] theorem modCab_wind (i : Stn) (f : Cabinet → Cabinet) : (s.modCab i f).wind = s.wind := rfl
@[simp] theorem modCab_camp (i : Stn) (f : Cabinet → Cabinet) : (s.modCab i f).camp = s.camp := rfl
@[simp] theorem modCab_snow (i : Stn) (f : Cabinet → Cabinet) : (s.modCab i f).snow = s.snow := rfl
@[simp] theorem modCab_locks (i : Stn) (f : Cabinet → Cabinet) : (s.modCab i f).locks = s.locks := rfl
@[simp] theorem modCab_linkS (i : Stn) (f : Cabinet → Cabinet) : (s.modCab i f).linkS = s.linkS := rfl
@[simp] theorem modCab_linkO (i : Stn) (f : Cabinet → Cabinet) : (s.modCab i f).linkO = s.linkO := rfl
@[simp] theorem modCab_site (i : Stn) (f : Cabinet → Cabinet) : (s.modCab i f).site = s.site := rfl
@[simp] theorem modCab_stats (i : Stn) (f : Cabinet → Cabinet) : (s.modCab i f).stats = s.stats := rfl
@[simp] theorem modCab_choices (i : Stn) (f : Cabinet → Cabinet) : (s.modCab i f).choices = s.choices := rfl
@[simp] theorem modCab_pending (i : Stn) (f : Cabinet → Cabinet) : (s.modCab i f).pending = s.pending := rfl
@[simp] theorem modCab_bus_visit (i : Stn) (f : Cabinet → Cabinet) : (s.modCab i f).bus.visit = s.bus.visit := rfl

/-! ### modChan -/

@[simp] theorem modChan_clock (i : Stn) (f : Channel → Channel) : (s.modChan i f).clock = s.clock := rfl
@[simp] theorem modChan_cfg (i : Stn) (f : Channel → Channel) : (s.modChan i f).cfg = s.cfg := rfl
@[simp] theorem modChan_stns (i : Stn) (f : Channel → Channel) : (s.modChan i f).stns = s.stns := rfl
@[simp] theorem modChan_sched (i : Stn) (f : Channel → Channel) : (s.modChan i f).sched = s.sched := rfl
@[simp] theorem modChan_oper (i : Stn) (f : Channel → Channel) : (s.modChan i f).oper = s.oper := rfl
@[simp] theorem modChan_power (i : Stn) (f : Channel → Channel) : (s.modChan i f).power = s.power := rfl
@[simp] theorem modChan_wind (i : Stn) (f : Channel → Channel) : (s.modChan i f).wind = s.wind := rfl
@[simp] theorem modChan_camp (i : Stn) (f : Channel → Channel) : (s.modChan i f).camp = s.camp := rfl
@[simp] theorem modChan_locks (i : Stn) (f : Channel → Channel) : (s.modChan i f).locks = s.locks := rfl
@[simp] theorem modChan_bus (i : Stn) (f : Channel → Channel) : (s.modChan i f).bus = s.bus := rfl
@[simp] theorem modChan_linkS (i : Stn) (f : Channel → Channel) : (s.modChan i f).linkS = s.linkS := rfl
@[simp] theorem modChan_linkO (i : Stn) (f : Channel → Channel) : (s.modChan i f).linkO = s.linkO := rfl
@[simp] theorem modChan_site (i : Stn) (f : Channel → Channel) : (s.modChan i f).site = s.site := rfl
@[simp] theorem modChan_stats (i : Stn) (f : Channel → Channel) : (s.modChan i f).stats = s.stats := rfl
@[simp] theorem modChan_choices (i : Stn) (f : Channel → Channel) : (s.modChan i f).choices = s.choices := rfl
@[simp] theorem modChan_pending (i : Stn) (f : Channel → Channel) : (s.modChan i f).pending = s.pending := rfl
@[simp] theorem modChan_snow_mode (i : Stn) (f : Channel → Channel) : (s.modChan i f).snow.mode = s.snow.mode := rfl
@[simp] theorem modChan_snow_source (i : Stn) (f : Channel → Channel) : (s.modChan i f).snow.source = s.snow.source := rfl
@[simp] theorem modChan_snow_cls (i : Stn) (f : Channel → Channel) : (s.modChan i f).snow.cls = s.snow.cls := rfl
@[simp] theorem modChan_snow_air (i : Stn) (f : Channel → Channel) : (s.modChan i f).snow.air = s.snow.air := rfl
@[simp] theorem modChan_snow_auto (i : Stn) (f : Channel → Channel) : (s.modChan i f).snow.auto = s.snow.auto := rfl
@[simp] theorem modChan_snow_clearTimer (i : Stn) (f : Channel → Channel) : (s.modChan i f).snow.clearTimer = s.snow.clearTimer := rfl
@[simp] theorem modChan_snow_park (i : Stn) (f : Channel → Channel) : (s.modChan i f).snow.park = s.snow.park := rfl
@[simp] theorem modChan_snow_idleExpiry (i : Stn) (f : Channel → Channel) : (s.modChan i f).snow.idleExpiry = s.snow.idleExpiry := rfl

/-! ### setPark -/

@[simp] theorem setPark_clock (i : Stn) (p : Option ParkStep) : (s.setPark i p).clock = s.clock := rfl
@[simp] theorem setPark_cfg (i : Stn) (p : Option ParkStep) : (s.setPark i p).cfg = s.cfg := rfl
@[simp] theorem setPark_stns (i : Stn) (p : Option ParkStep) : (s.setPark i p).stns = s.stns := rfl
@[simp] theorem setPark_sched (i : Stn) (p : Option ParkStep) : (s.setPark i p).sched = s.sched := rfl
@[simp] theorem setPark_oper (i : Stn) (p : Option ParkStep) : (s.setPark i p).oper = s.oper := rfl
@[simp] theorem setPark_power (i : Stn) (p : Option ParkStep) : (s.setPark i p).power = s.power := rfl
@[simp] theorem setPark_wind (i : Stn) (p : Option ParkStep) : (s.setPark i p).wind = s.wind := rfl
@[simp] theorem setPark_camp (i : Stn) (p : Option ParkStep) : (s.setPark i p).camp = s.camp := rfl
@[simp] theorem setPark_locks (i : Stn) (p : Option ParkStep) : (s.setPark i p).locks = s.locks := rfl
@[simp] theorem setPark_bus (i : Stn) (p : Option ParkStep) : (s.setPark i p).bus = s.bus := rfl
@[simp] theorem setPark_linkS (i : Stn) (p : Option ParkStep) : (s.setPark i p).linkS = s.linkS := rfl
@[simp] theorem setPark_linkO (i : Stn) (p : Option ParkStep) : (s.setPark i p).linkO = s.linkO := rfl
@[simp] theorem setPark_site (i : Stn) (p : Option ParkStep) : (s.setPark i p).site = s.site := rfl
@[simp] theorem setPark_stats (i : Stn) (p : Option ParkStep) : (s.setPark i p).stats = s.stats := rfl
@[simp] theorem setPark_choices (i : Stn) (p : Option ParkStep) : (s.setPark i p).choices = s.choices := rfl
@[simp] theorem setPark_pending (i : Stn) (p : Option ParkStep) : (s.setPark i p).pending = s.pending := rfl
@[simp] theorem setPark_snow_mode (i : Stn) (p : Option ParkStep) : (s.setPark i p).snow.mode = s.snow.mode := rfl
@[simp] theorem setPark_snow_source (i : Stn) (p : Option ParkStep) : (s.setPark i p).snow.source = s.snow.source := rfl
@[simp] theorem setPark_snow_cls (i : Stn) (p : Option ParkStep) : (s.setPark i p).snow.cls = s.snow.cls := rfl
@[simp] theorem setPark_snow_air (i : Stn) (p : Option ParkStep) : (s.setPark i p).snow.air = s.snow.air := rfl
@[simp] theorem setPark_snow_auto (i : Stn) (p : Option ParkStep) : (s.setPark i p).snow.auto = s.snow.auto := rfl
@[simp] theorem setPark_snow_clearTimer (i : Stn) (p : Option ParkStep) : (s.setPark i p).snow.clearTimer = s.snow.clearTimer := rfl
@[simp] theorem setPark_snow_channels (i : Stn) (p : Option ParkStep) : (s.setPark i p).snow.channels = s.snow.channels := rfl
@[simp] theorem setPark_snow_idleExpiry (i : Stn) (p : Option ParkStep) : (s.setPark i p).snow.idleExpiry = s.snow.idleExpiry := rfl

/-! ### modLock -/

@[simp] theorem modLock_clock (i : Stn) (f : LockRec → LockRec) : (s.modLock i f).clock = s.clock := rfl
@[simp] theorem modLock_cfg (i : Stn) (f : LockRec → LockRec) : (s.modLock i f).cfg = s.cfg := rfl
@[simp] theorem modLock_stns (i : Stn) (f : LockRec → LockRec) : (s.modLock i f).stns = s.stns := rfl
@[simp] theorem modLock_sched (i : Stn) (f : LockRec → LockRec) : (s.modLock i f).sched = s.sched := rfl
@[simp] theorem modLock_oper (i : Stn) (f : LockRec → LockRec) : (s.modLock i f).oper = s.oper := rfl
@[simp] theorem modLock_power (i : Stn) (f : LockRec → LockRec) : (s.modLock i f).power = s.power := rfl
@[simp] theorem modLock_wind (i : Stn) (f : LockRec → LockRec) : (s.modLock i f).wind = s.wind := rfl
@[simp] theorem modLock_camp (i : Stn) (f : LockRec → LockRec) : (s.modLock i f).camp = s.camp := rfl
@[simp] theorem modLock_snow (i : Stn) (f : LockRec → LockRec) : (s.modLock i f).snow = s.snow := rfl
@[simp] theorem modLock_bus (i : Stn) (f : LockRec → LockRec) : (s.modLock i f).bus = s.bus := rfl
@[simp] theorem modLock_linkS (i : Stn) (f : LockRec → LockRec) : (s.modLock i f).linkS = s.linkS := rfl
@[simp] theorem modLock_linkO (i : Stn) (f : LockRec → LockRec) : (s.modLock i f).linkO = s.linkO := rfl
@[simp] theorem modLock_site (i : Stn) (f : LockRec → LockRec) : (s.modLock i f).site = s.site := rfl
@[simp] theorem modLock_stats (i : Stn) (f : LockRec → LockRec) : (s.modLock i f).stats = s.stats := rfl
@[simp] theorem modLock_choices (i : Stn) (f : LockRec → LockRec) : (s.modLock i f).choices = s.choices := rfl
@[simp] theorem modLock_pending (i : Stn) (f : LockRec → LockRec) : (s.modLock i f).pending = s.pending := rfl
@[simp] theorem modLock_locks_visit (i : Stn) (f : LockRec → LockRec) : (s.modLock i f).locks.visit = s.locks.visit := rfl

/-! ### modMotionGrant -/

@[simp] theorem modMotionGrant_clock (i : Stn) (f : Grant → Grant) : (s.modMotionGrant i f).clock = s.clock := rfl
@[simp] theorem modMotionGrant_cfg (i : Stn) (f : Grant → Grant) : (s.modMotionGrant i f).cfg = s.cfg := rfl
@[simp] theorem modMotionGrant_stns (i : Stn) (f : Grant → Grant) : (s.modMotionGrant i f).stns = s.stns := rfl
@[simp] theorem modMotionGrant_sched (i : Stn) (f : Grant → Grant) : (s.modMotionGrant i f).sched = s.sched := rfl
@[simp] theorem modMotionGrant_oper (i : Stn) (f : Grant → Grant) : (s.modMotionGrant i f).oper = s.oper := rfl
@[simp] theorem modMotionGrant_wind (i : Stn) (f : Grant → Grant) : (s.modMotionGrant i f).wind = s.wind := rfl
@[simp] theorem modMotionGrant_camp (i : Stn) (f : Grant → Grant) : (s.modMotionGrant i f).camp = s.camp := rfl
@[simp] theorem modMotionGrant_snow (i : Stn) (f : Grant → Grant) : (s.modMotionGrant i f).snow = s.snow := rfl
@[simp] theorem modMotionGrant_locks (i : Stn) (f : Grant → Grant) : (s.modMotionGrant i f).locks = s.locks := rfl
@[simp] theorem modMotionGrant_bus (i : Stn) (f : Grant → Grant) : (s.modMotionGrant i f).bus = s.bus := rfl
@[simp] theorem modMotionGrant_linkS (i : Stn) (f : Grant → Grant) : (s.modMotionGrant i f).linkS = s.linkS := rfl
@[simp] theorem modMotionGrant_linkO (i : Stn) (f : Grant → Grant) : (s.modMotionGrant i f).linkO = s.linkO := rfl
@[simp] theorem modMotionGrant_site (i : Stn) (f : Grant → Grant) : (s.modMotionGrant i f).site = s.site := rfl
@[simp] theorem modMotionGrant_stats (i : Stn) (f : Grant → Grant) : (s.modMotionGrant i f).stats = s.stats := rfl
@[simp] theorem modMotionGrant_choices (i : Stn) (f : Grant → Grant) : (s.modMotionGrant i f).choices = s.choices := rfl
@[simp] theorem modMotionGrant_pending (i : Stn) (f : Grant → Grant) : (s.modMotionGrant i f).pending = s.pending := rfl
@[simp] theorem modMotionGrant_power_feedLimit (i : Stn) (f : Grant → Grant) : (s.modMotionGrant i f).power.feedLimit = s.power.feedLimit := rfl
@[simp] theorem modMotionGrant_power_heat (i : Stn) (f : Grant → Grant) : (s.modMotionGrant i f).power.heat = s.power.heat := rfl
@[simp] theorem modMotionGrant_power_list (i : Stn) (f : Grant → Grant) : (s.modMotionGrant i f).power.list = s.power.list := rfl
@[simp] theorem modMotionGrant_power_arrival (i : Stn) (f : Grant → Grant) : (s.modMotionGrant i f).power.arrival = s.power.arrival := rfl
@[simp] theorem modMotionGrant_power_admission (i : Stn) (f : Grant → Grant) : (s.modMotionGrant i f).power.admission = s.power.admission := rfl
@[simp] theorem modMotionGrant_power_deficit (i : Stn) (f : Grant → Grant) : (s.modMotionGrant i f).power.deficit = s.power.deficit := rfl

/-! ### modHeatGrant -/

@[simp] theorem modHeatGrant_clock (i : Stn) (f : Grant → Grant) : (s.modHeatGrant i f).clock = s.clock := rfl
@[simp] theorem modHeatGrant_cfg (i : Stn) (f : Grant → Grant) : (s.modHeatGrant i f).cfg = s.cfg := rfl
@[simp] theorem modHeatGrant_stns (i : Stn) (f : Grant → Grant) : (s.modHeatGrant i f).stns = s.stns := rfl
@[simp] theorem modHeatGrant_sched (i : Stn) (f : Grant → Grant) : (s.modHeatGrant i f).sched = s.sched := rfl
@[simp] theorem modHeatGrant_oper (i : Stn) (f : Grant → Grant) : (s.modHeatGrant i f).oper = s.oper := rfl
@[simp] theorem modHeatGrant_wind (i : Stn) (f : Grant → Grant) : (s.modHeatGrant i f).wind = s.wind := rfl
@[simp] theorem modHeatGrant_camp (i : Stn) (f : Grant → Grant) : (s.modHeatGrant i f).camp = s.camp := rfl
@[simp] theorem modHeatGrant_snow (i : Stn) (f : Grant → Grant) : (s.modHeatGrant i f).snow = s.snow := rfl
@[simp] theorem modHeatGrant_locks (i : Stn) (f : Grant → Grant) : (s.modHeatGrant i f).locks = s.locks := rfl
@[simp] theorem modHeatGrant_bus (i : Stn) (f : Grant → Grant) : (s.modHeatGrant i f).bus = s.bus := rfl
@[simp] theorem modHeatGrant_linkS (i : Stn) (f : Grant → Grant) : (s.modHeatGrant i f).linkS = s.linkS := rfl
@[simp] theorem modHeatGrant_linkO (i : Stn) (f : Grant → Grant) : (s.modHeatGrant i f).linkO = s.linkO := rfl
@[simp] theorem modHeatGrant_site (i : Stn) (f : Grant → Grant) : (s.modHeatGrant i f).site = s.site := rfl
@[simp] theorem modHeatGrant_stats (i : Stn) (f : Grant → Grant) : (s.modHeatGrant i f).stats = s.stats := rfl
@[simp] theorem modHeatGrant_choices (i : Stn) (f : Grant → Grant) : (s.modHeatGrant i f).choices = s.choices := rfl
@[simp] theorem modHeatGrant_pending (i : Stn) (f : Grant → Grant) : (s.modHeatGrant i f).pending = s.pending := rfl
@[simp] theorem modHeatGrant_power_feedLimit (i : Stn) (f : Grant → Grant) : (s.modHeatGrant i f).power.feedLimit = s.power.feedLimit := rfl
@[simp] theorem modHeatGrant_power_motion (i : Stn) (f : Grant → Grant) : (s.modHeatGrant i f).power.motion = s.power.motion := rfl
@[simp] theorem modHeatGrant_power_list (i : Stn) (f : Grant → Grant) : (s.modHeatGrant i f).power.list = s.power.list := rfl
@[simp] theorem modHeatGrant_power_arrival (i : Stn) (f : Grant → Grant) : (s.modHeatGrant i f).power.arrival = s.power.arrival := rfl
@[simp] theorem modHeatGrant_power_admission (i : Stn) (f : Grant → Grant) : (s.modHeatGrant i f).power.admission = s.power.admission := rfl
@[simp] theorem modHeatGrant_power_deficit (i : Stn) (f : Grant → Grant) : (s.modHeatGrant i f).power.deficit = s.power.deficit := rfl

/-! ### modRoster -/

@[simp] theorem modRoster_clock (i : Stn) (f : RosterEntry → RosterEntry) : (s.modRoster i f).clock = s.clock := rfl
@[simp] theorem modRoster_cfg (i : Stn) (f : RosterEntry → RosterEntry) : (s.modRoster i f).cfg = s.cfg := rfl
@[simp] theorem modRoster_stns (i : Stn) (f : RosterEntry → RosterEntry) : (s.modRoster i f).stns = s.stns := rfl
@[simp] theorem modRoster_sched (i : Stn) (f : RosterEntry → RosterEntry) : (s.modRoster i f).sched = s.sched := rfl
@[simp] theorem modRoster_oper (i : Stn) (f : RosterEntry → RosterEntry) : (s.modRoster i f).oper = s.oper := rfl
@[simp] theorem modRoster_power (i : Stn) (f : RosterEntry → RosterEntry) : (s.modRoster i f).power = s.power := rfl
@[simp] theorem modRoster_wind (i : Stn) (f : RosterEntry → RosterEntry) : (s.modRoster i f).wind = s.wind := rfl
@[simp] theorem modRoster_snow (i : Stn) (f : RosterEntry → RosterEntry) : (s.modRoster i f).snow = s.snow := rfl
@[simp] theorem modRoster_locks (i : Stn) (f : RosterEntry → RosterEntry) : (s.modRoster i f).locks = s.locks := rfl
@[simp] theorem modRoster_bus (i : Stn) (f : RosterEntry → RosterEntry) : (s.modRoster i f).bus = s.bus := rfl
@[simp] theorem modRoster_linkS (i : Stn) (f : RosterEntry → RosterEntry) : (s.modRoster i f).linkS = s.linkS := rfl
@[simp] theorem modRoster_linkO (i : Stn) (f : RosterEntry → RosterEntry) : (s.modRoster i f).linkO = s.linkO := rfl
@[simp] theorem modRoster_site (i : Stn) (f : RosterEntry → RosterEntry) : (s.modRoster i f).site = s.site := rfl
@[simp] theorem modRoster_stats (i : Stn) (f : RosterEntry → RosterEntry) : (s.modRoster i f).stats = s.stats := rfl
@[simp] theorem modRoster_choices (i : Stn) (f : RosterEntry → RosterEntry) : (s.modRoster i f).choices = s.choices := rfl
@[simp] theorem modRoster_pending (i : Stn) (f : RosterEntry → RosterEntry) : (s.modRoster i f).pending = s.pending := rfl
@[simp] theorem modRoster_camp_state (i : Stn) (f : RosterEntry → RosterEntry) : (s.modRoster i f).camp.state = s.camp.state := rfl
@[simp] theorem modRoster_camp_cause (i : Stn) (f : RosterEntry → RosterEntry) : (s.modRoster i f).camp.cause = s.camp.cause := rfl
@[simp] theorem modRoster_camp_also (i : Stn) (f : RosterEntry → RosterEntry) : (s.modRoster i f).camp.also = s.camp.also := rfl
@[simp] theorem modRoster_camp_start (i : Stn) (f : RosterEntry → RosterEntry) : (s.modRoster i f).camp.start = s.camp.start := rfl
@[simp] theorem modRoster_camp_deadline (i : Stn) (f : RosterEntry → RosterEntry) : (s.modRoster i f).camp.deadline = s.camp.deadline := rfl
@[simp] theorem modRoster_camp_late (i : Stn) (f : RosterEntry → RosterEntry) : (s.modRoster i f).camp.late = s.camp.late := rfl

/-! ### modStnStats -/

@[simp] theorem modStnStats_clock (i : Stn) (f : StnStats → StnStats) : (s.modStnStats i f).clock = s.clock := rfl
@[simp] theorem modStnStats_cfg (i : Stn) (f : StnStats → StnStats) : (s.modStnStats i f).cfg = s.cfg := rfl
@[simp] theorem modStnStats_stns (i : Stn) (f : StnStats → StnStats) : (s.modStnStats i f).stns = s.stns := rfl
@[simp] theorem modStnStats_sched (i : Stn) (f : StnStats → StnStats) : (s.modStnStats i f).sched = s.sched := rfl
@[simp] theorem modStnStats_oper (i : Stn) (f : StnStats → StnStats) : (s.modStnStats i f).oper = s.oper := rfl
@[simp] theorem modStnStats_power (i : Stn) (f : StnStats → StnStats) : (s.modStnStats i f).power = s.power := rfl
@[simp] theorem modStnStats_wind (i : Stn) (f : StnStats → StnStats) : (s.modStnStats i f).wind = s.wind := rfl
@[simp] theorem modStnStats_camp (i : Stn) (f : StnStats → StnStats) : (s.modStnStats i f).camp = s.camp := rfl
@[simp] theorem modStnStats_snow (i : Stn) (f : StnStats → StnStats) : (s.modStnStats i f).snow = s.snow := rfl
@[simp] theorem modStnStats_locks (i : Stn) (f : StnStats → StnStats) : (s.modStnStats i f).locks = s.locks := rfl
@[simp] theorem modStnStats_bus (i : Stn) (f : StnStats → StnStats) : (s.modStnStats i f).bus = s.bus := rfl
@[simp] theorem modStnStats_linkS (i : Stn) (f : StnStats → StnStats) : (s.modStnStats i f).linkS = s.linkS := rfl
@[simp] theorem modStnStats_linkO (i : Stn) (f : StnStats → StnStats) : (s.modStnStats i f).linkO = s.linkO := rfl
@[simp] theorem modStnStats_site (i : Stn) (f : StnStats → StnStats) : (s.modStnStats i f).site = s.site := rfl
@[simp] theorem modStnStats_choices (i : Stn) (f : StnStats → StnStats) : (s.modStnStats i f).choices = s.choices := rfl
@[simp] theorem modStnStats_pending (i : Stn) (f : StnStats → StnStats) : (s.modStnStats i f).pending = s.pending := rfl
@[simp] theorem modStnStats_stats_admissions (i : Stn) (f : StnStats → StnStats) : (s.modStnStats i f).stats.admissions = s.stats.admissions := rfl
@[simp] theorem modStnStats_stats_sheds (i : Stn) (f : StnStats → StnStats) : (s.modStnStats i f).stats.sheds = s.stats.sheds := rfl
@[simp] theorem modStnStats_stats_deficits (i : Stn) (f : StnStats → StnStats) : (s.modStnStats i f).stats.deficits = s.stats.deficits := rfl
@[simp] theorem modStnStats_stats_lineS (i : Stn) (f : StnStats → StnStats) : (s.modStnStats i f).stats.lineS = s.stats.lineS := rfl
@[simp] theorem modStnStats_stats_lineO (i : Stn) (f : StnStats → StnStats) : (s.modStnStats i f).stats.lineO = s.stats.lineO := rfl
@[simp] theorem modStnStats_stats_site (i : Stn) (f : StnStats → StnStats) : (s.modStnStats i f).stats.site = s.stats.site := rfl

/-! ### modGroup -/

@[simp] theorem modGroup_clock (n : Nat) (f : Group → Group) : (s.modGroup n f).clock = s.clock := rfl
@[simp] theorem modGroup_cfg (n : Nat) (f : Group → Group) : (s.modGroup n f).cfg = s.cfg := rfl
@[simp] theorem modGroup_stns (n : Nat) (f : Group → Group) : (s.modGroup n f).stns = s.stns := rfl
@[simp] theorem modGroup_oper (n : Nat) (f : Group → Group) : (s.modGroup n f).oper = s.oper := rfl
@[simp] theorem modGroup_power (n : Nat) (f : Group → Group) : (s.modGroup n f).power = s.power := rfl
@[simp] theorem modGroup_wind (n : Nat) (f : Group → Group) : (s.modGroup n f).wind = s.wind := rfl
@[simp] theorem modGroup_camp (n : Nat) (f : Group → Group) : (s.modGroup n f).camp = s.camp := rfl
@[simp] theorem modGroup_snow (n : Nat) (f : Group → Group) : (s.modGroup n f).snow = s.snow := rfl
@[simp] theorem modGroup_locks (n : Nat) (f : Group → Group) : (s.modGroup n f).locks = s.locks := rfl
@[simp] theorem modGroup_bus (n : Nat) (f : Group → Group) : (s.modGroup n f).bus = s.bus := rfl
@[simp] theorem modGroup_linkS (n : Nat) (f : Group → Group) : (s.modGroup n f).linkS = s.linkS := rfl
@[simp] theorem modGroup_linkO (n : Nat) (f : Group → Group) : (s.modGroup n f).linkO = s.linkO := rfl
@[simp] theorem modGroup_site (n : Nat) (f : Group → Group) : (s.modGroup n f).site = s.site := rfl
@[simp] theorem modGroup_stats (n : Nat) (f : Group → Group) : (s.modGroup n f).stats = s.stats := rfl
@[simp] theorem modGroup_choices (n : Nat) (f : Group → Group) : (s.modGroup n f).choices = s.choices := rfl
@[simp] theorem modGroup_pending (n : Nat) (f : Group → Group) : (s.modGroup n f).pending = s.pending := rfl
@[simp] theorem modGroup_sched_suspended (n : Nat) (f : Group → Group) : (s.modGroup n f).sched.suspended = s.sched.suspended := rfl
@[simp] theorem modGroup_sched_next (n : Nat) (f : Group → Group) : (s.modGroup n f).sched.next = s.sched.next := rfl

/-! ### modSteer -/

@[simp] theorem modSteer_clock (n : Nat) (f : Steer → Steer) : (s.modSteer n f).clock = s.clock := rfl
@[simp] theorem modSteer_cfg (n : Nat) (f : Steer → Steer) : (s.modSteer n f).cfg = s.cfg := rfl
@[simp] theorem modSteer_stns (n : Nat) (f : Steer → Steer) : (s.modSteer n f).stns = s.stns := rfl
@[simp] theorem modSteer_sched (n : Nat) (f : Steer → Steer) : (s.modSteer n f).sched = s.sched := rfl
@[simp] theorem modSteer_power (n : Nat) (f : Steer → Steer) : (s.modSteer n f).power = s.power := rfl
@[simp] theorem modSteer_wind (n : Nat) (f : Steer → Steer) : (s.modSteer n f).wind = s.wind := rfl
@[simp] theorem modSteer_camp (n : Nat) (f : Steer → Steer) : (s.modSteer n f).camp = s.camp := rfl
@[simp] theorem modSteer_snow (n : Nat) (f : Steer → Steer) : (s.modSteer n f).snow = s.snow := rfl
@[simp] theorem modSteer_locks (n : Nat) (f : Steer → Steer) : (s.modSteer n f).locks = s.locks := rfl
@[simp] theorem modSteer_bus (n : Nat) (f : Steer → Steer) : (s.modSteer n f).bus = s.bus := rfl
@[simp] theorem modSteer_linkS (n : Nat) (f : Steer → Steer) : (s.modSteer n f).linkS = s.linkS := rfl
@[simp] theorem modSteer_linkO (n : Nat) (f : Steer → Steer) : (s.modSteer n f).linkO = s.linkO := rfl
@[simp] theorem modSteer_site (n : Nat) (f : Steer → Steer) : (s.modSteer n f).site = s.site := rfl
@[simp] theorem modSteer_stats (n : Nat) (f : Steer → Steer) : (s.modSteer n f).stats = s.stats := rfl
@[simp] theorem modSteer_choices (n : Nat) (f : Steer → Steer) : (s.modSteer n f).choices = s.choices := rfl
@[simp] theorem modSteer_pending (n : Nat) (f : Steer → Steer) : (s.modSteer n f).pending = s.pending := rfl
@[simp] theorem modSteer_oper_next (n : Nat) (f : Steer → Steer) : (s.modSteer n f).oper.next = s.oper.next := rfl

/-! ### leaveMotion -/

@[simp] theorem leaveMotion_clock (i : Stn) : (s.leaveMotion i).clock = s.clock := rfl
@[simp] theorem leaveMotion_cfg (i : Stn) : (s.leaveMotion i).cfg = s.cfg := rfl
@[simp] theorem leaveMotion_stns (i : Stn) : (s.leaveMotion i).stns = s.stns := rfl
@[simp] theorem leaveMotion_sched (i : Stn) : (s.leaveMotion i).sched = s.sched := rfl
@[simp] theorem leaveMotion_oper (i : Stn) : (s.leaveMotion i).oper = s.oper := rfl
@[simp] theorem leaveMotion_wind (i : Stn) : (s.leaveMotion i).wind = s.wind := rfl
@[simp] theorem leaveMotion_camp (i : Stn) : (s.leaveMotion i).camp = s.camp := rfl
@[simp] theorem leaveMotion_snow (i : Stn) : (s.leaveMotion i).snow = s.snow := rfl
@[simp] theorem leaveMotion_locks (i : Stn) : (s.leaveMotion i).locks = s.locks := rfl
@[simp] theorem leaveMotion_bus (i : Stn) : (s.leaveMotion i).bus = s.bus := rfl
@[simp] theorem leaveMotion_linkS (i : Stn) : (s.leaveMotion i).linkS = s.linkS := rfl
@[simp] theorem leaveMotion_linkO (i : Stn) : (s.leaveMotion i).linkO = s.linkO := rfl
@[simp] theorem leaveMotion_site (i : Stn) : (s.leaveMotion i).site = s.site := rfl
@[simp] theorem leaveMotion_stats (i : Stn) : (s.leaveMotion i).stats = s.stats := rfl
@[simp] theorem leaveMotion_choices (i : Stn) : (s.leaveMotion i).choices = s.choices := rfl
@[simp] theorem leaveMotion_pending (i : Stn) : (s.leaveMotion i).pending = s.pending := rfl
@[simp] theorem leaveMotion_power_feedLimit (i : Stn) : (s.leaveMotion i).power.feedLimit = s.power.feedLimit := rfl
@[simp] theorem leaveMotion_power_motion (i : Stn) : (s.leaveMotion i).power.motion = s.power.motion := rfl
@[simp] theorem leaveMotion_power_heat (i : Stn) : (s.leaveMotion i).power.heat = s.power.heat := rfl
@[simp] theorem leaveMotion_power_arrival (i : Stn) : (s.leaveMotion i).power.arrival = s.power.arrival := rfl
@[simp] theorem leaveMotion_power_admission (i : Stn) : (s.leaveMotion i).power.admission = s.power.admission := rfl
@[simp] theorem leaveMotion_power_deficit (i : Stn) : (s.leaveMotion i).power.deficit = s.power.deficit := rfl

/-! ### leaveHeat -/

@[simp] theorem leaveHeat_clock (i : Stn) : (s.leaveHeat i).clock = s.clock := rfl
@[simp] theorem leaveHeat_cfg (i : Stn) : (s.leaveHeat i).cfg = s.cfg := rfl
@[simp] theorem leaveHeat_stns (i : Stn) : (s.leaveHeat i).stns = s.stns := rfl
@[simp] theorem leaveHeat_sched (i : Stn) : (s.leaveHeat i).sched = s.sched := rfl
@[simp] theorem leaveHeat_oper (i : Stn) : (s.leaveHeat i).oper = s.oper := rfl
@[simp] theorem leaveHeat_wind (i : Stn) : (s.leaveHeat i).wind = s.wind := rfl
@[simp] theorem leaveHeat_camp (i : Stn) : (s.leaveHeat i).camp = s.camp := rfl
@[simp] theorem leaveHeat_snow (i : Stn) : (s.leaveHeat i).snow = s.snow := rfl
@[simp] theorem leaveHeat_locks (i : Stn) : (s.leaveHeat i).locks = s.locks := rfl
@[simp] theorem leaveHeat_bus (i : Stn) : (s.leaveHeat i).bus = s.bus := rfl
@[simp] theorem leaveHeat_linkS (i : Stn) : (s.leaveHeat i).linkS = s.linkS := rfl
@[simp] theorem leaveHeat_linkO (i : Stn) : (s.leaveHeat i).linkO = s.linkO := rfl
@[simp] theorem leaveHeat_site (i : Stn) : (s.leaveHeat i).site = s.site := rfl
@[simp] theorem leaveHeat_stats (i : Stn) : (s.leaveHeat i).stats = s.stats := rfl
@[simp] theorem leaveHeat_choices (i : Stn) : (s.leaveHeat i).choices = s.choices := rfl
@[simp] theorem leaveHeat_pending (i : Stn) : (s.leaveHeat i).pending = s.pending := rfl
@[simp] theorem leaveHeat_power_feedLimit (i : Stn) : (s.leaveHeat i).power.feedLimit = s.power.feedLimit := rfl
@[simp] theorem leaveHeat_power_motion (i : Stn) : (s.leaveHeat i).power.motion = s.power.motion := rfl
@[simp] theorem leaveHeat_power_heat (i : Stn) : (s.leaveHeat i).power.heat = s.power.heat := rfl
@[simp] theorem leaveHeat_power_arrival (i : Stn) : (s.leaveHeat i).power.arrival = s.power.arrival := rfl
@[simp] theorem leaveHeat_power_admission (i : Stn) : (s.leaveHeat i).power.admission = s.power.admission := rfl
@[simp] theorem leaveHeat_power_deficit (i : Stn) : (s.leaveHeat i).power.deficit = s.power.deficit := rfl

/-! ### joinList -/

@[simp] theorem joinList_clock (b : Waiting) (c : GrantClass) (n : Nat) : (s.joinList b c n).clock = s.clock := rfl
@[simp] theorem joinList_cfg (b : Waiting) (c : GrantClass) (n : Nat) : (s.joinList b c n).cfg = s.cfg := rfl
@[simp] theorem joinList_stns (b : Waiting) (c : GrantClass) (n : Nat) : (s.joinList b c n).stns = s.stns := rfl
@[simp] theorem joinList_sched (b : Waiting) (c : GrantClass) (n : Nat) : (s.joinList b c n).sched = s.sched := rfl
@[simp] theorem joinList_oper (b : Waiting) (c : GrantClass) (n : Nat) : (s.joinList b c n).oper = s.oper := rfl
@[simp] theorem joinList_wind (b : Waiting) (c : GrantClass) (n : Nat) : (s.joinList b c n).wind = s.wind := rfl
@[simp] theorem joinList_camp (b : Waiting) (c : GrantClass) (n : Nat) : (s.joinList b c n).camp = s.camp := rfl
@[simp] theorem joinList_snow (b : Waiting) (c : GrantClass) (n : Nat) : (s.joinList b c n).snow = s.snow := rfl
@[simp] theorem joinList_locks (b : Waiting) (c : GrantClass) (n : Nat) : (s.joinList b c n).locks = s.locks := rfl
@[simp] theorem joinList_bus (b : Waiting) (c : GrantClass) (n : Nat) : (s.joinList b c n).bus = s.bus := rfl
@[simp] theorem joinList_linkS (b : Waiting) (c : GrantClass) (n : Nat) : (s.joinList b c n).linkS = s.linkS := rfl
@[simp] theorem joinList_linkO (b : Waiting) (c : GrantClass) (n : Nat) : (s.joinList b c n).linkO = s.linkO := rfl
@[simp] theorem joinList_site (b : Waiting) (c : GrantClass) (n : Nat) : (s.joinList b c n).site = s.site := rfl
@[simp] theorem joinList_stats (b : Waiting) (c : GrantClass) (n : Nat) : (s.joinList b c n).stats = s.stats := rfl
@[simp] theorem joinList_choices (b : Waiting) (c : GrantClass) (n : Nat) : (s.joinList b c n).choices = s.choices := rfl
@[simp] theorem joinList_pending (b : Waiting) (c : GrantClass) (n : Nat) : (s.joinList b c n).pending = s.pending := rfl
@[simp] theorem joinList_power_feedLimit (b : Waiting) (c : GrantClass) (n : Nat) : (s.joinList b c n).power.feedLimit = s.power.feedLimit := rfl
@[simp] theorem joinList_power_motion (b : Waiting) (c : GrantClass) (n : Nat) : (s.joinList b c n).power.motion = s.power.motion := rfl
@[simp] theorem joinList_power_heat (b : Waiting) (c : GrantClass) (n : Nat) : (s.joinList b c n).power.heat = s.power.heat := rfl
@[simp] theorem joinList_power_admission (b : Waiting) (c : GrantClass) (n : Nat) : (s.joinList b c n).power.admission = s.power.admission := rfl
@[simp] theorem joinList_power_deficit (b : Waiting) (c : GrantClass) (n : Nat) : (s.joinList b c n).power.deficit = s.power.deficit := rfl

/-! ### The rewritten record, and the records that stay -/

@[simp] theorem modStn_stn_same (i : Stn) (f : Station → Station) : (s.modStn i f).stn i = f (s.stn i) := by
  simp [State.modStn, State.stn]
theorem modStn_stn_ne {i j : Stn} (f : Station → Station) (h : j ≠ i) : (s.modStn i f).stn j = s.stn j := by
  simp [State.modStn, State.stn, upd_get_ne _ _ h]
@[simp] theorem modStn_cab (i j : Stn) (f : Station → Station) : (s.modStn i f).cab j = s.cab j := rfl
@[simp] theorem modStn_chan (i j : Stn) (f : Station → Station) : (s.modStn i f).chan j = s.chan j := rfl
@[simp] theorem modStn_lock (i j : Stn) (f : Station → Station) : (s.modStn i f).lock j = s.lock j := rfl
@[simp] theorem modStn_motionGrant (i j : Stn) (f : Station → Station) : (s.modStn i f).motionGrant j = s.motionGrant j := rfl
@[simp] theorem modStn_heatGrant (i j : Stn) (f : Station → Station) : (s.modStn i f).heatGrant j = s.heatGrant j := rfl

@[simp] theorem modCab_cab_same (i : Stn) (f : Cabinet → Cabinet) : (s.modCab i f).cab i = f (s.cab i) := by
  simp [State.modCab, State.cab]
theorem modCab_cab_ne {i j : Stn} (f : Cabinet → Cabinet) (h : j ≠ i) : (s.modCab i f).cab j = s.cab j := by
  simp [State.modCab, State.cab, upd_get_ne _ _ h]
@[simp] theorem modCab_stn (i j : Stn) (f : Cabinet → Cabinet) : (s.modCab i f).stn j = s.stn j := rfl
@[simp] theorem modCab_chan (i j : Stn) (f : Cabinet → Cabinet) : (s.modCab i f).chan j = s.chan j := rfl
@[simp] theorem modCab_lock (i j : Stn) (f : Cabinet → Cabinet) : (s.modCab i f).lock j = s.lock j := rfl
@[simp] theorem modCab_motionGrant (i j : Stn) (f : Cabinet → Cabinet) : (s.modCab i f).motionGrant j = s.motionGrant j := rfl
@[simp] theorem modCab_heatGrant (i j : Stn) (f : Cabinet → Cabinet) : (s.modCab i f).heatGrant j = s.heatGrant j := rfl

@[simp] theorem modChan_chan_same (i : Stn) (f : Channel → Channel) : (s.modChan i f).chan i = f (s.chan i) := by
  simp [State.modChan, State.chan]
theorem modChan_chan_ne {i j : Stn} (f : Channel → Channel) (h : j ≠ i) : (s.modChan i f).chan j = s.chan j := by
  simp [State.modChan, State.chan, upd_get_ne _ _ h]
@[simp] theorem modChan_stn (i j : Stn) (f : Channel → Channel) : (s.modChan i f).stn j = s.stn j := rfl
@[simp] theorem modChan_cab (i j : Stn) (f : Channel → Channel) : (s.modChan i f).cab j = s.cab j := rfl
@[simp] theorem modChan_lock (i j : Stn) (f : Channel → Channel) : (s.modChan i f).lock j = s.lock j := rfl
@[simp] theorem modChan_motionGrant (i j : Stn) (f : Channel → Channel) : (s.modChan i f).motionGrant j = s.motionGrant j := rfl
@[simp] theorem modChan_heatGrant (i j : Stn) (f : Channel → Channel) : (s.modChan i f).heatGrant j = s.heatGrant j := rfl

@[simp] theorem modLock_lock_same (i : Stn) (f : LockRec → LockRec) : (s.modLock i f).lock i = f (s.lock i) := by
  simp [State.modLock, State.lock]
theorem modLock_lock_ne {i j : Stn} (f : LockRec → LockRec) (h : j ≠ i) : (s.modLock i f).lock j = s.lock j := by
  simp [State.modLock, State.lock, upd_get_ne _ _ h]
@[simp] theorem modLock_stn (i j : Stn) (f : LockRec → LockRec) : (s.modLock i f).stn j = s.stn j := rfl
@[simp] theorem modLock_cab (i j : Stn) (f : LockRec → LockRec) : (s.modLock i f).cab j = s.cab j := rfl
@[simp] theorem modLock_chan (i j : Stn) (f : LockRec → LockRec) : (s.modLock i f).chan j = s.chan j := rfl
@[simp] theorem modLock_motionGrant (i j : Stn) (f : LockRec → LockRec) : (s.modLock i f).motionGrant j = s.motionGrant j := rfl
@[simp] theorem modLock_heatGrant (i j : Stn) (f : LockRec → LockRec) : (s.modLock i f).heatGrant j = s.heatGrant j := rfl

@[simp] theorem modMotionGrant_motionGrant_same (i : Stn) (f : Grant → Grant) : (s.modMotionGrant i f).motionGrant i = f (s.motionGrant i) := by
  simp [State.modMotionGrant, State.motionGrant]
theorem modMotionGrant_motionGrant_ne {i j : Stn} (f : Grant → Grant) (h : j ≠ i) : (s.modMotionGrant i f).motionGrant j = s.motionGrant j := by
  simp [State.modMotionGrant, State.motionGrant, upd_get_ne _ _ h]
@[simp] theorem modMotionGrant_stn (i j : Stn) (f : Grant → Grant) : (s.modMotionGrant i f).stn j = s.stn j := rfl
@[simp] theorem modMotionGrant_cab (i j : Stn) (f : Grant → Grant) : (s.modMotionGrant i f).cab j = s.cab j := rfl
@[simp] theorem modMotionGrant_chan (i j : Stn) (f : Grant → Grant) : (s.modMotionGrant i f).chan j = s.chan j := rfl
@[simp] theorem modMotionGrant_lock (i j : Stn) (f : Grant → Grant) : (s.modMotionGrant i f).lock j = s.lock j := rfl
@[simp] theorem modMotionGrant_heatGrant (i j : Stn) (f : Grant → Grant) : (s.modMotionGrant i f).heatGrant j = s.heatGrant j := rfl

@[simp] theorem modHeatGrant_heatGrant_same (i : Stn) (f : Grant → Grant) : (s.modHeatGrant i f).heatGrant i = f (s.heatGrant i) := by
  simp [State.modHeatGrant, State.heatGrant]
theorem modHeatGrant_heatGrant_ne {i j : Stn} (f : Grant → Grant) (h : j ≠ i) : (s.modHeatGrant i f).heatGrant j = s.heatGrant j := by
  simp [State.modHeatGrant, State.heatGrant, upd_get_ne _ _ h]
@[simp] theorem modHeatGrant_stn (i j : Stn) (f : Grant → Grant) : (s.modHeatGrant i f).stn j = s.stn j := rfl
@[simp] theorem modHeatGrant_cab (i j : Stn) (f : Grant → Grant) : (s.modHeatGrant i f).cab j = s.cab j := rfl
@[simp] theorem modHeatGrant_chan (i j : Stn) (f : Grant → Grant) : (s.modHeatGrant i f).chan j = s.chan j := rfl
@[simp] theorem modHeatGrant_lock (i j : Stn) (f : Grant → Grant) : (s.modHeatGrant i f).lock j = s.lock j := rfl
@[simp] theorem modHeatGrant_motionGrant (i j : Stn) (f : Grant → Grant) : (s.modHeatGrant i f).motionGrant j = s.motionGrant j := rfl

@[simp] theorem setPark_park_same (i : Stn) (p : Option ParkStep) : (s.setPark i p).park i = p := by
  simp [State.setPark, State.park]
theorem setPark_park_ne {i j : Stn} (p : Option ParkStep) (h : j ≠ i) : (s.setPark i p).park j = s.park j := by
  simp [State.setPark, State.park, upd_get_ne _ _ h]
@[simp] theorem modStnStats_same (i : Stn) (f : StnStats → StnStats) :
    (s.modStnStats i f).stats.stn.get i = f (s.stats.stn.get i) := by simp [State.modStnStats]
theorem modStnStats_ne {i j : Stn} (f : StnStats → StnStats) (h : j ≠ i) :
    (s.modStnStats i f).stats.stn.get j = s.stats.stn.get j := by simp [State.modStnStats, upd_get_ne _ _ h]

/-! ### Links and lines -/

@[simp] theorem modLink_link_same (l : Link) (f : LinkState → LinkState) : (s.modLink l f).link l = f (s.link l) := by
  cases l <;> rfl
theorem modLink_link_ne {l m : Link} (f : LinkState → LinkState) (h : m ≠ l) : (s.modLink l f).link m = s.link m := by
  cases l <;> cases m <;> first | rfl | exact absurd rfl h
theorem modLink_modLink (l : Link) (f g : LinkState → LinkState) :
    (s.modLink l f).modLink l g = s.modLink l (g ∘ f) := by cases l <;> rfl
@[simp] theorem modLink_clock (l : Link) (f : LinkState → LinkState) : (s.modLink l f).clock = s.clock := by cases l <;> rfl
@[simp] theorem modLink_cfg (l : Link) (f : LinkState → LinkState) : (s.modLink l f).cfg = s.cfg := by cases l <;> rfl
@[simp] theorem modLink_stns (l : Link) (f : LinkState → LinkState) : (s.modLink l f).stns = s.stns := by cases l <;> rfl
@[simp] theorem modLink_sched (l : Link) (f : LinkState → LinkState) : (s.modLink l f).sched = s.sched := by cases l <;> rfl
@[simp] theorem modLink_oper (l : Link) (f : LinkState → LinkState) : (s.modLink l f).oper = s.oper := by cases l <;> rfl
@[simp] theorem modLink_power (l : Link) (f : LinkState → LinkState) : (s.modLink l f).power = s.power := by cases l <;> rfl
@[simp] theorem modLink_wind (l : Link) (f : LinkState → LinkState) : (s.modLink l f).wind = s.wind := by cases l <;> rfl
@[simp] theorem modLink_camp (l : Link) (f : LinkState → LinkState) : (s.modLink l f).camp = s.camp := by cases l <;> rfl
@[simp] theorem modLink_snow (l : Link) (f : LinkState → LinkState) : (s.modLink l f).snow = s.snow := by cases l <;> rfl
@[simp] theorem modLink_locks (l : Link) (f : LinkState → LinkState) : (s.modLink l f).locks = s.locks := by cases l <;> rfl
@[simp] theorem modLink_bus (l : Link) (f : LinkState → LinkState) : (s.modLink l f).bus = s.bus := by cases l <;> rfl
@[simp] theorem modLink_site (l : Link) (f : LinkState → LinkState) : (s.modLink l f).site = s.site := by cases l <;> rfl
@[simp] theorem modLink_stats (l : Link) (f : LinkState → LinkState) : (s.modLink l f).stats = s.stats := by cases l <;> rfl
@[simp] theorem modLink_choices (l : Link) (f : LinkState → LinkState) : (s.modLink l f).choices = s.choices := by cases l <;> rfl
@[simp] theorem modLink_pending (l : Link) (f : LinkState → LinkState) : (s.modLink l f).pending = s.pending := by cases l <;> rfl

@[simp] theorem modLine_clock (ln : Line) (f : LineStats → LineStats) : (s.modLine ln f).clock = s.clock := by cases ln <;> rfl
@[simp] theorem modLine_cfg (ln : Line) (f : LineStats → LineStats) : (s.modLine ln f).cfg = s.cfg := by cases ln <;> rfl
@[simp] theorem modLine_stns (ln : Line) (f : LineStats → LineStats) : (s.modLine ln f).stns = s.stns := by cases ln <;> rfl
@[simp] theorem modLine_sched (ln : Line) (f : LineStats → LineStats) : (s.modLine ln f).sched = s.sched := by cases ln <;> rfl
@[simp] theorem modLine_oper (ln : Line) (f : LineStats → LineStats) : (s.modLine ln f).oper = s.oper := by cases ln <;> rfl
@[simp] theorem modLine_power (ln : Line) (f : LineStats → LineStats) : (s.modLine ln f).power = s.power := by cases ln <;> rfl
@[simp] theorem modLine_wind (ln : Line) (f : LineStats → LineStats) : (s.modLine ln f).wind = s.wind := by cases ln <;> rfl
@[simp] theorem modLine_camp (ln : Line) (f : LineStats → LineStats) : (s.modLine ln f).camp = s.camp := by cases ln <;> rfl
@[simp] theorem modLine_snow (ln : Line) (f : LineStats → LineStats) : (s.modLine ln f).snow = s.snow := by cases ln <;> rfl
@[simp] theorem modLine_locks (ln : Line) (f : LineStats → LineStats) : (s.modLine ln f).locks = s.locks := by cases ln <;> rfl
@[simp] theorem modLine_bus (ln : Line) (f : LineStats → LineStats) : (s.modLine ln f).bus = s.bus := by cases ln <;> rfl
@[simp] theorem modLine_linkS (ln : Line) (f : LineStats → LineStats) : (s.modLine ln f).linkS = s.linkS := by cases ln <;> rfl
@[simp] theorem modLine_linkO (ln : Line) (f : LineStats → LineStats) : (s.modLine ln f).linkO = s.linkO := by cases ln <;> rfl
@[simp] theorem modLine_site (ln : Line) (f : LineStats → LineStats) : (s.modLine ln f).site = s.site := by cases ln <;> rfl
@[simp] theorem modLine_choices (ln : Line) (f : LineStats → LineStats) : (s.modLine ln f).choices = s.choices := by cases ln <;> rfl
@[simp] theorem modLine_pending (ln : Line) (f : LineStats → LineStats) : (s.modLine ln f).pending = s.pending := by cases ln <;> rfl
@[simp] theorem modLine_line_same (ln : Line) (f : LineStats → LineStats) :
    (s.modLine ln f).stats.line ln = f (s.stats.line ln) := by cases ln <;> rfl
@[simp] theorem modLine_stn (ln : Line) (f : LineStats → LineStats) : (s.modLine ln f).stats.stn = s.stats.stn := by
  cases ln <;> rfl
@[simp] theorem modLine_link (ln : Line) (l : Link) (f : LineStats → LineStats) : (s.modLine ln f).link l = s.link l := by
  cases ln <;> cases l <;> rfl

@[simp] theorem notice_clock (l : Link) (x : NoticeFlag) : (s.notice l x).clock = s.clock := by simp [State.notice]
@[simp] theorem noticeBoth_clock (x : NoticeFlag) : (s.noticeBoth x).clock = s.clock := by simp [State.noticeBoth]
@[simp] theorem notice_cfg (l : Link) (x : NoticeFlag) : (s.notice l x).cfg = s.cfg := by simp [State.notice]
@[simp] theorem noticeBoth_cfg (x : NoticeFlag) : (s.noticeBoth x).cfg = s.cfg := by simp [State.noticeBoth]
@[simp] theorem notice_stns (l : Link) (x : NoticeFlag) : (s.notice l x).stns = s.stns := by simp [State.notice]
@[simp] theorem noticeBoth_stns (x : NoticeFlag) : (s.noticeBoth x).stns = s.stns := by simp [State.noticeBoth]
@[simp] theorem notice_sched (l : Link) (x : NoticeFlag) : (s.notice l x).sched = s.sched := by simp [State.notice]
@[simp] theorem noticeBoth_sched (x : NoticeFlag) : (s.noticeBoth x).sched = s.sched := by simp [State.noticeBoth]
@[simp] theorem notice_oper (l : Link) (x : NoticeFlag) : (s.notice l x).oper = s.oper := by simp [State.notice]
@[simp] theorem noticeBoth_oper (x : NoticeFlag) : (s.noticeBoth x).oper = s.oper := by simp [State.noticeBoth]
@[simp] theorem notice_power (l : Link) (x : NoticeFlag) : (s.notice l x).power = s.power := by simp [State.notice]
@[simp] theorem noticeBoth_power (x : NoticeFlag) : (s.noticeBoth x).power = s.power := by simp [State.noticeBoth]
@[simp] theorem notice_wind (l : Link) (x : NoticeFlag) : (s.notice l x).wind = s.wind := by simp [State.notice]
@[simp] theorem noticeBoth_wind (x : NoticeFlag) : (s.noticeBoth x).wind = s.wind := by simp [State.noticeBoth]
@[simp] theorem notice_camp (l : Link) (x : NoticeFlag) : (s.notice l x).camp = s.camp := by simp [State.notice]
@[simp] theorem noticeBoth_camp (x : NoticeFlag) : (s.noticeBoth x).camp = s.camp := by simp [State.noticeBoth]
@[simp] theorem notice_snow (l : Link) (x : NoticeFlag) : (s.notice l x).snow = s.snow := by simp [State.notice]
@[simp] theorem noticeBoth_snow (x : NoticeFlag) : (s.noticeBoth x).snow = s.snow := by simp [State.noticeBoth]
@[simp] theorem notice_locks (l : Link) (x : NoticeFlag) : (s.notice l x).locks = s.locks := by simp [State.notice]
@[simp] theorem noticeBoth_locks (x : NoticeFlag) : (s.noticeBoth x).locks = s.locks := by simp [State.noticeBoth]
@[simp] theorem notice_bus (l : Link) (x : NoticeFlag) : (s.notice l x).bus = s.bus := by simp [State.notice]
@[simp] theorem noticeBoth_bus (x : NoticeFlag) : (s.noticeBoth x).bus = s.bus := by simp [State.noticeBoth]
@[simp] theorem notice_site (l : Link) (x : NoticeFlag) : (s.notice l x).site = s.site := by simp [State.notice]
@[simp] theorem noticeBoth_site (x : NoticeFlag) : (s.noticeBoth x).site = s.site := by simp [State.noticeBoth]
@[simp] theorem notice_stats (l : Link) (x : NoticeFlag) : (s.notice l x).stats = s.stats := by simp [State.notice]
@[simp] theorem noticeBoth_stats (x : NoticeFlag) : (s.noticeBoth x).stats = s.stats := by simp [State.noticeBoth]
@[simp] theorem notice_choices (l : Link) (x : NoticeFlag) : (s.notice l x).choices = s.choices := by simp [State.notice]
@[simp] theorem noticeBoth_choices (x : NoticeFlag) : (s.noticeBoth x).choices = s.choices := by simp [State.noticeBoth]
@[simp] theorem notice_pending (l : Link) (x : NoticeFlag) : (s.notice l x).pending = s.pending := by simp [State.notice]
@[simp] theorem noticeBoth_pending (x : NoticeFlag) : (s.noticeBoth x).pending = s.pending := by simp [State.noticeBoth]

end Machine

end Sys2Proof
end

