-- ==== Sys2Proof/Laws/Ops.lean ====
section
/-! SUPPORT. For each shared operation, what it can do, said once. -/

namespace Sys2Proof.Machine

/-! ### Outcomes of exec -/

/-- Every command answers a next state. -/
theorem exec_next (c : Instr) (s : State) : ∃ t, exec c s = .next t := by
  cases c <;> first
    | exact ⟨_, rfl⟩
    | (simp only [exec, execPanelSilenceExpiry, execWarningExpiry, execSilenceExpiry, execDwellExpiry, execDeadlineExpiry,
        execClearTimerExpiry, execTimerAExpiry, execTimerBExpiry, execIdleExpiry, State.expire]
       split <;> exact ⟨_, rfl⟩)

/-- A step on a waiting command is exec of it. -/
theorem step_cons {s : State} {c : Instr} {rest : List Instr} (h : s.pending = c :: rest) :
    step s = exec c { s with pending := rest } := by simp [step, h]

/-- Every step answers a next state. -/
theorem step_next (s : State) : ∃ t, step s = .next t := by
  unfold step idle
  split
  · exact exec_next _ _
  · split
    · exact exec_next _ _
    · exact ⟨_, rfl⟩

/-- An expiry that is due. -/
theorem expire_due (s : State) (f : State → State) : s.expire true f = .next (settle false s (f s)) := rfl

/-- An expiry that is not due. -/
theorem expire_not (s : State) (f : State → State) : s.expire false f = .next s := rfl

/-! ### Taking a request -/

/-- The request that a ready link takes. -/
theorem requestFor_ready {s : State} {l : Link} {f : Frame} {k : Byte} (h : Ready s l f k) :
    s.requestFor l (requestOf l k) = some f := by
  obtain ⟨h1, h2, h3⟩ := h
  unfold State.requestFor
  cases hf : (s.link l).fifo with
  | nil => simp [hf] at h1
  | cons g gs =>
    have e : g = f := by simpa [hf] using h1
    simp [e, h2, h3]

/-- A ready request that may change state. -/
theorem takeRequest_ready {s : State} {l : Link} {f : Frame} {k : Byte} (h : Ready s l f k)
    (g : State → List Byte → Result) :
    s.takeRequest l (requestOf l k) g =
      (if (g (s.openRequest l f) f.payload).code = .done then
        settle (g (s.openRequest l f) f.payload).force (s.openRequest l f) (g (s.openRequest l f) f.payload).state
      else (g (s.openRequest l f) f.payload).state).answer l f.kind (g (s.openRequest l f) f.payload).code
        (g (s.openRequest l f) f.payload).data := by
  simp only [State.takeRequest, requestFor_ready h]

/-- A ready query. -/
theorem takeQuery_ready {s : State} {l : Link} {f : Frame} {k : Byte} (h : Ready s l f k)
    (q : State → List Byte → Code × List Byte) :
    s.takeQuery l (requestOf l k) q =
      (s.openRequest l f).answer l f.kind (q (s.openRequest l f) f.payload).1 (q (s.openRequest l f) f.payload).2 := by
  simp only [State.takeQuery, requestFor_ready h]

/-- The opening of a request touches its link only. -/
theorem openRequest_onlyLink (s : State) (l : Link) (f : Frame) : OnlyLink l s (s.openRequest l f) := by
  unfold State.openRequest; exact ⟨_, rfl⟩

/-- The answer of a request touches its link only. -/
theorem answer_onlyLink (s : State) (l : Link) (k : Byte) (c : Code) (d : List Byte) : OnlyLink l s (s.answer l k c d) :=
  ⟨_, rfl⟩

/-! ### The transmit order -/

/-- A frame placed at the tail goes out after those that went out before. -/
theorem outgoing_placeTail (k : LinkState) (f : Frame) (h : k.sending = none → k.order = []) :
    (k.placeTail f).outgoing = k.outgoing ++ [f] := by
  cases hs : k.sending with
  | none => simp [LinkState.placeTail, LinkState.outgoing, hs, h hs]
  | some g => simp [LinkState.placeTail, LinkState.outgoing, hs]

/-- The membership of a frame placed at the tail. -/
theorem mem_placeTail (k : LinkState) (f g : Frame) : g ∈ (k.placeTail f).outgoing ↔ g ∈ k.outgoing ∨ g = f := by
  cases hs : k.sending <;> simp [LinkState.placeTail, LinkState.outgoing, hs, or_comm, or_left_comm]

/-- A frame placed at the tail leaves the FIFO and the flags. -/
@[simp] theorem placeTail_fifo (k : LinkState) (f : Frame) : (k.placeTail f).fifo = k.fifo := by
  cases hs : k.sending <;> simp [LinkState.placeTail, hs]

/-- A frame placed at the tail leaves the flags. -/
@[simp] theorem placeTail_flags (k : LinkState) (f : Frame) : (k.placeTail f).flags = k.flags := by
  cases hs : k.sending <;> simp [LinkState.placeTail, hs]

/-! ### Counters and grants -/

/-- A counter stays in 16 bits. -/
theorem bump_fits {n : Nat} (h : fits16 n) : fits16 (bump n) := by
  unfold fits16 at *; unfold bump; split <;> omega

/-- A counter never falls. -/
theorem bump_ge (n : Nat) : n ≤ bump n := by unfold bump; split <;> omega

/-- The normal form of a grant is clean. -/
theorem norm_clean (g : Grant) : g.norm.clean := by
  intro h
  unfold Grant.norm at *
  split at h <;> rename_i k <;> simp_all

/-- The normal form keeps the amount. -/
@[simp] theorem norm_amount (g : Grant) : g.norm.amount = g.amount := by unfold Grant.norm; split <;> rfl

/-- The normal form keeps the hold. -/
@[simp] theorem norm_hold (g : Grant) : g.norm.hold = g.hold := by unfold Grant.norm; split <;> rfl

/-- The amount that was set. -/
@[simp] theorem setAmount_amount (g : Grant) (n : Nat) : (g.setAmount n).amount = n := by simp [Grant.setAmount]

/-- A grant whose amount was set is clean. -/
theorem setAmount_clean (g : Grant) (n : Nat) : (g.setAmount n).clean := norm_clean _

/-- A grant that loses its flags stays clean. -/
theorem freeze_clean {g : Grant} (h : g.clean) : g.freeze.clean := by
  intro k; obtain ⟨a, b, c, d, _, _, _⟩ := h k; simp [Grant.freeze, a, b, c, d]

/-- The normal form of a grant that has a class, or none and no amount, is classed. -/
theorem norm_classed {g : Grant} (h : g.classed) : g.norm.classed := by
  intro k
  rw [norm_amount]
  unfold Grant.norm at k
  split at k
  · assumption
  · exact h k

/-- A grant whose amount was set stays classed, if it had a class or the amount is no more than before. -/
theorem setAmount_classed {g : Grant} {n : Nat} (h : g.classed) (k : n ≤ g.amount) : (g.setAmount n).classed := by
  refine norm_classed fun e => ?_
  have a : g.amount = 0 := h e
  simp only; omega

/-- A grant that loses its flags stays classed. -/
theorem freeze_classed {g : Grant} (h : g.classed) : g.freeze.classed := h

/-- An admitted grant is priced from the phase parameters of its plan, whatever the configuration holds later (R37). -/
theorem admitted_pricedFrom (g : Grant) (k : GrantClass) (q : BitVec 32) (p : Plan) (c : Params) (h : p.amount ≠ 0) :
    (g.admitted k q p).pricedFrom c = p.phaseP ∧ (g.admitted k q p).surcharge = some p.surcharge := by
  simp [Grant.admitted, Grant.norm, h, Grant.pricedFrom]

/-! ### Joins of the campaign -/

/-- What a join of its own can do: where nothing joined the list, the join alone; otherwise power is judged before it and after it. -/
theorem ownJoin_cases (f : State → State) (x : State × State) :
    ((f x.2).power.arrival = x.2.power.arrival ∧ ownJoin f x = (x.1, f x.2)) ∨
      ((f x.2).power.arrival ≠ x.2.power.arrival ∧
        (ownJoin f x).2 = judgePower false (judgePower false x.1 x.2) (f (judgePower false x.1 x.2)) ∧
        (ownJoin f x).1 = (ownJoin f x).2) := by
  unfold ownJoin
  split
  · exact .inl ⟨‹_›, rfl⟩
  · exact .inr ⟨‹_›, rfl, rfl⟩

/-! ### The motion queues -/

/-- The next action of the scheduler queue is that of its first group that completes or may dispatch: no group before it is complete (R45). -/
theorem findGroup_cases {s : State} {l : List Group} {b : List Stn} {a : QueueAct} (h : s.findGroup l b = some a) :
    ∃ front g back, l = front ++ g :: back ∧ (∀ x ∈ front, x.complete = false) ∧
      ((g.complete = true ∧ a = .groupDone g) ∨
        (g.complete = false ∧ s.queueOpen = true ∧ s.mayDispatch (b ++ front.flatMap Group.stations) g = true ∧
          a = .groupGo g)) := by
  induction l generalizing b with
  | nil => simp [State.findGroup] at h
  | cons g l ih =>
    rw [State.findGroup] at h
    split at h
    · exact ⟨[], g, l, rfl, by simp, .inl ⟨‹_›, (Option.some.inj h).symm⟩⟩
    · split at h
      · refine ⟨[], g, l, rfl, by simp, .inr ?_⟩
        simp_all
      · obtain ⟨front, x, back, rfl, hf, hx⟩ := ih h
        exact ⟨g :: front, x, back, rfl, by simp_all, by simpa using hx⟩

/-! ### Deficit and wind -/

/-- What the judgement of the deficit can do: nothing within AVAIL, and above it the entry and the actions. -/
theorem judgeDeficit_cases (s : State) :
    (s.total ≤ s.avail ∧ s.judgeDeficit = s) ∨
      (s.avail < s.total ∧ s.judgeDeficit = s.enterDeficit.deficitActs deficitFuel) := by
  unfold State.judgeDeficit
  split
  · exact .inr ⟨‹_›, rfl⟩
  · exact .inl ⟨by omega, rfl⟩

/-- After the entry, the deficit holds. -/
@[simp] theorem enterDeficit_deficit (s : State) : s.enterDeficit.power.deficit = true := by
  unfold State.enterDeficit
  split
  · assumption
  · simp only [State.setDeficit, noticeBoth_power]

/-- An evaluation is the judgement of its steps, with the dwell expiry that it forestalls kept. -/
theorem evaluate_eq (w : Wind) (c : Params) (now : Nat) (e : Bool) :
    w.evaluate c now e = { w.judge c now e with lapsed := (w.evaluate c now e).lapsed } := rfl

/-- An evaluation keeps a dwell expiry that has come, unless it is that expiry's own (R94). -/
theorem evaluate_dwellEvent {w : Wind} {c : Params} {now : Nat} (h : w.dwellEvent now = true) :
    (w.evaluate c now false).dwellEvent now = true := by
  have d : (w.evaluate c now false).dwellDue now = (w.judge c now false).dwellDue now := rfl
  have l : (w.evaluate c now false).lapsed =
    (w.lapsed || (w.dwellDue now && !(w.judge c now false).dwellDue now)) := rfl
  unfold Wind.dwellEvent at h ⊢
  rw [d, l]
  revert h
  cases w.lapsed <;> cases w.dwellDue now <;> cases (w.judge c now false).dwellDue now <;> decide

/-- A heard frame moves the silence expiry with its sample, and leaves it without one (R91). -/
theorem hear_silence (m : Mast) (l : List (Option Nat)) (silence now : Nat) :
    (m.hear l silence now).silence = if validReadings l = [] then m.silence else some (now + seconds silence + 1) := by
  unfold Mast.hear
  split <;> simp_all [Mast.take]

/-! ### Releases -/

/-- A release phase that no longer fits is WARNING away from rest or WAIT_REST at rest. -/
theorem releaseStale_iff (s : State) (i : Stn) :
    s.releaseStale i = true ↔
      ((s.lock i).phase = .warning ∧ (s.stn i).motion.isResting = false) ∨
        ((s.lock i).phase = .waitRest ∧ (s.stn i).motion.isResting = true) := by
  unfold State.releaseStale
  cases h : (s.lock i).phase <;> simp

/-- What the judgement of rest can do: where the phase fits the motion state, nothing; otherwise the release and the status are judged. -/
theorem judgeRest_cases (s : State) (i : Stn) :
    (s.releaseStale i = false ∧ s.judgeRest i = s) ∨ (s.releaseStale i = true ∧ s.judgeRest i = s.judgeLock i) := by
  unfold State.judgeRest
  cases s.releaseStale i <;> simp

/-- A judged release that leaves WARNING standing does so only at rest. -/
theorem judgeRelease_warning {r : LockRec} {d rest : Bool} {now w : Nat}
    (h : (r.judgeRelease d rest now w).phase = .warning) : rest = true := by
  unfold LockRec.judgeRelease at h
  cases rest
  · split at h
    · cases h
    · split at h <;> split at h <;> simp_all
  · rfl

/-! ### Command slots -/

/-- A stow never has a STOP in hand. -/
@[simp] theorem stowCmd_stop (st : RosterStatus) : st.stowCmd .stop = false := by cases st <;> rfl

/-- The motion commands that a stow has in hand: the MOVE of a moving one, the BRAKE of a braking one. -/
theorem stowCmd_iff (st : RosterStatus) (c : MotionCmd) :
    st.stowCmd c = true ↔ (st = .moving ∧ c.isMove = true) ∨ (st = .braking ∧ c = .brake) := by
  cases st <;> cases c <;> simp [RosterStatus.stowCmd, MotionCmd.isMove, MotionCmd.isBrake]

/-- What stands in the motion slot after a command is placed. -/
@[simp] theorem placeMotion_motion (s : State) (i : Stn) (c : MotionCmd) : ((s.placeMotion i c).cab i).motion = some c := by
  unfold State.placeMotion; split <;> simp [Cabinet.overtake]

/-- Placing a motion command leaves every other cabinet. -/
theorem placeMotion_cab_ne (s : State) {i j : Stn} (c : MotionCmd) (h : j ≠ i) : (s.placeMotion i c).cab j = s.cab j := by
  unfold State.placeMotion; split <;> simp [modCab_cab_ne _ _ h]

/-- Placing a motion command leaves every station record. -/
@[simp] theorem placeMotion_stns (s : State) (i : Stn) (c : MotionCmd) : (s.placeMotion i c).stns = s.stns := by
  unfold State.placeMotion; split <;> simp

/-- Placing a motion command changes no amount. -/
theorem placeMotion_amount (s : State) (i j : Stn) (c : MotionCmd) :
    ((s.placeMotion i c).motionGrant j).amount = (s.motionGrant j).amount := by
  unfold State.placeMotion
  split
  · by_cases h : j = i
    · subst h; simp
    · simp [modMotionGrant_motionGrant_ne _ _ h]
  · simp

/-- What stands in the heater slot after a command is placed. -/
@[simp] theorem placeHeat_heat (s : State) (i : Stn) (c : HeatCmd) : ((s.placeHeat i c).cab i).heat = some c := by
  simp [State.placeHeat, Cabinet.overtake]

/-- What stands in the pin slot after a command is placed. -/
@[simp] theorem placePin_pin (s : State) (i : Stn) (c : PinCmd) : ((s.placePin i c).cab i).pin = some c := by
  simp [State.placePin, Cabinet.overtake]

/-! ### Motion states -/

/-- Setting the idle-since time leaves the motion state and the owner. -/
theorem setIdle_stn (s : State) (i j : Stn) (t : Option Nat) :
    ((s.setIdle i t).stn j).motion = (s.stn j).motion ∧ ((s.setIdle i t).stn j).owner = (s.stn j).owner ∧
      ((s.setIdle i t).stn j).enabled = (s.stn j).enabled := by
  by_cases h : j = i
  · subst h; simp [State.setIdle, State.stn, State.modStn]
  · simp [State.setIdle, State.stn, State.modStn, upd_get_ne _ _ h]

/-- Setting the idle-since time leaves every other station. -/
theorem setIdle_stn_ne (s : State) {i j : Stn} (t : Option Nat) (h : j ≠ i) : (s.setIdle i t).stn j = s.stn j := by
  simp [State.setIdle, State.stn, State.modStn, upd_get_ne _ _ h]

/-- Two states with the same station table. -/
theorem stn_of_stns {s t : State} (h : s.stns = t.stns) (j : Stn) : s.stn j = t.stn j := by simp [State.stn, h]

/-- What a station record reads after its motion state is set. -/
theorem setMotion_stn (s : State) (i : Stn) (m : Motion) :
    ((s.setMotion i m).stn i).motion = m ∧ ((s.setMotion i m).stn i).owner = (s.stn i).owner ∧
      ((s.setMotion i m).stn i).enabled = (s.stn i).enabled := by
  unfold State.setMotion
  simp only
  split
  · simp_all
  · have key : ∀ t : State, ∀ b : Bool, (if b then t.noticeBoth .station else t).stn i = t.stn i := by
      intro t b; cases b <;> simp [State.stn]
    have key2 : ∀ t : State, ∀ b : Bool,
        (if b then t.modMotionGrant i fun g => { g with awaiting := false } else t).stn i = t.stn i := by
      intro t b; cases b <;> simp
    rw [key, key2]
    split
    · obtain ⟨a, b, c⟩ := setIdle_stn (s.modStn i fun r =>
        { r with motion := m, posture := none, az := if m.isMoving then r.az else { r.az with target := none }
                 el := if m.isMoving then r.el else { r.el with target := none } }) i i (some s.clock)
      simp only [modStn_clock]
      rw [a, b, c]; simp
    · split
      · obtain ⟨a, b, c⟩ := setIdle_stn (s.modStn i fun r =>
          { r with motion := m, posture := none, az := if m.isMoving then r.az else { r.az with target := none }
                   el := if m.isMoving then r.el else { r.el with target := none } }) i i none
        rw [a, b, c]; simp
      · simp

/-- Setting a motion state leaves every other station. -/
theorem setMotion_stn_ne (s : State) {i j : Stn} (m : Motion) (h : j ≠ i) : (s.setMotion i m).stn j = s.stn j := by
  unfold State.setMotion
  simp only
  split
  · rfl
  · have key : ∀ t : State, ∀ b : Bool, (if b then t.noticeBoth .station else t).stn j = t.stn j := by
      intro t b; cases b <;> simp [State.stn]
    have key2 : ∀ t : State, ∀ b : Bool,
        (if b then t.modMotionGrant i fun g => { g with awaiting := false } else t).stn j = t.stn j := by
      intro t b; cases b <;> simp
    rw [key, key2]
    split
    · rw [setIdle_stn_ne _ _ h, modStn_stn_ne _ _ h]
    · split
      · rw [setIdle_stn_ne _ _ h, modStn_stn_ne _ _ h]
      · rw [modStn_stn_ne _ _ h]

/-- Setting a motion state leaves the records of the other blocks. -/
theorem setMotion_rest (s : State) (i : Stn) (m : Motion) :
    (s.setMotion i m).bus = s.bus ∧ (s.setMotion i m).locks = s.locks ∧ (s.setMotion i m).cfg = s.cfg ∧
      (s.setMotion i m).clock = s.clock ∧ (s.setMotion i m).sched = s.sched ∧ (s.setMotion i m).oper = s.oper ∧
      (s.setMotion i m).camp = s.camp ∧ (s.setMotion i m).wind = s.wind ∧ (s.setMotion i m).stats = s.stats ∧
      (s.setMotion i m).pending = s.pending ∧ (s.setMotion i m).power.list = s.power.list ∧
      (s.setMotion i m).power.heat = s.power.heat := by
  unfold State.setMotion
  simp only
  split
  · simp
  · split <;> split <;> (try split) <;> (try split) <;> simp [State.setIdle]

/-! ### Owners -/

/-- Withdrawing a motion command leaves every station record. -/
@[simp] theorem withdrawMotion_stns (s : State) (i : Stn) (p : MotionCmd → Bool) : (s.withdrawMotion i p).stns = s.stns := by
  unfold State.withdrawMotion
  split
  · simp only; split
    · split <;> simp
    · rfl
  · simp

/-- Withdrawing a pin command leaves every station record. -/
@[simp] theorem withdrawPin_stns (s : State) (i : Stn) (c : PinCmd) : (s.withdrawPin i c).stns = s.stns := by
  unfold State.withdrawPin
  split
  · split <;> simp
  · simp

/-- Giving an outcome clears the owner and changes nothing else of the station table. -/
theorem giveOutcome_stns (s : State) (i : Stn) (o : MoveOutcome) :
    (s.giveOutcome i o).stns = (s.modStn i fun r => { r with owner := none }).stns := by
  unfold State.giveOutcome
  split
  · rename_i h
    simp only [State.modStn]
    have e : upd s.stns i (fun r => { r with owner := none }) = s.stns := by
      apply Vector.ext
      intro k hk
      have g : (⟨k, hk⟩ : Fin 32) = i ∨ (⟨k, hk⟩ : Fin 32) ≠ i := Decidable.em _
      rcases g with g | g
      · subst g
        have a := upd_get_same s.stns ⟨k, hk⟩ (fun r : Station => { r with owner := none })
        simp only [Vector.get_eq_getElem] at a
        rw [a]
        simp only [State.stn, Vector.get_eq_getElem] at h
        generalize s.stns[k] = r at h ⊢
        cases r; simp_all
      · have a := upd_get_ne s.stns (fun r : Station => { r with owner := none }) g
        simpa only [Vector.get_eq_getElem] using a
    exact e.symm
  · simp only
    split
    · rfl
    · rfl
    · simp [State.stowOutcome]
    · simp only [State.snowOutcome]
      split <;> simp

/-- The owner after an outcome. -/
@[simp] theorem giveOutcome_owner (s : State) (i : Stn) (o : MoveOutcome) : ((s.giveOutcome i o).stn i).owner = none := by
  rw [stn_of_stns (giveOutcome_stns s i o)]; simp

/-- The motion state after an outcome. -/
@[simp] theorem giveOutcome_motion (s : State) (i : Stn) (o : MoveOutcome) :
    ((s.giveOutcome i o).stn i).motion = (s.stn i).motion := by
  rw [stn_of_stns (giveOutcome_stns s i o)]; simp

/-- Any other station after an outcome. -/
theorem giveOutcome_stn_ne (s : State) {i j : Stn} (o : MoveOutcome) (h : j ≠ i) : (s.giveOutcome i o).stn j = s.stn j := by
  rw [stn_of_stns (giveOutcome_stns s i o), modStn_stn_ne _ _ h]

/-! ### Sorted lists -/

/-- What an insertion holds. -/
theorem mem_insertBy {α : Type} (b : α → α → Bool) (x y : α) (l : List α) :
    y ∈ insertBy b x l ↔ y = x ∨ y ∈ l := by
  induction l with
  | nil => simp [insertBy]
  | cons a l ih =>
    simp only [insertBy]
    split
    · simp
    · simp [ih, or_left_comm]

/-- What a sorted list holds. -/
theorem mem_sortBy {α : Type} (b : α → α → Bool) (y : α) (l : List α) : y ∈ sortBy b l ↔ y ∈ l := by
  induction l with
  | nil => simp [sortBy]
  | cons a l ih =>
    have e : sortBy b (a :: l) = insertBy b a (sortBy b l) := rfl
    rw [e, mem_insertBy, ih]; simp

/-- The head of the admission list is an entry of it that is not passed over. -/
theorem head_mem {s : State} {e : Entry} (h : s.head? = some e) : e ∈ s.power.list ∧ s.passedOver e = false := by
  have m := List.mem_of_find?_eq_some h
  have p := List.find?_some h
  exact ⟨(mem_sortBy _ _ _).1 m, by simpa using p⟩

/-! ### Rounding -/

/-- A ceiling of a quotient is the least number that covers it. -/
theorem ceilDiv_le_iff {n d t : Nat} (h : 0 < d) : ceilDiv n d ≤ t ↔ n ≤ t * d := by
  unfold ceilDiv
  constructor
  · intro k
    have a : (n + d - 1) / d < t + 1 := by omega
    have b := (Nat.div_lt_iff_lt_mul h).1 a
    have c : (t + 1) * d = t * d + d := Nat.succ_mul t d
    omega
  · intro k
    have c : (t + 1) * d = t * d + d := Nat.succ_mul t d
    have a : (n + d - 1) / d < t + 1 := (Nat.div_lt_iff_lt_mul h).2 (by omega)
    omega

end Sys2Proof.Machine
end

