-- ==== Sys2Proof/Tests/Slice0.lean ====
section
/-! SUPPORT. Tests: the checks of well-formedness, figures that the manual gives, one small step for some commands, and for each
statement with premises a state and operands that meet them. -/

namespace Sys2Proof.Tests

set_option Elab.async false

open Sys2Proof Sys2Proof.Machine

/-! ### Well-formedness: each check refuses an ill-formed command -/

theorem test_wf_link_too_long : (Instr.linkFrameReceived .S (List.replicate 253 0)).wf = false := by decide +kernel
theorem test_wf_mast_too_long : (Instr.mast (List.replicate 253 0)).wf = false := by decide +kernel
theorem test_wf_precip_too_long : (Instr.precip (List.replicate 253 0)).wf = false := by decide +kernel
theorem test_wf_feeder_too_long : (Instr.feeder (List.replicate 253 0)).wf = false := by decide +kernel
theorem test_wf_site_too_long : (Instr.siteFrameIgnored (List.replicate 253 0)).wf = false := by decide +kernel
theorem test_wf_status_too_short : (Instr.statusReply [0xA5, 0, 0, 0, 0]).wf = false := by decide +kernel
theorem test_wf_keys_too_short : (Instr.keys []).wf = false := by decide +kernel
theorem test_wf_bad_reply_too_long : (Instr.badReply (List.replicate 255 0)).wf = false := by decide +kernel
theorem test_wf_panel_too_long : (Instr.panelReplyMissed (some (List.replicate 255 0))).wf = false := by decide +kernel
theorem test_wf_status_longest : (Instr.statusReply (List.replicate 254 0)).wf = true := by decide +kernel
theorem test_wf_no_bytes : Instr.slew.wf = true := by decide

/-! ### Decoding: no table row has bits; the kinds of R189 -/

theorem test_table_word : decodeTableWord 8 1 = none := by decide
theorem test_kind_slew : requestOf .S 0x01 = .slew := by decide
theorem test_kind_steer : requestOf .O 0x10 = .steer := by decide
theorem test_kind_clear : requestOf .O 0x1D = .clearAll := by decide
theorem test_kind_wrong_link : requestOf .S 0x10 = .unknownRequestKind .S ∧ anyRequestKind 0x10 = true := by decide
theorem test_kind_unknown : requestOf .O 0x77 = .unknownRequestKind .O ∧ anyRequestKind 0x77 = false := by decide
theorem test_kind_shared : requestOf .S 0x57 = .dump .S ∧ requestOf .O 0x57 = .dump .O := by decide

/-! ### Figures that the manual gives -/

/-- R188: the check of the nine characters 1 to 9. -/
theorem test_frame_check : frameCheck [0x31, 0x32, 0x33, 0x34, 0x35, 0x36, 0x37, 0x38, 0x39] = 0x29B1 := by decide +kernel

/-- R32: at d × a = v × v both formulas give the ceiling of 2000 × v / a. -/
theorem test_duration_boundary : duration 6000 3000 1500 = 4000 := by decide +kernel

/-- R33: an EL ACCEL phase at SURCHARGE 20 costs the ceiling of 250 × 120 / 100. -/
theorem test_phase_price : phasePrice Params.default.phaseP .el .accel 20 = 300 := by decide +kernel

/-- R22, R37: an admitted grant is priced from its plan's parameters, whatever a SET has written since. -/
theorem test_kept_prices :
    ((Grant.reset.admitted .ordinary 1 (makePlan Params.default 4 .ordinary none none .calm 0 90000 45000 60000)).pricedFrom
      { Params.default with azRunP := 2000 }).azRun = 120 := by decide +kernel

/-- R63, R190: the class none is the fourth value of its table. -/
theorem test_class_codes : clsCode (some .stow) = 0 ∧ clsCode (some .heat) = 2 ∧ clsCode none = 3 := by decide

/-- R28: from 0 the choice between +180000 and −180000 is the positive one. -/
theorem test_wrap_positive : chooseWrap Params.default 0 180000 = some 180000 := by decide +kernel

/-- R88: the median of three readings and the higher of two. -/
theorem test_mast_value : mastValue [30, 10, 20] = some 20 ∧ mastValue [10, 20] = some 20 := by decide

/-- R130: the term truncates toward zero, and a negative raw duty is raised to DUTY_MIN. -/
theorem test_duty_term : heatTerm Params.default (some 25) = -2 ∧ duty Params.default (-2) = 10 := by decide +kernel

/-! ### States for the witnesses -/

/-- A station at rest as a cabinet shows it. -/
def restStatus : CabStatus where
  az := { pos := 0, phase := .braked, fault := 0 }
  el := { pos := 45000, phase := .braked, fault := 0 }
  pin := .pinOut
  switch := .remote
  closed := false
  temp := some 10

/-- Rewrites a station record as enabled in a motion state. -/
def put (s : State) (i : Stn) (m : Motion) (w : Option Owner) : State :=
  s.modStn i fun r => { r with enabled := true, motion := m, owner := w }

/-- A lockout entry of holder 7. -/
def seven (q : LockState) : LockEntry := { holder := 7, kind := .full, state := q, taken := 5 }

/-- A group whose one member is station 2. -/
def groupOne : Group where
  number := 1
  state := .active
  members := [(1, none)]
  target := { el := 45000, az := 90000, wrap := .nearest }
  cap := none
  prio := 2
  mode := .gang
  hold := false

/-- A plan of station 5 from rest. -/
def planFive : Plan := makePlan Params.default 4 .ordinary (some .nearest) none .calm 0 90000 45000 60000

/-- A state in which one station stands in each of ten motion states. -/
def demo : State :=
  let s := { State.reset with clock := 100000, sched := { groups := [groupOne], suspended := false, next := 2 } }
  let s := put s 0 .held none
  let s := put s 1 .slewing (some (.group 1))
  let s := put s 2 .lost none
  let s := put s 3 .stowing (some .stow)
  let s := (put s 4 .admitting (some (.group 1))).modStn 4 fun r => { r with posture := some .held }
  let s := put s 5 .pointed none
  let s := put s 6 .unknown none
  let s := put s 7 .stowed none
  let s := put s 8 .stopping none
  let s := s.modCab 0 fun k => { k with inCycle := true, last := some { status := restStatus, time := 90000 } }
  let s := s.modLock 0 fun r => { r with known := true, slots := upd r.slots 0 fun _ => some (seven .inForce) }
  let s := s.modMotionGrant 2 fun g => { g with cls := some .ordinary, amount := 400, hold := .frozen }
  let s := s.modChan 0 fun k => { k with state := .on, timer := some 99000 }
  let s := s.modHeatGrant 0 fun g => { g with cls := some .heat, amount := 150, seq := some 1 }
  { s with
    power := { s.power with list := [{ body := .motion false [planFive], cls := .ordinary, prio := 2, seq := 1 }] }
    camp := { s.camp with roster :=
      [{ station := 3, status := .braking, outcome := none, noPin := true, stowDur := none },
       { station := 7, status := .unpinning, outcome := none, noPin := false, stowDur := none }] } }

/-- A request frame with TAG 9. -/
def req (k : Byte) (p : List Byte) : Frame := { kind := k, tag := 9, payload := p }

/-- The state with one frame in the FIFO of a link. -/
def asked (s : State) (l : Link) (f : Frame) : State := s.modLink l fun k => { k with fifo := [f] }

/-- A link with n frames in its FIFO and a notice being sent. -/
def fullLink (n : Nat) (paused : Bool) (order : List Frame) : LinkState where
  rx := Receiver.reset
  fifo := List.replicate n (req 0x52 [])
  paused := paused
  order := order
  sending := some (noticeFrame 1 0)
  flags := 1

/-- A receiver that has taken the LEN of a frame. -/
def collecting (f : Frame) : Receiver := { collecting := true, held := [BitVec.ofNat 8 (f.payload.length + 2)] }

/-- The bytes of a frame after its LEN. -/
def after (f : Frame) : List Byte := f.bytes.drop 2

/-- The payload of a well-formed SLEW of station 1. -/
def slewBytes : List Byte :=
  u32 1 ++ i32 45000 ++ i32 90000 ++ [0] ++ u16 0 ++ [2, 0, 0]

/-- The payload of a well-formed STEER of station 1. -/
def steerBytes : List Byte := [1] ++ i32 45000 ++ i32 90000 ++ [0] ++ u16 0

/-- A steer of station 1. -/
def steerOne : Steer where
  number := 1
  station := 0
  target := { el := 45000, az := 90000, wrap := .nearest }
  cap := none
  state := .queued
  outcome := none

/-! ### One step of some commands -/

/-- R186: the reset leaves the stage STOW in the start-up hold. -/
theorem test_reset_stage : State.reset.wind.stage = .stow ∧ State.reset.wind.hold = true ∧ State.reset.camp.state = .holding := by
  decide +kernel

/-- R1, log entry 2: with nothing to do, site time goes on. -/
theorem test_idle_tick : step State.reset = .next { State.reset with clock := 1 } := by
  have h : State.reset.dueEvent = none := by decide +kernel
  have e : step State.reset = idle State.reset := rfl
  rw [e, idle, h]; rfl

/-- R187, R189, R191: the reply to an unknown kind is BAD_ARG with the kind, and carries the TAG of the request. -/
theorem test_unknown_kind_reply :
    ((asked State.reset .O (req 0x77 [])).takeUnknown .O).linkO.sending =
      some { kind := 0x80, tag := 9, payload := [0x77, 2] } := by decide +kernel

/-- R39, R40: the first SLEW takes number 1 and the next group number becomes 2. -/
theorem test_slew_number :
    (slewArgs slewBytes).map (fun a => (State.reset.addGroup a).sched.next) = some 2 ∧ State.reset.sched.take = 1 := by
  decide +kernel

/-- R61: a FEEDER value above 40000 is taken as 40000. -/
theorem test_feeder_clamp : (State.reset.takeFeeder 50000).power.feedLimit = 40000 := by decide +kernel

/-- R8, R10: an enabled station is UNKNOWN and its cabinet is visited with POLL. -/
theorem test_enable_polls :
    ((State.reset.enableStation 3).wakeLines.bus.visit.map (·.station)) = some 3 ∧
      ((State.reset.enableStation 3).wakeLines.cab 3).outstanding = some { cmd := .poll, mark := true } := by decide +kernel

/-- R92, R95: one MAST frame alone leaves the start-up hold, since two live masts are required. -/
theorem test_one_mast_keeps_hold :
    (State.reset.takeMast 1 [some 10, some 20, some 30]).wind.hold = true := by decide +kernel

/-- R181: GO_AT is kept below PAUSE_AT, and a lowered PAUSE_AT carries it down. -/
theorem test_go_below_pause :
    Params.default.taken .goAt 7 = 5 ∧ (Params.default.assign .pauseAt 2).goAt = 1 := by decide +kernel

/-! ### Witnesses: the step, the invariants, the whole machine -/

theorem witness_StepTakesFrontCommand :
    ({ State.reset with pending := [.slew, .rest] }).pending = Instr.slew :: [.rest] ∧ State.reset.pending = [] := by
  decide +kernel

theorem witness_StepKeepsOwnerRule : OwnerRule demo ∧ ∃ t, step demo = .next t :=
  ⟨by unfold OwnerRule; decide +kernel, step_next _⟩

theorem witness_StepKeepsQueueBounds : (LinkRule demo ∧ SizeRule demo) ∧ ∃ t, step demo = .next t :=
  ⟨⟨by intro l; cases l <;> decide +kernel, by unfold SizeRule; decide +kernel⟩, step_next _⟩

theorem witness_StepKeepsCounterRule : CounterRule demo ∧ ∃ t, step demo = .next t :=
  ⟨by unfold CounterRule StnStats.small LineStats.small fits16; decide +kernel, step_next _⟩

theorem witness_StepKeepsParamRule : ParamRule demo ∧ ∃ t, step demo = .next t := by
  refine ⟨⟨?_, ?_, by decide +kernel, by decide +kernel⟩, step_next _⟩
  · intro p
    cases p
    case derate g => cases g <;> decide +kernel
    case surcharge g => cases g <;> decide +kernel
    case floor g => cases g <;> decide +kernel
    case riseMean u => cases u <;> decide +kernel
    case riseGust u => cases u <;> decide +kernel
    case fallMean u => cases u <;> decide +kernel
    case fallGust u => cases u <;> decide +kernel
    case dwell u => cases u <;> decide +kernel
    case dutyBase c => cases c <;> decide +kernel
    all_goals decide +kernel
  · intro u; cases u <;> decide +kernel

/-- The demo state with the POINTED station in its warning. -/
def pointedWarning : State :=
  demo.modLock 5 fun r => { r with known := true, phase := .warning, warnExp := some 110000, status := .releasing }

theorem witness_StepKeepsLockRule :
    LockRule pointedWarning ∧ ((pointedWarning.lock 0).hasInForce = true ∧ (pointedWarning.lock 5).phase = .warning) ∧
      ∃ t, step pointedWarning = .next t :=
  ⟨by unfold LockRule; decide +kernel, by decide +kernel, step_next _⟩

/-- R17, R155: a REST that brakes a POINTED dish in its warning takes the release back to WAIT_REST, and the status to IN_FORCE. -/
theorem test_rest_in_warning :
    (let t := settle false pointedWarning (pointedWarning.brakePointed 5)
     (t.stn 5).motion = .stopping ∧ (t.lock 5).phase = .waitRest ∧ (t.lock 5).warnExp = none ∧
       (t.lock 5).status = .inForce) := by decide +kernel

theorem witness_StepKeepsGrantRule : GrantRule demo ∧ ∃ t, step demo = .next t :=
  ⟨by unfold GrantRule Grant.clean Grant.classed; decide +kernel, step_next _⟩

theorem witness_StepKeepsListRule :
    (OwnerRule demo ∧ ListRule demo) ∧ demo.power.list ≠ [] ∧ ∃ t, step demo = .next t :=
  ⟨⟨by unfold OwnerRule; decide +kernel, by unfold ListRule; decide +kernel⟩, by decide +kernel, step_next _⟩

theorem witness_OnlyWarningExpiryFrees :
    (∃ t, exec .slew demo = .next t) ∧ Instr.slew ≠ .warningExpiry 0 ∧ (demo.lock 0).status ≠ .free :=
  ⟨exec_next _ _, by decide, by decide +kernel⟩

/-- A station in its warning, whose expiry has come. -/
def warned : State := demo.modLock 0 fun r => { r with phase := .warning, warnExp := some 100000, status := .releasing }

theorem witness_WarningEndFrees :
    warned.warningDue 0 = true ∧ (warned.stn 0).motion = .held ∧ warned.snow.mode = .off := by decide +kernel

theorem witness_WarningEndFrees_release :
    (releaseBlocked false LockRec.reset = true ∧ releaseBlocked false { LockRec.reset with known := true } = false ∧
      ({ LockRec.reset with known := true } : LockRec).phase = .none ∧
      ({ LockRec.reset with known := true } : LockRec).status ≠ .free) ∧
    ((pointedWarning.lock 5).phase = .warning ∧ releaseBlocked false (pointedWarning.lock 5) = false) ∧
    ((settle false pointedWarning pointedWarning).lock 5).phase = .warning := by decide +kernel

theorem witness_EveryRequestAnsweredOnce :
    ((asked demo .S (req 0x03 [])).link .S).fifo.head? = some (req 0x03 []) ∧
      ((asked demo .S (req 0x03 [])).link .S).replyBusy = false := by decide +kernel

theorem witness_OwnedRecordsKeepTheirWriters :
    (∃ t, exec .clearAll demo = .next t) ∧ Instr.clearAll ≠ .powerOnReset ∧ Instr.clearAll ≠ .setParam ∧
      ∀ b, Instr.clearAll ≠ .feeder b := ⟨exec_next _ _, by decide, by decide, by simp⟩

theorem witness_RefusedRequestChangesNothing :
    (takeSlew demo []).code ≠ .done ∧
    (((asked demo .S (req 0x01 [])).link .S).fifo.head? = some (req 0x01 []) ∧
      ((asked demo .S (req 0x01 [])).link .S).replyBusy = false ∧ requestOf .S (req 0x01 []).kind = .slew ∧
      (takeSlew ((asked demo .S (req 0x01 [])).openRequest .S (req 0x01 [])) (req 0x01 []).payload).code ≠ .done) := by
  decide +kernel

theorem witness_QueryTouchesOnlyItsLink :
    Instr.qWind .S ∈ [Instr.qStation .S, .qPower .S, .qWind .S, .qCampaign .S, .qQueue .S, .qLockout .S,
      .unknownRequestKind .S] := by decide

/-! ### Witnesses: frames -/

theorem witness_ReceiverRecoversFrame :
    (List.replicate 248 (0 : Byte)).length ≤ 248 ∧ delimiter ∉ ([1, 2, 3] : List Byte) := by decide +kernel

theorem witness_PolledRepliesReadBack :
    (let s := demo.modCab 0 fun k => { k with outstanding := some { cmd := .motion .stop, mark := true } }
     s.clock ≤ 99990 + 10 ∧ (s.cab 0).outstanding = some { cmd := .motion .stop, mark := true } ∧
       verdictSuits (.motion .stop) .accepted = true) ∧
    restStatus.legal ∧ keyLegal (some (9999, .full)) ∧ keyLegal none := by
  refine ⟨by decide +kernel, ⟨by unfold AxisStatus.legal; decide, by unfold AxisStatus.legal; decide, ?_⟩, ?_, ?_⟩
  · intro t h; cases h; decide
  · intro h q e; cases e; decide
  · intro h q e; cases e

theorem witness_CandidatesAreTakenOrDiscarded :
    (collecting (req 0x03 [])).find (after (req 0x03 [])) = .good (req 0x03 []) [] ∧
    (collecting (req 0x03 [])).find [3, 9, 0, 0] = .bad [2, 3, 9, 0, 0] ∧
    Receiver.reset.find [7, 0xA5, 251] = .bad [251] ∧
    Receiver.reset.find [7, 0xA5, 250] = .start [250] ∧
    (fullLink 7 false []).fifo.length < 8 ∧ ¬ (fullLink 8 false []).fifo.length < 8 := by decide +kernel

theorem witness_FlowControlFollowsCount :
    (6 ≤ (fullLink 6 false []).fifo.length ∧ (fullLink 6 false []).paused = false ∧
      (fullLink 6 false []).sending.isSome = true) ∧
    (fullLink 5 false []).fifo.length < 6 ∧
    ((fullLink 2 true [pauseFrame]).fifo.length ≤ 2 ∧ (fullLink 2 true [pauseFrame]).paused = true ∧
      (fullLink 2 true [pauseFrame]).order.any Frame.isPause = true) ∧
    ((fullLink 2 true []).order.any Frame.isPause = false ∧ (fullLink 2 true []).sending.isSome = true) ∧
    2 < (fullLink 3 true []).fifo.length ∧ (fullLink 3 false []).fifo.length < 8 ∧
    ({ fullLink 6 false [] with sending := none } : LinkState).sending = none ∧
    ((fullLink 6 false [goFrame]).order.any Frame.isPause && (fullLink 6 false [goFrame]).order.any Frame.isGo) = false := by
  decide +kernel

theorem witness_RaisingAFlagNotifiesOnce :
    (fullLink 0 false []).flags.getLsbD NoticeFlag.stage.bit.val = true ∧
    (fullLink 0 false []).flags.getLsbD NoticeFlag.lostReport.bit.val = false ∧
    (0 : BitVec 10).getLsbD NoticeFlag.lostReport.bit.val = false ∧
    (1023 : BitVec 10).getLsbD NoticeFlag.lostReport.bit.val = true ∧
    (let s := { demo with linkS := fullLink 0 false [] }
     (s.link .S).flags &&& s.mask .S &&& ~~~(0 : BitVec 10) ≠ 0 ∧
       (s.link .S).flags &&& s.mask .S &&& ~~~(1023 : BitVec 10) = 0) := by decide +kernel

/-! ### Witnesses: plans -/

theorem witness_DurationIsLeastWholeTime :
    3000 * 3000 ≤ 6000 * 1500 ∧ 5999 * 1500 < 3000 * 3000 ∧
    ({ body := .motion false [planFive], cls := .stow, prio := 7, seq := 1 } : Entry).body =
      .motion false (planFive :: []) := by decide +kernel

theorem witness_NearestWrapIsChosenOnce :
    (-270000 ≤ Params.default.azMin ∧ Params.default.azMax ≤ 270000) ∧
    targetAz Params.default 0 { el := 5000, az := 180000, wrap := .nearest } = some 180000 ∧
    (-270000 ≤ ({ Params.default with azMin := 0, azMax := 0 } : Params).azMin ∧
      targetAz { Params.default with azMin := 0, azMax := 0 } 0 { el := 5000, az := 359999, wrap := .nearest } = none) ∧
    Params.default.elLo ≤ 5000 ∧ 5000 ≤ Params.default.elHi := by decide +kernel

/-! ### Witnesses: the motion queues -/

/-- A scheduler queue of n groups with rising numbers from 1. -/
def queueOf (n next : Nat) : SchedQueue where
  groups := (List.range n).map fun k => { groupOne with number := k + 1 }
  suspended := false
  next := next

/-- Group 1 of an ADMITTING station 1, group 2 QUEUED behind it with a target out of limits, and group 3 of a SLEWING station 2, with HOLD
or without. -/
def threeGroups (hold : Bool) : State :=
  let s := put (put State.reset 0 .admitting (some (.group 1))) 1 .slewing (some (.group 3))
  let s := (s.modStn 0 fun r => { r with posture := some .held }).modLock 0 fun r => { r with status := .free }
  let far := { groupOne with number := 2, members := [(0, none)], state := .queued, target := { groupOne.target with el := 200000 } }
  { s with
    camp := { s.camp with state := .none }
    sched :=
      { groups :=
          [{ groupOne with number := 1, members := [(0, none)], state := .active }, far,
           { groupOne with number := 3, members := [(1, none)], state := .active, hold := hold }]
        suspended := false, next := 4 } }

/-- R45: of the groups that a HALT of stations 1 and 2 completes, the one that dispatches in between is reported in queue order. -/
theorem test_reports_in_queue_order :
    (let s := threeGroups false
     let t := settle false s ([0, 1].foldl State.haltStation s)
     (t.linkS.outgoing.filter fun f => f.kind == kindGroup).map (fun f => f.payload.take 2) = [u16 1, u16 2, u16 3] ∧
       t.sched.groups = []) := by decide +kernel

/-- R46: a group with HOLD that is complete already keeps the group before it from dispatching. -/
theorem test_hold_before_dispatch :
    (let s := threeGroups true
     let t := settle false s ([0, 1].foldl State.haltStation s)
     (t.linkS.outgoing.filter fun f => f.kind == kindGroup).map (fun f => f.payload.take 2) = [u16 1, u16 3] ∧
       t.sched.groups.map (·.number) = [2] ∧ t.sched.suspended = true) := by decide +kernel

theorem witness_NewNumbersAreFree :
    (queueOf 16 1).groups.length ≤ 16 ∧ (queueOf 16 1).take = 17 ∧ (queueOf 2 65535).next ≤ 65535 ∧
    ({ steers := [steerOne], next := 1 } : OperQueue).steers.length ≤ 8 := by decide +kernel

theorem witness_SlewQueuesAGroup :
    (Ready (asked demo .S (req 0x01 slewBytes)) .S (req 0x01 slewBytes) 0x01 ∧
      (slewArgs (req 0x01 slewBytes).payload).isSome = true ∧
      (asked demo .S (req 0x01 slewBytes)).sched.groups.length < 16) ∧
    (let s := { asked demo .S (req 0x01 slewBytes) with sched := queueOf 16 17 }
     Ready s .S (req 0x01 slewBytes) 0x01 ∧ 16 ≤ s.sched.groups.length) ∧
    (Ready (asked demo .S (req 0x01 [])) .S (req 0x01 []) 0x01 ∧ slewArgs (req 0x01 []).payload = none) := by
  unfold Ready; decide +kernel

theorem witness_CancelCompletesTheGroup :
    (Ready (asked demo .S (req 0x02 [0, 1])) .S (req 0x02 [0, 1]) 0x02 ∧ rd16 0 1 ≠ 0 ∧
      (asked demo .S (req 0x02 [0, 1])).group? (rd16 0 1) = some groupOne) ∧
    (Ready (asked demo .S (req 0x02 [0, 2])) .S (req 0x02 [0, 2]) 0x02 ∧ rd16 0 2 ≠ 0 ∧
      (asked demo .S (req 0x02 [0, 2])).group? (rd16 0 2) = none) ∧
    (Ready (asked demo .S (req 0x02 [0, 0])) .S (req 0x02 [0, 0]) 0x02 ∧ rd16 0 0 = 0) ∧
    ((1 : Stn) ∈ groupOne.stations ∧ (demo.stn 1).owner = some (.group groupOne.number) ∧ (demo.stn 1).motion = .slewing) ∧
    ((4 : Stn) ∈ ({ groupOne with members := [(4, none)] } : Group).stations ∧
      (demo.stn 4).owner = some (.group groupOne.number) ∧ (demo.stn 4).motion = .admitting) ∧
    (demo.endGroup .cancelled groupOne).sched.groups.map (·.number) = [groupOne.number] := by
  unfold Ready; decide +kernel

theorem witness_FlushResumeRestComplete :
    Ready (asked demo .S (req 0x03 [])) .S (req 0x03 []) 0x03 ∧
    Ready (asked demo .S (req 0x04 [])) .S (req 0x04 []) 0x04 ∧
    (Ready (asked demo .S (req 0x05 [0, 0, 0, 32])) .S (req 0x05 [0, 0, 0, 32]) 0x05 ∧
      setArg (req 0x05 [0, 0, 0, 32]).payload = some [5]) ∧ (demo.stn 5).motion = .pointed := by
  unfold Ready; decide +kernel

theorem witness_SteerAndHaltComplete :
    (Ready (asked demo .O (req 0x10 steerBytes)) .O (req 0x10 steerBytes) 0x10 ∧
      (steerArgs (req 0x10 steerBytes).payload).isSome = true ∧
      (asked demo .O (req 0x10 steerBytes)).oper.steers.length < 8) ∧
    (let s := { asked demo .O (req 0x10 steerBytes) with oper := { steers := List.replicate 8 steerOne, next := 2 } }
     Ready s .O (req 0x10 steerBytes) 0x10 ∧ 8 ≤ s.oper.steers.length) ∧
    (Ready (asked demo .O (req 0x11 [0, 0, 0, 2])) .O (req 0x11 [0, 0, 0, 2]) 0x11 ∧
      setArg (req 0x11 [0, 0, 0, 2]).payload = some [1]) ∧
    (Ready (asked demo .O (req 0x11 [0, 0, 0, 0])) .O (req 0x11 [0, 0, 0, 0]) 0x11 ∧
      setArg (req 0x11 [0, 0, 0, 0]).payload = some []) ∧
    (Ready (asked demo .O (req 0x11 [])) .O (req 0x11 []) 0x11 ∧ setArg (req 0x11 []).payload = none) ∧
    (Ready (asked demo .O (req 0x10 [])) .O (req 0x10 []) 0x10 ∧ steerArgs (req 0x10 []).payload = none) := by
  unfold Ready; decide +kernel

theorem witness_SteerAndHaltComplete_halt :
    ((demo.stn 4).motion = .admitting ∧ (demo.stn 4).owner = some (.group 1)) ∧ (demo.stn 1).motion = .slewing ∧
    ((demo.stn 3).motion = .stowing ∧ (demo.stn 3).owner = some .stow ∧ ((demo.haltStation 3).entry? 3).isSome = true) ∧
    (let s := { demo with oper := { steers := [{ steerOne with station := 8, state := .waitingRest }], next := 2 } }
     (s.stn 8).motion = .stopping ∧ s.haltActs 8 = true ∧
       (s.haltStation 8).oper.steers.map (·.outcome) = [some .halted]) := by decide +kernel

/-- R162: the BRAKE of another block stays when a stow that waits for power is interrupted; the stow's own is withdrawn. -/
theorem test_foreign_brake_stays :
    (let s := fun st => (demo.modCab 3 fun k => { k with motion := some .brake }).setRoster 3 st
     (((s .waitingPower).stowOutcome 3 .halted).cab 3).motion = some .brake ∧
       (((s .braking).stowOutcome 3 .halted).cab 3).motion = none) := by decide +kernel

/-- What an axis shows at a position in a phase. -/
def axisAt (z : Int) (p : Phase) : AxisStatus := { pos := z, phase := p, fault := 0 }

/-- Station 2 slewing with an azimuth target of 1000, in a park step. -/
def slewingAt (w : Owner) (p : Option ParkStep) : State :=
  (demo.modStn 1 fun r => { r with owner := some w, az := { r.az with target := some 1000 } }).setPark 1 p

theorem witness_EndedMotionsComeToRest :
    (demo.stn 1).motion = .slewing ∧ (demo.stn 3).motion = .stowing ∧
    ((demo.stn 4).motion = .admitting ∧ (demo.stn 4).posture = some .held ∧ (demo.stn 4).owner = some (.group 1)) ∧
    ((demo.stn 3).owner = some .stow ∧ (demo.entry? 3).isSome = true) ∧
    (let s := demo.modCab 3 fun k => { k with motion := some .brake }
     (s.stn 3).owner = some .stow ∧ (s.entry? 3).map (·.status) = some .braking ∧ (s.cab 3).motion = some .brake) ∧
    ((1, none) ∈ groupOne.members ∧ (1, some MoveOutcome.lost) ∈ (groupOne.record 1 .lost).members) ∧
    refusedMove { cmd := .poll, verdict := .none } false = none := by
  decide +kernel

theorem witness_EndedMotionsComeToRest_arrival :
    (let s := slewingAt (.group 1) none
     (s.stn 1).motion = .slewing ∧ (s.stn 1).owner = some (.group 1) ∧
     movedAxes (s.stn 1) { restStatus with az := axisAt 1050 .holding } = [(1000, axisAt 1050 .holding)] ∧
     movedAxes (s.stn 1) { restStatus with az := axisAt 1051 .braked } = [(1000, axisAt 1051 .braked)] ∧
     movedAxes (s.stn 1) { restStatus with az := axisAt 1051 .cruise } = [(1000, axisAt 1051 .cruise)]) := by
  decide +kernel

theorem witness_EndedMotionsComeToRest_park :
    (((slewingAt .snow (some .moving)).stn 1).motion = .slewing ∧ ((slewingAt .snow (some .moving)).stn 1).owner = some .snow ∧
      (slewingAt .snow (some .moving)).park 1 = some .moving ∧ restStatus.el.phase.moving = false) ∧
    ((slewingAt .snow (some .braking)).park 1 = some .braking ∧ restStatus.braked = true) := by
  decide +kernel

/-- R16: at exactly ARRIVE_TOL from the target the slew has arrived, and 1 mdeg farther it is short. -/
theorem test_arrive_tolerance :
    nearTarget Params.default.arriveTol (1000, axisAt 1050 .holding) = true ∧
      nearTarget Params.default.arriveTol (1000, axisAt 1051 .holding) = false := by decide

theorem witness_ClearEmptiesBothQueues :
    Ready (asked demo .O (req 0x1D [])) .O (req 0x1D []) 0x1D ∧ (demo.clearQueues.stn 0).motion = (demo.stn 0).motion := by
  unfold Ready; decide +kernel

/-! ### Witnesses: power -/

/-- The demo state with a feeder cap. -/
def fed (cap : Nat) : State := { demo with cfg := { demo.cfg with feedCap := cap } }

theorem witness_AdmissionsStayWithinAvail :
    (fed 6000).total ≤ (fed 6000).avail ∧
    ({ fed 100 with power := { (fed 100).power with deficit := true } } : State).power.deficit = true := by decide +kernel

/-- The waiting move of the demo state. -/
def waitingMove : Entry := { body := .motion false [planFive], cls := .ordinary, prio := 2, seq := 1 }

theorem witness_AdmissionsStayWithinAvail_ceiling :
    (fed 6000).admissible waitingMove = true ∧ waitingMove.cls ≠ .stow ∧
      (∀ i ∈ waitingMove.motionStns, ((fed 6000).motionGrant i).cls ≠ some .stow ∧
        ((fed 6000).motionGrant i).classed) ∧ 0 < (fed 6000).increase waitingMove := by
  unfold Grant.classed; decide +kernel

theorem witness_HeadIsFirstInOrder :
    ({ fed 6000 with wind := { (fed 6000).wind with stage := .calm } } : State).head?.isSome = true ∧
    (fed 6000).passedOver waitingMove = true ∧ (fed 6000).head? = none ∧ waitingMove.prio ≠ 7 ∧
    ({ waitingMove with prio := 7 } : Entry).stowDur = planFive.duration := by decide +kernel

/-- A state in which the waiting move fits only after the heater is cut. -/
def tight : State :=
  { demo with
    cfg := { demo.cfg with feedCap := 1000, stowReserve := 0 }
    wind := { demo.wind with stage := .calm } }

theorem witness_CutsMakeTheHeadFit : tight.cutsFor waitingMove = [0] ∧ waitingMove.cls ≠ .stow := by decide +kernel

theorem witness_RepliesLowerGrants :
    (demo.motionGrant 2).hold = .frozen ∧
    (let s := demo.modMotionGrant 5 fun g => { g with cls := some .ordinary, amount := 550, surcharge := some 0 }
     ¬ ((s.motionGrant 5).hold = .frozen ∨ (s.motionGrant 5).localRes = true ∨ (s.motionGrant 5).awaiting = true) ∧
       (s.motionGrant 5).surcharge = some 0 ∧
       ((s.lowerMotion 5 { restStatus with el := axisAt 45000 .holding }).motionGrant 5).amount ≠ 0) ∧
    restStatus.braked = true ∧ planFive.amount ≠ 0 ∧
    (Grant.reset.admitted .ordinary 1 planFive).phaseP = some planFive.phaseP := by decide +kernel

theorem witness_WriteOffFrozenGrants :
    (Ready (asked demo .O (req 0x18 [3])) .O (req 0x18 [3]) 0x18 ∧ stationArg (req 0x18 [3]).payload = some 2 ∧
      ((asked demo .O (req 0x18 [3])).stn 2).motion = .lost) ∧
    ((demo.motionGrant 2).hold = .frozen ∧ (demo.motionGrant 1).hold ≠ .frozen) ∧
    0 < (demo.motionGrant 2).writeOffAmount + (demo.heatGrant 2).writeOffAmount ∧
    (Ready (asked demo .O (req 0x18 [1])) .O (req 0x18 [1]) 0x18 ∧ stationArg (req 0x18 [1]).payload = some 0 ∧
      ((asked demo .O (req 0x18 [1])).stn 0).motion ≠ .lost) ∧
    (Ready (asked demo .O (req 0x18 [33])) .O (req 0x18 [33]) 0x18 ∧ 32 < (33 : Byte).toNat) ∧
    (Ready (asked demo .O (req 0x18 [0])) .O (req 0x18 [0]) 0x18 ∧ (0 : Byte).toNat = 0) := by
  unfold Ready; decide +kernel

/-! ### Witnesses: wind and campaigns -/

/-- A wind record with n masts that have just given 50, at a stage with a dwell whose expiry is 1000. -/
def windAt (n : Nat) (g : Stage) (v : Nat) : Wind :=
  { demo.wind with
    hold := false, stage := g, dwell := some { start := 0, expiry := 1000 }
    masts := Vector.ofFn fun i =>
      if i.val < n then { Mast.reset with ring := [{ value := v, time := 1000 }] } else Mast.reset }

theorem witness_StageFollowsFeedAndWind :
    (windAt 1 .high 50).hold = false ∧
    ((windAt 1 .high 50).figures Params.default 1000).liveMasts.length < Params.default.required ∧
    Params.default.required ≤ ((windAt 2 .high 50).figures Params.default 1000).liveMasts.length ∧
    ((windAt 2 .high 50).evaluate Params.default 1000 true).stage.rank < (windAt 2 .high 50).stage.rank ∧
    ((windAt 2 .calm 170).stage.rank < ((windAt 2 .calm 170).evaluate Params.default 1000 false).stage.rank ∧
      ((windAt 2 .calm 170).evaluate Params.default 1000 false).short = false) ∧
    ((windAt 2 .calm 170).stage.rank < (((windAt 2 .calm 170).figures Params.default 1000).reached Params.default).rank) ∧
    ((((windAt 2 .high 50).figures Params.default 1000).reached Params.default).rank ≤ (windAt 2 .high 50).stage.rank ∧
      (windAt 2 .high 50).dwellDue 1000 = true ∧ ((windAt 2 .high 50).figures Params.default 1000).falls Params.default = true ∧
      (windAt 2 .high 50).dwellDue 999 = false) ∧
    (windAt 2 .high 110).dwellEvent 1000 = true ∧
    ({ windAt 2 .high 110 with dwell := none } : Wind).dwell = none ∧
    ((windAt 2 .high 110).figures Params.default 1000).falls Params.default = false := by decide +kernel

theorem witness_StageFollowsFeedAndWind_hold :
    (let w := { windAt 1 .stow 50 with hold := true, dwell := none }
     w.hold = true ∧ (w.figures Params.default 1000).liveMasts.length < Params.default.required) ∧
    (let w := { windAt 2 .stow 50 with hold := true, dwell := none }
     w.hold = true ∧ w.dwell = none ∧ Params.default.required ≤ (w.figures Params.default 1000).liveMasts.length) := by
  decide +kernel

/-- R92: the site figures are the largest of the live masts. -/
theorem test_site_figures :
    ((windAt 2 .high 50).figures Params.default 1000).siteMean = some 50 ∧
      ((windAt 0 .high 50).figures Params.default 1000).siteMean = none ∧ Params.default.mastOn 3 = true := by decide +kernel

/-- R96: the end of the start-up hold is the one fall of more than one stage. -/
theorem test_hold_ends_at_reached_stage :
    (Wind.evaluate { windAt 2 .stow 50 with hold := true, dwell := none } Params.default 1000 false).stage = .calm := by
  decide +kernel

/-- The demo state with a campaign state and a roster of one status. -/
def campAt (c : CampState) (st : RosterStatus) : State :=
  { demo with
    camp := { demo.camp with
      state := c, cause := some .operator,
      roster := [{ station := 7, status := st, outcome := none, noPin := false, stowDur := none }] } }

theorem witness_CampaignFollowsItsRoster :
    ((campAt .active .stowed).camp.state = .active ∧ (campAt .active .stowed).camp.allFinal = true) ∧
    (campAt .active .moving).camp.allFinal = false ∧ (campAt .holding .moving).camp.allFinal = false ∧
    ((campAt .ending .unpinned).camp.state = .ending ∧
      ∀ e ∈ (campAt .ending .unpinned).camp.roster, e.status.isReleased = true) ∧
    (campAt .calm .stowed).camp.state = .calm := by decide +kernel

theorem witness_StowAllStartsACampaign :
    Ready (asked demo .O (req 0x12 [])) .O (req 0x12 []) 0x12 ∧
    (let s := { demo with camp := { demo.camp with state := .none, cause := none, roster := [] } }
     s.camp.state = .none ∧ s.camp.cause = none ∧ s.camp.roster = []) := by unfold Ready; decide +kernel

theorem witness_UnstowByCampaignState :
    (Ready (asked (campAt .calm .stowed) .O (req 0x13 [])) .O (req 0x13 []) 0x13 ∧
      (asked (campAt .calm .stowed) .O (req 0x13 [])).unstowAccepted = true) ∧
    (Ready (asked (campAt .active .moving) .O (req 0x13 [])) .O (req 0x13 []) 0x13 ∧
      (asked (campAt .active .moving) .O (req 0x13 [])).unstowAccepted = false ∧
      (asked (campAt .active .moving) .O (req 0x13 [])).camp.state ≠ .none) ∧
    (campAt .holding .stowed).camp.state = .holding ∧ (campAt .ending .stowed).camp.state = .ending ∧
    (campAt .none .stowed).camp.state = .none := by
  unfold Ready; decide +kernel

theorem witness_CompletedStowIsStowed :
    (demo.stn 3).motion = .stowing ∧ ((demo.completeStow 3 true).entry? 3).isSome = true := by decide +kernel

/-! ### Witnesses: snow -/

/-- The demo state with station 1 free of lockouts and the snow mode ON. -/
def freeOne : State :=
  let s := demo.modLock 0 fun r => { r with slots := LockRec.reset.slots, status := .free }
  { s with snow := { s.snow with mode := .on } }

theorem witness_DutyStaysInItsLimits :
    Params.default.dutyMin ≤ 100 ∧ Params.default.dutyMax ≤ 100 ∧ Params.default.dutyMin ≤ Params.default.dutyMax ∧
    (Params.default.dutyMin : Int) ≤ 40 ∧ (40 : Int) ≤ Params.default.dutyMax := by decide +kernel

theorem witness_SnowRequestsSetTheMode :
    Ready (asked demo .O (req 0x14 [])) .O (req 0x14 []) 0x14 ∧
    Ready (asked demo .O (req 0x15 [])) .O (req 0x15 []) 0x15 ∧
    (demo.snowTurnOn .command).snow.mode = .on := by unfold Ready; decide +kernel

theorem witness_DutyStaysInItsLimits_cycle :
    demo.cfg.dutyMin ≤ 100 ∧ demo.cfg.dutyMax ≤ 100 ∧ 0 < onLength demo.cfg (demo.cycleDuty 0 false) ∧
    (let s := { demo with cfg := { demo.cfg with dutyMin := 0, dutyMax := 0 } }
     onLength s.cfg (s.cycleDuty 0 false) = 0) := by decide +kernel

/-- Station 1's heater STOPPING with a B of 100 s. -/
def stoppingHeat (s : State) (after : AfterStop) : State :=
  s.modChan 0 fun k => { k with state := .stopping, timer := none, offLen := some 100, after := some after }

theorem witness_BarStopsTheChannel_stop :
    (((stoppingHeat demo .offPhase).chan 0).state = .stopping ∧ (stoppingHeat demo .offPhase).barred 0 = true) ∧
    ((stoppingHeat freeOne .offPhase).barred 0 = false ∧ (stoppingHeat freeOne .offPhase).snow.mode = .on ∧
      ((stoppingHeat freeOne .offPhase).chan 0).after = some .offPhase ∧
      ((stoppingHeat freeOne .offPhase).chan 0).offLen = some 100) ∧
    ((stoppingHeat freeOne .newCycle).chan 0).after = some .newCycle ∧
    ({ cmd := .heat .heatOff, verdict := .rejected .heater } : Answer).rejects (.heat .heatOff) = true := by decide +kernel

theorem witness_BarStopsTheChannel :
    demo.barred 0 = true ∧ (demo.chan 0).state = .on ∧
    (let s := demo.setChan 0 .idle
     s.barred 0 = true ∧ (s.chan 0).state ≠ .stopping ∧ (s.chan 0).state ≠ .barred) := by decide +kernel

/-! ### Witnesses: lockouts -/

theorem witness_LockoutActsByMotionState :
    ((demo.stn 4).motion = .admitting ∧ (demo.stn 4).owner = some (.group 1)) ∧ (demo.stn 1).motion = .slewing ∧
    ((demo.stn 3).motion = .stowing ∧ (demo.stn 3).owner = some .stow ∧
      ((demo.lockTakesEffect 3).entry? 3).isSome = true) ∧
    (demo.stn 5).motion = .pointed ∧
    ((demo.stn 7).motion = .stowed ∧ demo.rosterStatus? 7 = some .unpinning) ∧
    ((demo.stn 0).motion = .held ∧ ¬ ((demo.stn 0).motion = .stowed ∧ demo.rosterStatus? 0 = some .unpinning)) := by
  decide +kernel

/-- The demo state with an entry of holder 7 in C1 of station 1. -/
def tagged : State := demo.modLock 0 fun r => { r with slots := upd r.slots 4 fun _ => some (seven .pending) }

theorem witness_ConsoleLocksJoinAndLeave :
    (Ready (asked demo .O (req 0x16 [1, 0, 0, 7, 0])) .O (req 0x16 [1, 0, 0, 7, 0]) 0x16 ∧
      consoleLockArgs (req 0x16 [1, 0, 0, 7, 0]).payload = some (0, 4, 7, .motion) ∧
      ((asked demo .O (req 0x16 [1, 0, 0, 7, 0])).lock 0).slots.get 4 = none ∧
      (asked demo .O (req 0x16 [1, 0, 0, 7, 0])).isDisabled 0 = false) ∧
    (Ready (asked tagged .O (req 0x16 [1, 0, 0, 7, 0])) .O (req 0x16 [1, 0, 0, 7, 0]) 0x16 ∧
      (((asked tagged .O (req 0x16 [1, 0, 0, 7, 0])).lock 0).slots.get 4).isSome = true) ∧
    (Ready (asked tagged .O (req 0x17 [1, 0, 0, 7])) .O (req 0x17 [1, 0, 0, 7]) 0x17 ∧
      consoleUnlockArgs (req 0x17 [1, 0, 0, 7]).payload = some (0, 4, 7) ∧
      ((asked tagged .O (req 0x17 [1, 0, 0, 7])).lock 0).slots.get 4 = some (seven .pending)) ∧
    (Ready (asked demo .O (req 0x17 [1, 0, 0, 7])) .O (req 0x17 [1, 0, 0, 7]) 0x17 ∧
      ((asked demo .O (req 0x17 [1, 0, 0, 7])).lock 0).slots.get 4 = none) ∧
    (Ready (asked demo .O (req 0x16 [33, 0, 0, 7, 0])) .O (req 0x16 [33, 0, 0, 7, 0]) 0x16 ∧ 32 < (33 : Byte).toNat) ∧
    (Ready (asked demo .O (req 0x17 [1, 2, 0, 7])) .O (req 0x17 [1, 2, 0, 7]) 0x17 ∧ 1 < (2 : Byte).toNat) := by
  unfold Ready; decide +kernel

theorem witness_KeysReplaceThePanelSlots :
    (demo.lock 0).slots.get 0 = some (seven .inForce) ∧
      ([some (7, .full), none, none, none] : List (Option (Nat × LockKind)))[(0 : Fin 4)]! =
        some ((seven .inForce).holder, (seven .inForce).kind) ∧ (1 : Stn) ≠ 0 ∧
    ([some (8, .motion), none, none, none] : List (Option (Nat × LockKind)))[(0 : Fin 4)]! = some (8, .motion) ∧
    ¬ ((seven .inForce).holder = 8 ∧ (seven .inForce).kind = .motion) := by decide +kernel

/-! ### Witnesses: the drive bus -/

/-- A station whose slots hold these commands, with its status FREE. -/
def slotted (m : Option MotionCmd) (h : Option HeatCmd) (p : Option PinCmd) : State :=
  (demo.modCab 0 fun k => { k with motion := m, heat := h, pin := p }).modLock 0 fun r => { r with status := .free }

/-- A MOVE of no axis. -/
def noMove : Move := { az := none, el := none, origin := .held }

theorem witness_VisitSendsByTheOrder :
    (((slotted (some (.move noMove)) none none).beginVisit 0).cab 0).outstanding =
      some { cmd := .motion (.move noMove), mark := true } ∧
    (((slotted none none (some .pinIn)).beginVisit 0).cab 0).outstanding = some { cmd := .pin .pinIn, mark := true } ∧
    demo.pollOnly 2 = true ∧
    ((slotted (some .stop) (some .heatOff) none).pollOnly 0 = false ∧
      ((slotted (some .stop) (some .heatOff) none).cab 0).motion = some .stop) ∧
    (((slotted (some .brake) (some .heatOff) none).cab 0).motion ≠ some .stop ∧
      ((slotted (some .brake) (some .heatOff) none).cab 0).heat = some .heatOff) ∧
    (((slotted (some .brake) (some .heatOn) none).cab 0).motion = some .brake ∧
      ((slotted (some .brake) (some .heatOn) none).cab 0).heat ≠ some .heatOff) ∧
    ((slotted (some (.move noMove)) none none).isFree 0 = true ∧
      ((slotted (some (.move noMove)) none none).cab 0).atRest = true) ∧
    (((slotted none (some .heatOn) none).beginVisit 0).cab 0).outstanding = some { cmd := .heat .heatOn, mark := true } ∧
    (((slotted none none none).beginVisit 0).cab 0).outstanding = some { cmd := .poll, mark := true } ∧
    demo.isFree 0 = false := by decide +kernel

/-- A visit to station 1 that a POLL began at 99995. -/
def visitOne (void : Bool) : BusVisit := { station := 0, start := 99995, timeout := 10, void := void }

/-- The demo state in that visit. -/
def visiting (void : Bool) : State :=
  let s := demo.modCab 0 fun k => { k with outstanding := some { cmd := .poll, mark := true } }
  { s with bus := { s.bus with visit := some (visitOne void) } }

/-- The reply of that visit. -/
def pollReply : List Byte := Frame.bytes { kind := kindStatus, tag := 1, payload := encStatus .none restStatus }

theorem witness_StatusReplyIsTaken :
    ((visiting false).bus.visit = some (visitOne false) ∧
      (visiting false).goodStatus (visitOne false) pollReply = some (restStatus, { cmd := .poll, verdict := .none }) ∧
      (visiting false).visitVoid (visitOne false) = false) ∧
    ((visiting true).goodStatus (visitOne true) pollReply = some (restStatus, { cmd := .poll, verdict := .none }) ∧
      (visiting true).visitVoid (visitOne true) = true) := by decide +kernel

theorem witness_MissesCountAndReturn :
    ((visiting false).goodStatus (visitOne false) [1, 2, 3] = none ∧
      (visiting false).visitVoid (visitOne false) = false) ∧
    (let s := { visiting false with clock := 100005 }
     s.bus.visit = some (visitOne false) ∧ (visitOne false).start + (visitOne false).timeout ≤ s.clock) ∧
    ({ Cabinet.reset with outstanding := some { cmd := .motion .stop, mark := true } } : Cabinet).motion = none ∧
    (demo.cab 0).misses + 1 < demo.cfg.missLimit := by decide +kernel

theorem witness_MissesCountAndReturn_loss :
    (let s := demo.modCab 1 fun k => { k with misses := 2 }
     s.cfg.missLimit ≤ min 15 ((s.cab 1).misses + 1) ∧ (s.stn 1).motion ≠ .lost ∧ (s.stn 1).motion ≠ .disabled) ∧
    (demo.stn 2).motion = .lost ∧
    ((visiting true).goodStatus (visitOne true) [1, 2, 3] = none ∧ (visiting true).visitVoid (visitOne true) = true) ∧
    ({ Cabinet.reset with outstanding := some { cmd := .pin .pinIn, mark := true } } : Cabinet).pin = none ∧
    ({ Cabinet.reset with outstanding := some { cmd := .heat .heatOn, mark := true } } : Cabinet).heat = none := by
  decide +kernel

theorem witness_LossFreezesTheStation : (demo.stn 3).motion ≠ .lost := by decide +kernel

theorem witness_FirstReplyIsResolved : (demo.stn 6).motion = .unknown ∧ (demo.stn 2).motion = .lost := by decide +kernel

/-! ### Witnesses: enable, parameters, queries, statistics -/

theorem witness_EnableAndDisableComplete :
    (Ready (asked demo .O (req 0x19 [128, 0, 0, 0])) .O (req 0x19 [128, 0, 0, 0]) 0x19 ∧
      setArg (req 0x19 [128, 0, 0, 0]).payload = some [31]) ∧ (demo.stn 31).motion = .disabled ∧
    (Ready (asked demo .O (req 0x1A [0, 0, 0, 128])) .O (req 0x1A [0, 0, 0, 128]) 0x1A ∧
      setArg (req 0x1A [0, 0, 0, 128]).payload = some [7] ∧
      ∀ j ∈ ([7] : List Stn), ((asked demo .O (req 0x1A [0, 0, 0, 128])).stn j).enabled = true →
        (asked demo .O (req 0x1A [0, 0, 0, 128])).mayDisable j = true) ∧
    (Ready (asked demo .O (req 0x1A [0, 0, 0, 2])) .O (req 0x1A [0, 0, 0, 2]) 0x1A ∧
      setArg (req 0x1A [0, 0, 0, 2]).payload = some [1] ∧
      ¬ ∀ j ∈ ([1] : List Stn), ((asked demo .O (req 0x1A [0, 0, 0, 2])).stn j).enabled = true →
        (asked demo .O (req 0x1A [0, 0, 0, 2])).mayDisable j = true) := by
  unfold Ready; decide +kernel

/-- A SET payload: parameter number, index 0, value. -/
def setBytes (num : Nat) (v : Int) : List Byte := u16 num ++ [0] ++ i32 v

theorem witness_SetAndGetParameters :
    (Ready (asked demo .O (req 0x1B (setBytes 1 60))) .O (req 0x1B (setBytes 1 60)) 0x1B ∧
      setParamArgs (req 0x1B (setBytes 1 60)).payload = some (1, 0, 60) ∧ itemOf 1 0 = some (.param .arriveTol) ∧
      Param.arriveTol.isLimit = false ∧ Param.arriveTol ≠ .mastEnable) ∧
    (Ready (asked demo .O (req 0x1B (setBytes 2 0))) .O (req 0x1B (setBytes 2 0)) 0x1B ∧
      itemOf 2 0 = some (.param .azMin) ∧ Param.azMin.isLimit = true ∧
      (asked demo .O (req 0x1B (setBytes 2 0))).anyBusy = true) ∧
    (Ready (asked demo .O (req 0x1B (setBytes 999 0))) .O (req 0x1B (setBytes 999 0)) 0x1B ∧ itemOf 999 0 = none) ∧
    (Ready (asked demo .O (req 0x1C [0, 1, 0])) .O (req 0x1C [0, 1, 0]) 0x1C ∧
      itemOf (rd16 0 1) (0 : Byte).toNat = some (.param .arriveTol)) ∧
    (Ready (asked demo .O (req 0x1B (setBytes 34 3))) .O (req 0x1B (setBytes 34 3)) 0x1B ∧
      itemOf 34 0 = some (.param .mastEnable) ∧ demo.cfg.taken .mastEnable 3 ≠ 0 ∧
      demo.cfg.taken .mastEnable 16 = 0) ∧
    (Ready (asked demo .O (req 0x1B [])) .O (req 0x1B []) 0x1B ∧ setParamArgs (req 0x1B []).payload = none) ∧
    (Ready (asked demo .O (req 0x1C [0, 57, 0])) .O (req 0x1C [0, 57, 0]) 0x1C ∧
      itemOf (rd16 0 57) (0 : Byte).toNat = some .snowMode ∧ itemOf (rd16 0 58) (0 : Byte).toNat = some .snowSource ∧
      itemOf (rd16 0 59) (0 : Byte).toNat = some .precipClass ∧ itemOf (rd16 0 60) (0 : Byte).toNat = some .airTemp ∧
      itemOf (rd16 0 61) (0 : Byte).toNat = none) ∧
    (Ready (asked demo .O (req 0x1C [])) .O (req 0x1C []) 0x1C ∧ (req 0x1C []).payload.length ≠ 3) := by
  unfold Ready; decide +kernel

theorem witness_SetAndGetParameters_range : ParamRule (asked demo .O (req 0x1B (setBytes 1 60))) :=
  witness_StepKeepsParamRule.1

theorem witness_SetAndGetParameters_lowered :
    Params.default.lowered .pauseAt 2 = some (.goAt, 1) ∧ Params.default.lowered .pauseAt 8 = none ∧
    Param.azMin ≠ .pauseAt := by decide +kernel

theorem witness_QueriesAnswerTheRecords :
    (Ready (asked demo .S (req 0x50 [32])) .S (req 0x50 [32]) 0x50 ∧ stationArg (req 0x50 [32]).payload = some 31) ∧
    (Ready (asked demo .S (req 0x51 [0, 0, 0])) .S (req 0x51 [0, 0, 0]) 0x51 ∧
      (req 0x51 [0, 0, 0]).payload.head? = some 0 ∧ (req 0x51 [0, 0, 0]).payload.length = 3) ∧
    Ready (asked demo .O (req 0x52 [])) .O (req 0x52 []) 0x52 ∧
    Ready (asked demo .O (req 0x53 [])) .O (req 0x53 []) 0x53 ∧
    Ready (asked demo .O (req 0x54 [])) .O (req 0x54 []) 0x54 ∧
    Ready (asked demo .O (req 0x55 [0])) .O (req 0x55 [0]) 0x55 ∧
    (Ready (asked demo .O (req 0x55 [1])) .O (req 0x55 [1]) 0x55 ∧ stationArg (req 0x55 [1]).payload = some 0) ∧
    (Ready (asked demo .S (req 0x50 [33])) .S (req 0x50 [33]) 0x50 ∧ stationArg (req 0x50 [33]).payload = none) ∧
    (Ready (asked demo .S (req 0x51 [1, 25, 8])) .S (req 0x51 [1, 25, 8]) 0x51 ∧
      (25 : Byte).toNat + (8 : Byte).toNat ≤ 33) ∧
    Ready (asked demo .S (req 0x51 [2, 1, 8])) .S (req 0x51 [2, 1, 8]) 0x51 ∧
    (Ready (asked demo .S (req 0x51 [3, 1, 1])) .S (req 0x51 [3, 1, 1]) 0x51 ∧
      (req 0x51 [3, 1, 1]).payload.head? = some 3 ∧ 2 < (3 : Byte).toNat) ∧
    (Ready (asked demo .O (req 0x55 [33])) .O (req 0x55 [33]) 0x55 ∧ (req 0x55 [33]).payload ≠ [0] ∧
      stationArg (req 0x55 [33]).payload = none) ∧
    (ownRequest .S (req 0x10 []).kind = none ∧ anyRequestKind (req 0x10 []).kind = true ∧
      ownRequest .S (req 0x77 []).kind = none ∧ anyRequestKind (req 0x77 []).kind = false) := by
  unfold Ready; decide +kernel

theorem witness_AckAndDumpComplete :
    Ready (asked demo .S (req 0x56 [3, 255])) .S (req 0x56 [3, 255]) 0x56 ∧
    (Ready (asked demo .O (req 0x57 [0, 0, 1])) .O (req 0x57 [0, 0, 1]) 0x57 ∧ rdFlag 1 = some true) ∧
    (Ready (asked demo .O (req 0x57 [25, 8, 0])) .O (req 0x57 [25, 8, 0]) 0x57 ∧ rdFlag 0 = some false ∧
      1 ≤ (25 : Byte).toNat ∧ (8 : Byte).toNat ≤ 8 ∧ (25 : Byte).toNat + (8 : Byte).toNat ≤ 33) ∧
    (Ready (asked demo .S (req 0x56 [])) .S (req 0x56 []) 0x56 ∧ (req 0x56 []).payload.length ≠ 2) ∧
    (Ready (asked demo .O (req 0x57 [26, 8, 0])) .O (req 0x57 [26, 8, 0]) 0x57 ∧
      ¬ (1 ≤ (8 : Byte).toNat ∧ (8 : Byte).toNat ≤ 8 ∧ (26 : Byte).toNat + (8 : Byte).toNat ≤ 33)) := by
  unfold Ready; decide +kernel

/-! ### Witnesses: site and panel events, expiries -/

/-- A MAST frame of mast 1. -/
def mastFrame : Frame := { kind := kindMast, tag := 0, payload := [1, 0, 10, 0, 20, 0, 30] }
/-- A PRECIP frame of class LIGHT at −1.0 °C. -/
def precipFrame : Frame := { kind := kindPrecip, tag := 0, payload := 1 :: i16 (-10) }
/-- A PRECIP frame of a class that does not exist. -/
def badClass : Frame := { kind := kindPrecip, tag := 0, payload := 4 :: i16 (-10) }
/-- A FEEDER frame. -/
def feederFrame : Frame := { kind := kindFeeder, tag := 0, payload := u16 5000 }
/-- A frame of a kind that no block owns. -/
def otherFrame : Frame := { kind := 0x43, tag := 0, payload := [] }

theorem witness_SiteFramesReachTheirBlocks :
    ((collecting mastFrame).find (after mastFrame) = .good mastFrame [] ∧
      mastArgs mastFrame.payload = some (1, [some 10, some 20, some 30])) ∧
    ((collecting precipFrame).find (after precipFrame) = .good precipFrame [] ∧
      precipArgs precipFrame.payload = some (1, some (-10)) ∧ classOf 1 = some .light) ∧
    ((collecting feederFrame).find (after feederFrame) = .good feederFrame [] ∧
      feederArg feederFrame.payload = some 5000) ∧
    ((collecting badClass).find (after badClass) = .good badClass [] ∧
      precipArgs badClass.payload = some (4, some (-10))) ∧
    ((collecting otherFrame).find (after otherFrame) = .good otherFrame [] ∧ siteFrameTaken otherFrame = false) ∧
    ([some 900, none, some 10].countP (·.isSome) = 2 ∧ Mast.reset.ring.length < 128 ∧
      (List.replicate 128 ({ value := 1, time := 0 } : Sample)).length = 128) := by
  decide +kernel

theorem witness_SiteFramesReachTheirBlocks_precip :
    (let s := { demo with cfg := { demo.cfg with autoSnow := true } }
     (s.takePrecip .light (some (-10))).snow.auto = true ∧ s.snow.auto = false ∧ s.snow.mode = .off) ∧
    demo.cfg.autoSnow = false := by decide +kernel

/-- R88: a reading above 800 takes part in the median as 800, and with two valid readings the higher is taken. -/
theorem test_reading_clamped :
    (Mast.reset.take [some 900, some 10, some 20] 5).ring = [{ value := 20, time := 5 }] ∧
      (Mast.reset.take [some 900, none, some 20] 5).ring = [{ value := 800, time := 5 }] := by decide +kernel

/-- A panel visit to station 1. -/
def panelOne : PanelVisit := { station := 0, lamps := LockRec.reset.lamps, start := 99990, timeout := 10, void := false }

/-- The demo state in that visit. -/
def atPanel : State := { demo with locks := { demo.locks with visit := some panelOne } }

/-- A KEYS reply of station 1 with holder 7 in K1. -/
def keysReply : List Byte :=
  Frame.bytes { kind := kindKeys, tag := 1, payload := encKey (some (7, .full)) ++ encKey none ++ encKey none ++ encKey none }

theorem witness_PanelRepliesComplete :
    (atPanel.locks.visit = some panelOne ∧
      atPanel.goodKeys panelOne keysReply = some [some (7, .full), none, none, none] ∧
      atPanel.panelVoid panelOne = false) ∧
    (let s := { atPanel with locks := { atPanel.locks with visit := some { panelOne with void := true } } }
     s.panelVoid { panelOne with void := true } = true ∧
       s.goodKeys { panelOne with void := true } keysReply = some [some (7, .full), none, none, none]) ∧
    atPanel.goodKeys panelOne [] = none ∧ panelOne.start + panelOne.timeout ≤ atPanel.clock := by decide +kernel

/-- The demo state with a live mast that fell silent. -/
def silentMast : State :=
  { demo with
    wind := { demo.wind with
      masts := upd demo.wind.masts 0 fun m =>
        { m with live := true, ring := [{ value := 1, time := 90000 }], silence := some 95001 } } }

/-- R94: of a frame and a silence expiry of one time, the expiry is still due once the frame's evaluation has judged the mast silent. -/
theorem test_silence_expiry_after_evaluation :
    ((silentMast.evaluate false).wind.masts.get 0).live = false ∧ (silentMast.evaluate false).silenceDue 0 = true ∧
      (silentMast.silenceEnd 0).silenceDue 0 = false := by decide +kernel

/-- R94: a frame that stops a dwell at its expiry leaves the expiry to come, which finds no dwell running and makes no fall. -/
theorem test_dwell_expiry_after_stop :
    let w := windAt 2 .high 110
    let v := w.evaluate Params.default 1000 false
    w.dwellDue 1000 = true ∧ v.dwell = none ∧ v.lapsed = true ∧ v.dwellEvent 1000 = true ∧
      (v.evaluate Params.default 1000 true).stage = .high ∧
      (v.evaluate Params.default 1000 true).dwellEvent 1000 = false := by decide +kernel

/-- The demo state with the mode ON by AUTO and the clear timer at its expiry. -/
def autoSnowing : State :=
  { demo with
    cfg := { demo.cfg with autoSnow := true }
    snow := { demo.snow with clearTimer := some 99999, mode := .on, source := some .auto } }

theorem witness_DueExpiriesAct :
    (demo.modLock 0 fun r => { r with silence := some 100000 }).panelSilenceDue 0 = true ∧
    silentMast.silenceDue 0 = true ∧
    ({ demo with wind := windAt 2 .high 50 } : State).wind.dwellDue 100000 = true ∧
    ({ windAt 2 .high 110 with dwell := none, lapsed := true } : Wind).lapsed = true ∧
    ({ demo with camp := { demo.camp with deadline := some 100000 } } : State).reached (some 100000) = true ∧
    (let s := autoSnowing
     s.reached s.snow.clearTimer = true ∧ s.cfg.autoSnow = true ∧ s.snow.mode = .on ∧ s.snow.source = some .auto) ∧
    demo.timerADue 0 = true ∧
    ((demo.offPhase 0 0).timerBDue 0 = true) ∧
    ((demo.setIdle 0 (some 0)).snow.idleExpiry.get 0 = some 300000 ∧
      ({ demo.setIdle 0 (some 0) with clock := 300000 } : State).reached (some 300000) = true) := by decide +kernel

/-- Station 1 idle for SNOW_IDLE with nothing in the way of a park. -/
def idleOne (el : Int) : State :=
  let s := freeOne.modStn 0 fun r =>
    { r with idleSince := some 0, az := { r.az with pos := some 0 }, el := { r.el with pos := some el } }
  { s with clock := 300000, camp := { s.camp with state := .none } }

theorem witness_DueExpiriesAct_park :
    (idleOne 45000).parkDue 0 = true ∧ ({ idleOne 45000 with clock := 299999 } : State).parkDue 0 = false ∧
    (planSnow (idleOne 45000).cfg 0 (idleOne 45000).wind.stage 0 45000).isNull = false ∧
    (planSnow (idleOne 15000).cfg 0 (idleOne 15000).wind.stage 0 15000).isNull = true ∧
    (idleOne 15000).parkDue 0 = true := by decide +kernel

end Sys2Proof.Tests
end

/-! # The records that only their own commands write (O13)

The commands that wait, site time, the configuration table and FEED_LIMIT are read together as `State.owned`. Each operation of
the model keeps that value, which is said once per operation in the order of the model's files; the commands that write one of its
fields say which. -/

namespace Sys2Proof.Machine

/-- The records of O13: the commands that wait, site time (R1), the configuration table (R181) and FEED_LIMIT (R61). -/
structure OwnedRecords where
  pending : List Instr
  clock : Nat
  cfg : Params
  feedLimit : Nat

/-- The records of O13 as a state holds them. -/
def State.owned (s : State) : OwnedRecords where
  pending := s.pending
  clock := s.clock
  cfg := s.cfg
  feedLimit := s.power.feedLimit

section
variable (s : State)

/-! ### Reading the records -/

/-- The records of a state that is written out field by field. -/
@[simp] theorem owned_mk (clock : Nat) (cfg : Params) (stns : Vector Station 32) (sched : SchedQueue) (oper : OperQueue)
    (power : Power) (wind : Wind) (camp : Campaign) (snow : Snow) (locks : Locks) (bus : Bus) (linkS linkO : LinkState)
    (site : Receiver) (stats : Stats) (choices : Nat) (pending : List Instr) :
    State.owned ⟨clock, cfg, stns, sched, oper, power, wind, camp, snow, locks, bus, linkS, linkO, site, stats, choices, pending⟩ =
      ⟨pending, clock, cfg, power.feedLimit⟩ := rfl

/-- The four records of one state are its owned records. -/
@[simp] theorem owned_eta : OwnedRecords.mk s.pending s.clock s.cfg s.power.feedLimit = s.owned := rfl

/-- The records pass through a branch, so that an operation whose branches all keep them keeps them. -/
@[simp] theorem owned_ite (p : Prop) [Decidable p] (t : State) :
    (if p then s else t).owned = if p then s.owned else t.owned := apply_ite State.owned p s t

/-- A pass over a list keeps the records of the state in what it carries where every step does. -/
theorem foldl_owned_of {α β : Type} (st : β → State) {f : β → α → β} (h : ∀ x a, (st (f x a)).owned = (st x).owned)
    (l : List α) (x : β) : (st (l.foldl f x)).owned = (st x).owned := by
  induction l generalizing x with
  | nil => rfl
  | cons a l ih => rw [List.foldl_cons, ih, h]

/-- A pass over a list that carries the state alone. -/
@[simp] theorem foldl_owned {α : Type} {f : State → α → State} (h : ∀ s a, (f s a).owned = s.owned) (l : List α) :
    (l.foldl f s).owned = s.owned := foldl_owned_of id h l s

/-! ### Links, lines and notices -/

@[simp] theorem modLink_owned (l : Link) (f : LinkState → LinkState) : (s.modLink l f).owned = s.owned := by cases l <;> rfl

@[simp] theorem modLine_owned (ln : Line) (f : LineStats → LineStats) : (s.modLine ln f).owned = s.owned := by cases ln <;> rfl

@[simp] theorem modStnStats_owned (i : Stn) (f : StnStats → StnStats) : (s.modStnStats i f).owned = s.owned := rfl

@[simp] theorem notice_owned (l : Link) (x : NoticeFlag) : (s.notice l x).owned = s.owned := modLink_owned ..

@[simp] theorem noticeBoth_owned (x : NoticeFlag) : (s.noticeBoth x).owned = s.owned := by simp [State.noticeBoth]

@[simp] theorem report_owned (l : Link) (f : Frame) : (s.report l f).owned = s.owned := by simp [State.report]

/-! ### The records of a station -/

@[simp] theorem modStn_owned (i : Stn) (f : Station → Station) : (s.modStn i f).owned = s.owned := rfl
@[simp] theorem modCab_owned (i : Stn) (f : Cabinet → Cabinet) : (s.modCab i f).owned = s.owned := rfl
@[simp] theorem modChan_owned (i : Stn) (f : Channel → Channel) : (s.modChan i f).owned = s.owned := rfl
@[simp] theorem setPark_owned (i : Stn) (p : Option ParkStep) : (s.setPark i p).owned = s.owned := rfl
@[simp] theorem modLock_owned (i : Stn) (f : LockRec → LockRec) : (s.modLock i f).owned = s.owned := rfl
@[simp] theorem modMotionGrant_owned (i : Stn) (f : Grant → Grant) : (s.modMotionGrant i f).owned = s.owned := rfl
@[simp] theorem modHeatGrant_owned (i : Stn) (f : Grant → Grant) : (s.modHeatGrant i f).owned = s.owned := rfl
@[simp] theorem modRoster_owned (i : Stn) (f : RosterEntry → RosterEntry) : (s.modRoster i f).owned = s.owned := rfl
@[simp] theorem setRoster_owned (i : Stn) (st : RosterStatus) : (s.setRoster i st).owned = s.owned := rfl
@[simp] theorem setIdle_owned (i : Stn) (t : Option Nat) : (s.setIdle i t).owned = s.owned := rfl
@[simp] theorem leaveMotion_owned (i : Stn) : (s.leaveMotion i).owned = s.owned := rfl
@[simp] theorem leaveHeat_owned (i : Stn) : (s.leaveHeat i).owned = s.owned := rfl
@[simp] theorem modGroup_owned (n : Nat) (f : Group → Group) : (s.modGroup n f).owned = s.owned := rfl
@[simp] theorem modSteer_owned (n : Nat) (f : Steer → Steer) : (s.modSteer n f).owned = s.owned := rfl

@[simp] theorem joinList_owned (b : Waiting) (c : GrantClass) (prio : Nat) : (s.joinList b c prio).owned = s.owned := rfl

@[simp] theorem setMotion_owned (i : Stn) (m : Motion) : (s.setMotion i m).owned = s.owned := by simp [State.setMotion]

/-! ### Command slots, outcomes and stops -/

@[simp] theorem placeMotion_owned (i : Stn) (c : MotionCmd) : (s.placeMotion i c).owned = s.owned := by
  simp [State.placeMotion]

@[simp] theorem placePin_owned (i : Stn) (c : PinCmd) : (s.placePin i c).owned = s.owned := rfl

@[simp] theorem placeHeat_owned (i : Stn) (c : HeatCmd) : (s.placeHeat i c).owned = s.owned := rfl

@[simp] theorem withdrawMotion_owned (i : Stn) (p : MotionCmd → Bool) : (s.withdrawMotion i p).owned = s.owned := by
  unfold State.withdrawMotion
  split <;> simp

@[simp] theorem withdrawPin_owned (i : Stn) (c : PinCmd) : (s.withdrawPin i c).owned = s.owned := by
  unfold State.withdrawPin
  split <;> simp

@[simp] theorem emptySlots_owned (i : Stn) : (s.emptySlots i).owned = s.owned := rfl

@[simp] theorem stowOutcome_owned (i : Stn) (o : MoveOutcome) : (s.stowOutcome i o).owned = s.owned := by
  simp [State.stowOutcome]

@[simp] theorem snowOutcome_owned (i : Stn) : (s.snowOutcome i).owned = s.owned := by simp [State.snowOutcome]

@[simp] theorem giveOutcome_owned (i : Stn) (o : MoveOutcome) : (s.giveOutcome i o).owned = s.owned := by
  unfold State.giveOutcome
  cases (s.stn i).owner with
  | none => rfl
  | some w => cases w <;> simp

@[simp] theorem withdrawWaiting_owned (i : Stn) (o : MoveOutcome) : (s.withdrawWaiting i o).owned = s.owned := by
  simp [State.withdrawWaiting]

@[simp] theorem stopMoving_owned (i : Stn) (o : MoveOutcome) : (s.stopMoving i o).owned = s.owned := by
  simp [State.stopMoving]

@[simp] theorem brakePointed_owned (i : Stn) : (s.brakePointed i).owned = s.owned := by simp [State.brakePointed]

@[simp] theorem beginAdmitting_owned (i : Stn) (w : Owner) : (s.beginAdmitting i w).owned = s.owned := by
  simp [State.beginAdmitting]

@[simp] theorem leaveStowed_owned (i : Stn) (r : Reason) : (s.leaveStowed i r).owned = s.owned := by
  simp [State.leaveStowed]

/-! ### The power allocator -/

@[simp] theorem setTargets_owned (p : Plan) : (s.setTargets p).owned = s.owned := rfl

@[simp] theorem admitMotion_owned (c : GrantClass) (seq : BitVec 32) (p : Plan) :
    (s.admitMotion c seq p).owned = s.owned := by
  unfold State.admitMotion
  dsimp only
  split
  · split <;> simp
  · rfl

@[simp] theorem admitHeat_owned (seq : BitVec 32) (i : Stn) : (s.admitHeat seq i).owned = s.owned := rfl

@[simp] theorem admitEntry_owned (e : Entry) : (s.admitEntry e).owned = s.owned := by
  unfold State.admitEntry
  cases e.body <;> simp

@[simp] theorem stopHeat_owned (i : Stn) (a : AfterStop) : (s.stopHeat i a).owned = s.owned := rfl

@[simp] theorem cutHeater_owned (i : Stn) : (s.cutHeater i).owned = s.owned := rfl

@[simp] theorem reconsiderN_owned (n : Nat) : (State.reconsiderN n s).owned = s.owned := by
  induction n generalizing s with
  | zero => rfl
  | succ n ih =>
    unfold State.reconsiderN
    split
    · rfl
    · simp only [owned_ite, ih, admitEntry_owned, foldl_owned s cutHeater_owned, ite_self]

@[simp] theorem reconsider_owned : s.reconsider.owned = s.owned := reconsiderN_owned ..

@[simp] theorem markShed_owned (i : Stn) : (s.markShed i).owned = s.owned := rfl

/-- A deficit action cuts a heater or stops a dish, and neither touches the capacity that it answers to (R79). -/
@[simp] theorem deficitActs_owned (n : Nat) : (State.deficitActs n s).owned = s.owned := by
  induction n generalizing s with
  | zero => rfl
  | succ n ih =>
    unfold State.deficitActs
    split
    · rfl
    · split
      · simp [ih]
      · split
        · simp [ih]
        · split <;> simp [ih]

@[simp] theorem setDeficit_owned (b : Bool) : (s.setDeficit b).owned = s.owned := by simp [State.setDeficit]

@[simp] theorem enterDeficit_owned : s.enterDeficit.owned = s.owned := by
  unfold State.enterDeficit
  split
  · rfl
  · exact setDeficit_owned s true

@[simp] theorem judgeDeficit_owned : s.judgeDeficit.owned = s.owned := by simp [State.judgeDeficit]

@[simp] theorem judgePower_owned (force : Bool) (old : State) : (judgePower force old s).owned = s.owned := by
  simp [judgePower]

/-- A join that keeps the records keeps them also as an event of its own. -/
theorem ownJoin_owned {join : State → State} (h : ∀ s, (join s).owned = s.owned) (x : State × State) :
    (ownJoin join x).2.owned = x.2.owned := by
  unfold ownJoin
  split <;> simp [h]

@[simp] theorem lowerMotion_owned (i : Stn) (st : CabStatus) : (s.lowerMotion i st).owned = s.owned := rfl

@[simp] theorem endHeatGrant_owned (i : Stn) : (s.endHeatGrant i).owned = s.owned := rfl

@[simp] theorem allocReply_owned (i : Stn) (st : CabStatus) : (s.allocReply i st).owned = s.owned := rfl

/-! ### Heater channels, snow mode and idle parks -/

@[simp] theorem setChan_owned (i : Stn) (h : HeaterState) : (s.setChan i h).owned = s.owned := rfl

@[simp] theorem offPhase_owned (i : Stn) (secs : Nat) : (s.offPhase i secs).owned = s.owned := rfl

@[simp] theorem startCycleAs_owned (i : Stn) (stowed : Bool) : (s.startCycleAs i stowed).owned = s.owned := by
  simp [State.startCycleAs]

@[simp] theorem startCycle_owned (i : Stn) : (s.startCycle i).owned = s.owned := startCycleAs_owned ..

@[simp] theorem enterOffPhase_owned (i : Stn) (stowed : Bool) : (s.enterOffPhase i stowed).owned = s.owned := by
  unfold State.enterOffPhase
  split <;> simp

@[simp] theorem confirmStop_owned (i : Stn) (stowed : Bool) : (s.confirmStop i stowed).owned = s.owned := by
  unfold State.confirmStop
  dsimp only
  cases (s.chan i).after with
  | none => simp
  | some a => cases a <;> simp

@[simp] theorem barRise_owned (i : Stn) : (s.barRise i).owned = s.owned := by
  unfold State.barRise
  split <;> simp

@[simp] theorem barFall_owned (i : Stn) (stowed : Bool) : (s.barFall i stowed).owned = s.owned := by simp [State.barFall]

@[simp] theorem judgeBarAs_owned (i : Stn) (stowed : Bool) : (s.judgeBarAs i stowed).owned = s.owned := by
  simp [State.judgeBarAs]

@[simp] theorem judgeBar_owned (i : Stn) : (s.judgeBar i).owned = s.owned := judgeBarAs_owned ..

@[simp] theorem withdrawHeat_owned (i : Stn) : (s.withdrawHeat i).owned = s.owned := rfl

@[simp] theorem settleHeatFirst_owned (i : Stn) (closed : Bool) : (s.settleHeatFirst i closed).owned = s.owned := by
  simp [State.settleHeatFirst]

@[simp] theorem loseHeat_owned (i : Stn) : (s.loseHeat i).owned = s.owned := rfl

@[simp] theorem askHeatOff_owned (i : Stn) : (s.askHeatOff i).owned = s.owned := by simp [State.askHeatOff]

@[simp] theorem heatReply_owned (i : Stn) (closed taken : Bool) (a : Answer) (stowed : Bool) :
    (s.heatReply i closed taken a stowed).owned = s.owned := by
  unfold State.heatReply
  split <;> simp

@[simp] theorem judgePark_owned (i : Stn) : (s.judgePark i).owned = s.owned := by simp [State.judgePark]

@[simp] theorem judgeParks_owned : s.judgeParks.owned = s.owned := by simp [State.judgeParks]

@[simp] theorem chanModeOn_owned (i : Stn) : (s.chanModeOn i).owned = s.owned := by simp [State.chanModeOn]

@[simp] theorem chanModeOff_owned (i : Stn) : (s.chanModeOff i).owned = s.owned := by
  unfold State.chanModeOff
  split <;> simp

@[simp] theorem snowTurnOn_owned (src : SnowSource) : (s.snowTurnOn src).owned = s.owned := by simp [State.snowTurnOn]

@[simp] theorem snowTurnOff_owned : s.snowTurnOff.owned = s.owned := by simp [State.snowTurnOff]

@[simp] theorem judgeAuto_owned (before : Bool) : (s.judgeAuto before).owned = s.owned := by simp [State.judgeAuto]

@[simp] theorem clearStep_owned (c : PrecipClass) : (s.clearStep c).owned = s.owned := rfl

@[simp] theorem takePrecip_owned (c : PrecipClass) (air : Option Int) : (s.takePrecip c air).owned = s.owned := by
  simp [State.takePrecip]

/-! ### The lockout manager -/

@[simp] theorem lockTakesEffect_owned (i : Stn) : (s.lockTakesEffect i).owned = s.owned := by
  unfold State.lockTakesEffect
  split <;> simp

@[simp] theorem setLockStatus_owned (i : Stn) (new : LockStatus) : (s.setLockStatus i new).owned = s.owned := by
  simp [State.setLockStatus]

@[simp] theorem judgeLock_owned (i : Stn) : (s.judgeLock i).owned = s.owned := by simp [State.judgeLock]

@[simp] theorem judgeRest_owned (i : Stn) : (s.judgeRest i).owned = s.owned := by simp [State.judgeRest]

@[simp] theorem judgeRests_owned : s.judgeRests.owned = s.owned := by simp [State.judgeRests]

@[simp] theorem judgeLockBar_owned (i : Stn) : (s.judgeLockBar i).owned = s.owned := by simp [State.judgeLockBar]

@[simp] theorem warningEnd_owned (i : Stn) : (s.warningEnd i).owned = s.owned := by
  unfold State.warningEnd
  dsimp only
  split <;> simp

@[simp] theorem joinSlot_owned (i : Stn) (k : Fin 6) (holder : Nat) (kind : LockKind) :
    (s.joinSlot i k holder kind).owned = s.owned := rfl

@[simp] theorem emptySlot_owned (i : Stn) (k : Fin 6) : (s.emptySlot i k).owned = s.owned := rfl

@[simp] theorem compareSlot_owned (i : Stn) (x : Fin 6 × Option (Nat × LockKind)) :
    (State.compareSlot i s x).owned = s.owned := by
  unfold State.compareSlot
  split <;> simp

@[simp] theorem takeKeys_owned (i : Stn) (keys : List (Option (Nat × LockKind))) : (s.takeKeys i keys).owned = s.owned := by
  simp [State.takeKeys]

@[simp] theorem panelSilent_owned (i : Stn) : (s.panelSilent i).owned = s.owned := by simp [State.panelSilent]

@[simp] theorem moveSilence_owned (i : Stn) : (s.moveSilence i).owned = s.owned := by
  unfold State.moveSilence
  dsimp only
  split
  · split <;> simp
  · rfl

@[simp] theorem lockReply_owned (i : Stn) (st : CabStatus) (a : Answer) : (s.lockReply i st a).owned = s.owned := by
  simp [State.lockReply]

/-! ### The stow sequencer -/

@[simp] theorem displayNotices_owned (old : State) : (displayNotices old s).owned = s.owned := by simp [displayNotices]

@[simp] theorem setCamp_owned (st : CampState) : (s.setCamp st).owned = s.owned := by simp [State.setCamp]

@[simp] theorem giveEntry_owned (i : Stn) (st : RosterStatus) : (s.giveEntry i st).owned = s.owned := rfl

@[simp] theorem dropEntry_owned (i : Stn) : (s.dropEntry i).owned = s.owned := rfl

@[simp] theorem joinCampaign_owned (i : Stn) : (s.joinCampaign i).owned = s.owned := by simp [State.joinCampaign]

@[simp] theorem buildEntry_owned (i : Stn) : (s.buildEntry i).owned = s.owned := by
  unfold State.buildEntry
  split <;> simp

@[simp] theorem preemptWaitingSteers_owned : s.preemptWaitingSteers.owned = s.owned := rfl

@[simp] theorem startCampaign_owned (c : CampCause) (kept : List Stn) : (s.startCampaign c kept).owned = s.owned := by
  simp [State.startCampaign]

@[simp] theorem restartEntry_owned (e : RosterEntry) : (s.restartEntry e).owned = s.owned := by simp [State.restartEntry]

@[simp] theorem startOrRestart_owned (c : CampCause) : (s.startOrRestart c).owned = s.owned := by
  simp [State.startOrRestart]

@[simp] theorem judgeRejoin_owned (i : Stn) : (s.judgeRejoin i).owned = s.owned := by
  unfold State.judgeRejoin
  split
  · rfl
  · split
    · split <;> simp
    · rfl

@[simp] theorem judgeWaitRest_owned (i : Stn) : (s.judgeWaitRest i).owned = s.owned := by
  unfold State.judgeWaitRest
  split
  · split <;> simp
  · rfl

@[simp] theorem rosterStep_owned (old : State) (i : Stn) : (rosterStep old i s).owned = s.owned := by simp [rosterStep]

@[simp] theorem rosterPass_owned (old : State) (x : State × State) : (rosterPass old x).2.owned = x.2.owned :=
  foldl_owned_of Prod.snd (fun x i => ownJoin_owned (fun s => rosterStep_owned s old i) x) _ x

@[simp] theorem endCampaign_owned : s.endCampaign.owned = s.owned := by simp [State.endCampaign]

@[simp] theorem judgeCampaign_owned : s.judgeCampaign.owned = s.owned := by
  unfold State.judgeCampaign
  split <;> simp

@[simp] theorem rejoinAll_owned (old : State) : (s.rejoinAll old).owned = s.owned :=
  foldl_owned_of Prod.snd (fun x i => ownJoin_owned (fun s => judgeRejoin_owned s i) x) _ (old, s)

@[simp] theorem resumeCampaign_owned : s.resumeCampaign.owned = s.owned := by simp [State.resumeCampaign]

@[simp] theorem addCause_owned (c : CampCause) : (s.addCause c).owned = s.owned := rfl

@[simp] theorem stowTakesStage_owned (old : State) : (s.stowTakesStage old).owned = s.owned := by
  unfold State.stowTakesStage
  dsimp only
  split
  · split <;> simp
  · simp

@[simp] theorem beginPinning_owned (i : Stn) : (s.beginPinning i).owned = s.owned := rfl

@[simp] theorem beginStowBrake_owned (i : Stn) (noPin : Bool) : (s.beginStowBrake i noPin).owned = s.owned := by
  simp [State.beginStowBrake]

@[simp] theorem completeStow_owned (i : Stn) (noPin : Bool) : (s.completeStow i noPin).owned = s.owned := by
  simp [State.completeStow]

@[simp] theorem pinDrawn_owned (i : Stn) : (s.pinDrawn i).owned = s.owned := by simp [State.pinDrawn]

@[simp] theorem pinStuck_owned (i : Stn) : (s.pinStuck i).owned = s.owned := rfl

@[simp] theorem stowReply_owned (i : Stn) (st : CabStatus) (tk : TakenFlags) (a : Answer) :
    (s.stowReply i st tk a).owned = s.owned := by
  unfold State.stowReply
  split
  · rfl
  · split
    · simp
    · cases st.pin <;> simp
    · simp
    · cases st.pin <;> simp
    · rfl

@[simp] theorem unstowEntry_owned (i : Stn) : (s.unstowEntry i).owned = s.owned := by simp [State.unstowEntry]

@[simp] theorem beginEnding_owned : s.beginEnding.owned = s.owned := by simp [State.beginEnding]

/-! ### The motion queues -/

@[simp] theorem completeGroup_owned (g : Group) (byClear : Bool) : (s.completeGroup g byClear).owned = s.owned := by
  simp [State.completeGroup]

@[simp] theorem completeSteer_owned (t : Steer) : (s.completeSteer t).owned = s.owned := by simp [State.completeSteer]

@[simp] theorem countArrival_owned (i : Stn) : (s.countArrival i).owned = s.owned := rfl

@[simp] theorem dispatchMember_owned (g : Group) (x : State × List Plan) (i : Stn) :
    (State.dispatchMember g x i).1.owned = x.1.owned := by
  unfold State.dispatchMember
  dsimp only
  split
  · simp
  · split
    · rfl
    · split
      · simp
      · split <;> simp

@[simp] theorem dispatchGroup_owned (g : Group) : (s.dispatchGroup g).owned = s.owned := by
  have members (x : State × List Plan) : (g.stations.foldl (State.dispatchMember g) x).1.owned = x.1.owned :=
    foldl_owned_of Prod.fst (dispatchMember_owned g) _ x
  unfold State.dispatchGroup
  cases g.mode with
  | stagger => exact (foldl_owned _ (fun s p => joinList_owned s _ _ _) _).trans (members _)
  | gang => simp [members]

@[simp] theorem planSteer_owned (t : Steer) : (s.planSteer t).owned = s.owned := by
  unfold State.planSteer
  dsimp only
  split
  · split <;> simp
  · rfl

@[simp] theorem steerWaits_owned (t : Steer) : (s.steerWaits t).owned = s.owned := rfl

@[simp] theorem dispatchSteer_owned (t : Steer) : (s.dispatchSteer t).owned = s.owned := by
  unfold State.dispatchSteer
  dsimp only
  split <;> simp

@[simp] theorem endWait_owned (t : Steer) : (s.endWait t).owned = s.owned := by
  unfold State.endWait
  split <;> simp

@[simp] theorem takeAct_owned (a : QueueAct) : (s.takeAct a).owned = s.owned := by
  cases a <;> simp [State.takeAct]

@[simp] theorem queuePass_owned (n : Nat) : (State.queuePass n s).owned = s.owned := by
  induction n generalizing s with
  | zero => rfl
  | succ n ih =>
    unfold State.queuePass
    split
    · rfl
    · rw [ih, takeAct_owned]

@[simp] theorem endOwned_owned (w : Owner) (o : MoveOutcome) (i : Stn) : (State.endOwned w o s i).owned = s.owned := by
  unfold State.endOwned
  split
  · split <;> simp
  · rfl

@[simp] theorem endGroup_owned (o : MoveOutcome) (g : Group) : (State.endGroup o s g).owned = s.owned := by
  simp [State.endGroup]

@[simp] theorem clearSteer_owned (t : Steer) : (s.clearSteer t).owned = s.owned := by simp [State.clearSteer]

@[simp] theorem clearedGroup_owned (n : Nat) : (s.clearedGroup n).owned = s.owned := by
  unfold State.clearedGroup
  split <;> simp

@[simp] theorem clearedSteer_owned (n : Nat) : (s.clearedSteer n).owned = s.owned := by
  unfold State.clearedSteer
  split <;> simp

@[simp] theorem clearQueues_owned : s.clearQueues.owned = s.owned := by simp [State.clearQueues]

@[simp] theorem haltStation_owned (i : Stn) : (s.haltStation i).owned = s.owned := by
  unfold State.haltStation
  split <;> simp

/-! ### What follows an event -/

@[simp] theorem parksAfterCampaign_owned (acted : State) : (parksAfterCampaign acted s).owned = s.owned := by
  simp [parksAfterCampaign]

@[simp] theorem settleOnce_owned (force : Bool) (old : State) : (settleOnce force old s).owned = s.owned := by
  simp [settleOnce]

@[simp] theorem settleMore_owned (n : Nat) : (settleMore n s).owned = s.owned := by
  induction n generalizing s with
  | zero => rfl
  | succ n ih => simp [settleMore, ih]

/-- What follows an event keeps the records, whatever the event was. -/
@[simp] theorem settle_owned (force : Bool) (old : State) : (settle force old s).owned = s.owned := by simp [settle]

/-! ### The wind monitor -/

@[simp] theorem replanAll_owned : s.replanAll.owned = s.owned := rfl

@[simp] theorem handStage_owned (old : State) : (s.handStage old).owned = s.owned := by
  unfold State.handStage
  split
  · rfl
  · simp

@[simp] theorem evaluate_owned (expiry : Bool) : (s.evaluate expiry).owned = s.owned := by simp [State.evaluate]

@[simp] theorem takeMast_owned (num : Nat) (readings : List (Option Nat)) : (s.takeMast num readings).owned = s.owned := by
  unfold State.takeMast
  split <;> simp

@[simp] theorem enableMasts_owned (before : Params) : (s.enableMasts before).owned = s.owned := rfl

@[simp] theorem moveMastSilence_owned : s.moveMastSilence.owned = s.owned := rfl

@[simp] theorem silenceEnd_owned (i : MastNo) : (s.silenceEnd i).owned = s.owned := by simp [State.silenceEnd]

/-! ### The drive bus and the panel line -/

@[simp] theorem beginVisit_owned (i : Stn) : (s.beginVisit i).owned = s.owned := rfl

@[simp] theorem nextVisit_owned (after : Option Stn) : (s.nextVisit after).owned = s.owned := by
  unfold State.nextVisit
  split <;> simp

@[simp] theorem nextPanel_owned (after : Option Stn) : (s.nextPanel after).owned = s.owned := rfl

@[simp] theorem lose_owned (i : Stn) : (s.lose i).owned = s.owned := by simp [State.lose]

@[simp] theorem stopAfresh_owned (i : Stn) : (s.stopAfresh i).owned = s.owned := by simp [State.stopAfresh]

@[simp] theorem resolveFirst_owned (i : Stn) (st : CabStatus) : (s.resolveFirst i st).owned = s.owned := by
  simp [State.resolveFirst]

@[simp] theorem takenAway_owned (i : Stn) (m : Motion) (r : Reason) (o : MoveOutcome) :
    (s.takenAway i m r o).owned = s.owned := by simp [State.takenAway]

@[simp] theorem judgeArrival_owned (i : Stn) (st : CabStatus) : (s.judgeArrival i st).owned = s.owned := by
  simp [State.judgeArrival]

@[simp] theorem moveRefused_owned (i : Stn) (st : CabStatus) (origin : Posture) (v : Verdict) :
    (s.moveRefused i st origin v).owned = s.owned := by simp [State.moveRefused]

@[simp] theorem stationRemote_owned (i : Stn) (st : CabStatus) (tk : TakenFlags) (a : Answer) (mark : Bool) :
    (s.stationRemote i st tk a mark).owned = s.owned := by
  unfold State.stationRemote
  cases (s.stn i).motion with
  | slewing =>
    dsimp only
    split
    · simp
    · split <;> simp
  | stowing =>
    dsimp only
    split <;> simp
  | _ => simp

@[simp] theorem stationReply_owned (i : Stn) (st : CabStatus) (first : Bool) (tk : TakenFlags) (a : Answer) (mark : Bool) :
    (s.stationReply i st first tk a mark).owned = s.owned := by simp [State.stationReply]

@[simp] theorem parkReply_owned (i : Stn) (st : CabStatus) (tk : TakenFlags) : (s.parkReply i st tk).owned = s.owned := by
  unfold State.parkReply
  split
  · split <;> simp
  · rfl

@[simp] theorem allocFirst_owned (i : Stn) (st : CabStatus) (first : Bool) (a : Answer) :
    (s.allocFirst i st first a).owned = s.owned := by simp [State.allocFirst]

@[simp] theorem returnRejected_owned (i : Stn) (st : CabStatus) (a : Answer) : (s.returnRejected i st a).owned = s.owned := by
  unfold State.returnRejected
  split <;> simp

@[simp] theorem lockAndStation_owned (i : Stn) (st : CabStatus) (first : Bool) (tk : TakenFlags) (a : Answer) (mark : Bool) :
    (s.lockAndStation i st first tk a mark).owned = s.owned := by simp [State.lockAndStation]

@[simp] theorem jobsReply_owned (i : Stn) (st : CabStatus) (tk : TakenFlags) (a : Answer) :
    (s.jobsReply i st tk a).owned = s.owned := by simp [State.jobsReply]

@[simp] theorem heatTakes_owned (i : Stn) (st : CabStatus) (first : Bool) (tk : TakenFlags) (a : Answer) (was : Bool) :
    (s.heatTakes i st first tk a was).owned = s.owned := by simp [State.heatTakes]

@[simp] theorem takeReply_owned (i : Stn) (st : CabStatus) (a : Answer) : (s.takeReply i st a).owned = s.owned := by
  simp [State.takeReply]

@[simp] theorem endVisit_owned (v : BusVisit) : (s.endVisit v).owned = s.owned := nextVisit_owned ..

@[simp] theorem dropOutstanding_owned (i : Stn) : (s.dropOutstanding i).owned = s.owned := rfl

@[simp] theorem judgeLoss_owned (i : Stn) : (s.judgeLoss i).owned = s.owned := by simp [State.judgeLoss]

@[simp] theorem miss_owned (i : Stn) : (s.miss i).owned = s.owned := by simp [State.miss]

@[simp] theorem enableStation_owned (i : Stn) : (s.enableStation i).owned = s.owned := by
  unfold State.enableStation
  dsimp only
  split <;> simp

@[simp] theorem voidVisits_owned (i : Stn) : (s.voidVisits i).owned = s.owned := rfl

@[simp] theorem disableStation_owned (i : Stn) : (s.disableStation i).owned = s.owned := by simp [State.disableStation]

@[simp] theorem wakeLines_owned : s.wakeLines.owned = s.owned := by
  unfold State.wakeLines
  cases s.bus.visit <;> dsimp only <;> split <;> simp

/-! ### Receivers and requests -/

@[simp] theorem setRx_owned (ln : Line) (r : Receiver) : (s.setRx ln r).owned = s.owned := by cases ln <;> rfl

@[simp] theorem discard_owned (ln : Line) (held : List Byte) : (s.discard ln held).owned = s.owned := by simp [State.discard]

@[simp] theorem gathered_owned (ln : Line) (rest : List Byte) : (s.gathered ln rest).owned = s.owned := by
  simp [State.gathered]

@[simp] theorem joinFifo_owned (l : Link) (f : Frame) : (s.joinFifo l f).owned = s.owned := by simp [State.joinFifo]

/-- A site frame is read in a state whose records are those before it. -/
theorem siteFrame_owned {s t : State} {bytes : List Byte} {p : Frame → Bool} {f : Frame}
    (h : s.siteFrame bytes p = some (f, t)) : t.owned = s.owned := by
  unfold State.siteFrame at h
  split at h
  · split at h
    · cases h
      exact gathered_owned ..
    · cases h
  · cases h

@[simp] theorem openRequest_owned (l : Link) (f : Frame) : (s.openRequest l f).owned = s.owned := modLink_owned ..

@[simp] theorem answer_owned (l : Link) (kind : Byte) (c : Code) (data : List Byte) :
    (s.answer l kind c data).owned = s.owned := modLink_owned ..

@[simp] theorem takeQuery_owned (l : Link) (c : Instr) (q : State → List Byte → Code × List Byte) :
    (s.takeQuery l c q).owned = s.owned := by
  unfold State.takeQuery
  split <;> simp

/-- After a request the records are those before it, or those that its handler leaves. -/
theorem takeRequest_owned_cases (l : Link) (c : Instr) (h : State → List Byte → Result) :
    (s.takeRequest l c h).owned = s.owned ∨
      ∃ f : Frame, (s.takeRequest l c h).owned = (h (s.openRequest l f) f.payload).state.owned := by
  unfold State.takeRequest
  split
  · exact .inl rfl
  · rename_i f _
    exact .inr ⟨f, by simp⟩

/-- A request whose handler keeps the records keeps them. -/
theorem takeRequest_owned {h : State → List Byte → Result} (hh : ∀ s p, (h s p).state.owned = s.owned) (l : Link)
    (c : Instr) : (s.takeRequest l c h).owned = s.owned := by
  rcases takeRequest_owned_cases s l c h with e | ⟨f, e⟩
  · exact e
  · rw [e, hh, openRequest_owned]

/-- A request of the flags or the statistics whose handler keeps the records keeps them. -/
theorem takeLocal_owned {h : State → List Byte → Result} (hh : ∀ s p, (h s p).state.owned = s.owned) (l : Link)
    (c : Instr) : (s.takeLocal l c h).owned = s.owned := by
  unfold State.takeLocal
  split <;> simp [hh]

@[simp] theorem takeUnknown_owned (l : Link) : (s.takeUnknown l).owned = s.owned := by
  unfold State.takeUnknown
  split <;> simp

/-! ### What the handlers of the requests leave -/

@[simp] theorem refuse_state (c : Code) : (s.refuse c).state = s := rfl

@[simp] theorem done_state (data : List Byte) : (s.done data).state = s := rfl

/-- A request without arguments keeps the records where what it runs keeps them. -/
theorem noArgs_owned {s : State} {r : Unit → Result} (h : (r ()).state.owned = s.owned) (p : List Byte) :
    (noArgs p r s).state.owned = s.owned := by
  unfold noArgs
  split
  · exact h
  · rfl

theorem takeSlew_owned (p : List Byte) : (takeSlew s p).state.owned = s.owned := by
  unfold takeSlew
  split
  · rfl
  · split <;> simp [State.addGroup]

theorem takeCancel_owned (p : List Byte) : (takeCancel s p).state.owned = s.owned := by
  unfold takeCancel
  split
  · split
    · rfl
    · split <;> simp
  · rfl

theorem takeFlush_owned (p : List Byte) : (takeFlush s p).state.owned = s.owned := noArgs_owned (by simp) p

theorem takeResume_owned (p : List Byte) : (takeResume s p).state.owned = s.owned := noArgs_owned (by simp) p

theorem takeRest_owned (p : List Byte) : (takeRest s p).state.owned = s.owned := by
  unfold takeRest
  split <;> simp

theorem takeSteer_owned (p : List Byte) : (takeSteer s p).state.owned = s.owned := by
  unfold takeSteer
  split
  · rfl
  · split <;> simp [State.addSteer]

theorem takeHalt_owned (p : List Byte) : (takeHalt s p).state.owned = s.owned := by
  unfold takeHalt
  split <;> simp

@[simp] theorem stowAll_owned : s.stowAll.owned = s.owned := by
  unfold State.stowAll
  split <;> simp

theorem takeStowAll_owned (p : List Byte) : (takeStowAll s p).state.owned = s.owned := noArgs_owned (by simp) p

theorem takeUnstow_owned (p : List Byte) : (takeUnstow s p).state.owned = s.owned := by
  refine noArgs_owned ?_ p
  dsimp only
  split
  · simp
  · split <;> rfl

theorem takeSnowOn_owned (p : List Byte) : (takeSnowOn s p).state.owned = s.owned := noArgs_owned (by simp) p

theorem takeSnowOff_owned (p : List Byte) : (takeSnowOff s p).state.owned = s.owned := noArgs_owned (by simp) p

theorem takeConsoleLock_owned (p : List Byte) : (takeConsoleLock s p).state.owned = s.owned := by
  unfold takeConsoleLock
  split
  · rfl
  · split <;> simp

theorem takeConsoleUnlock_owned (p : List Byte) : (takeConsoleUnlock s p).state.owned = s.owned := by
  unfold takeConsoleUnlock
  split
  · rfl
  · split
    · rfl
    · split <;> simp

theorem takeWriteOff_owned (p : List Byte) : (takeWriteOff s p).state.owned = s.owned := by
  unfold takeWriteOff
  split
  · rfl
  · split <;> simp

theorem takeEnable_owned (p : List Byte) : (takeEnable s p).state.owned = s.owned := by
  unfold takeEnable
  split <;> simp

theorem takeDisable_owned (p : List Byte) : (takeDisable s p).state.owned = s.owned := by
  unfold takeDisable
  split
  · rfl
  · dsimp only
    split <;> simp

theorem takeClear_owned (p : List Byte) : (takeClear s p).state.owned = s.owned := noArgs_owned (by simp) p

theorem takeAck_owned (l : Link) (p : List Byte) : (takeAck l s p).state.owned = s.owned := by
  unfold takeAck
  split <;> simp

@[simp] theorem dumpArray_owned (clear : Bool) : (dumpArray s clear).state.owned = s.owned := by simp [dumpArray]

@[simp] theorem dumpRange_owned (l : List Stn) (clear : Bool) : (dumpRange s l clear).state.owned = s.owned := by
  simp [dumpRange]

theorem takeDump_owned (p : List Byte) : (takeDump s p).state.owned = s.owned := by
  unfold takeDump
  split
  · split
    · rfl
    · split
      · simp
      · split <;> simp
  · rfl

/-! ### SET and FEEDER, the writers -/

/-- The owning rule of a parameter takes the table as SET wrote it and writes none itself (R181). -/
@[simp] theorem applyParam_owned (p : Param) (before : Params) : (s.applyParam p before).owned = s.owned := by
  unfold State.applyParam
  split <;> simp [State.reprioritise, State.moveIdle, State.maskSet]

/-- Of the records a SET writes the configuration table only. -/
theorem takeSet_owned (p : List Byte) : ∃ c, (takeSet s p).state.owned = { s.owned with cfg := c } := by
  unfold takeSet
  split
  · exact ⟨s.cfg, rfl⟩
  · split
    · split
      · exact ⟨s.cfg, rfl⟩
      · dsimp only
        split
        · exact ⟨s.cfg, rfl⟩
        · exact ⟨_, applyParam_owned ..⟩
    · exact ⟨s.cfg, rfl⟩

theorem takeRequest_takeSet_owned (l : Link) (c : Instr) :
    ∃ g, (s.takeRequest l c takeSet).owned = { s.owned with cfg := g } := by
  rcases takeRequest_owned_cases s l c takeSet with e | ⟨f, e⟩
  · exact ⟨s.cfg, e⟩
  · obtain ⟨g, hg⟩ := takeSet_owned (s.openRequest l f) f.payload
    exact ⟨g, by rw [e, hg, openRequest_owned]⟩

@[simp] theorem takeFeeder_owned (n : Nat) :
    (s.takeFeeder n).owned = { s.owned with feedLimit := min n maxLimit } := rfl

/-- Of the records a FEEDER frame writes FEED_LIMIT only. -/
theorem feederFrame_owned (bytes : List Byte) : ∃ n, (s.feederFrame bytes).owned = { s.owned with feedLimit := n } := by
  unfold State.feederFrame
  split
  · exact ⟨s.power.feedLimit, rfl⟩
  · rename_i f t hf
    split
    · rename_i n _
      exact ⟨min n maxLimit, by rw [settle_owned, takeFeeder_owned, siteFrame_owned hf]⟩
    · exact ⟨s.power.feedLimit, rfl⟩

/-! ### The other line events -/

theorem linkFrame_owned (l : Link) (bytes : List Byte) : (s.linkFrame l bytes).owned = s.owned := by
  unfold State.linkFrame
  split <;> simp

theorem badFrame_owned (ln : Line) (bytes : List Byte) : (s.badFrame ln bytes).owned = s.owned := by
  unfold State.badFrame
  split <;> simp

theorem startCollecting_owned (ln : Line) (bytes : List Byte) : (s.startCollecting ln bytes).owned = s.owned := by
  unfold State.startCollecting
  split <;> simp

theorem mastFrame_owned (bytes : List Byte) : (s.mastFrame bytes).owned = s.owned := by
  unfold State.mastFrame
  split
  · rfl
  · rename_i hf
    split
    · rw [settle_owned, takeMast_owned, siteFrame_owned hf]
    · rfl

theorem precipFrame_owned (bytes : List Byte) : (s.precipFrame bytes).owned = s.owned := by
  unfold State.precipFrame
  split
  · rfl
  · rename_i hf
    split
    · split
      · rw [settle_owned, takePrecip_owned, siteFrame_owned hf]
      · exact siteFrame_owned hf
    · rfl

theorem ignoredFrame_owned (bytes : List Byte) : (s.ignoredFrame bytes).owned = s.owned := by
  unfold State.ignoredFrame
  split
  · rfl
  · rename_i hf
    exact siteFrame_owned hf

theorem statusReply_owned (bytes : List Byte) : (s.statusReply bytes).owned = s.owned := by
  unfold State.statusReply
  split
  · rfl
  · split
    · rfl
    · split <;> simp

@[simp] theorem missVisit_owned (v : BusVisit) : (s.missVisit v).owned = s.owned := by simp [State.missVisit]

theorem badReply_owned (bytes : List Byte) : (s.badReply bytes).owned = s.owned := by
  unfold State.badReply
  split <;> simp

theorem replyTimeout_owned : s.replyTimeout.owned = s.owned := by
  unfold State.replyTimeout
  split <;> simp

theorem keysReply_owned (bytes : List Byte) : (s.keysReply bytes).owned = s.owned := by
  unfold State.keysReply
  split
  · rfl
  · split <;> simp

theorem panelMissed_owned (bytes : Option (List Byte)) : (s.panelMissed bytes).owned = s.owned := by
  unfold State.panelMissed
  split
  · rfl
  · split <;> simp

/-! ### The expiries -/

@[simp] theorem deadlineEnd_owned : s.deadlineEnd.owned = s.owned := by simp [State.deadlineEnd]

@[simp] theorem clearEnd_owned : s.clearEnd.owned = s.owned := by simp [State.clearEnd]

@[simp] theorem idleEnd_owned (i : Stn) : (s.idleEnd i).owned = s.owned := by simp [State.idleEnd]

end

/-! ### Every command -/

/-- The next state of an outcome that is written out holds the records that are known of it. -/
theorem next_owned {r t : State} {x : OwnedRecords} (hr : r.owned = x) (h : (.next r : Out) = .next t) : t.owned = x := by
  exact Host.Outcome.next.inj h ▸ hr

/-- An expiry, due or not, keeps the records where its event keeps them. -/
theorem expire_owned {s t : State} {due : Bool} {f : State → State} (hf : ∀ s, (f s).owned = s.owned)
    (h : s.expire due f = .next t) : t.owned = s.owned := by
  cases due with
  | false => exact next_owned rfl h
  | true => exact next_owned ((settle_owned ..).trans (hf s)) h

/-- A command other than POWER_ON_RESET, SET and FEEDER keeps the records. -/
theorem exec_owned {c : Instr} {s t : State} (h : exec c s = .next t) (notReset : c ≠ .powerOnReset)
    (notSet : c ≠ .setParam) (notFeeder : ∀ b, c ≠ .feeder b) : t.owned = s.owned := by
  cases c with
  | powerOnReset => exact absurd rfl notReset
  | setParam => exact absurd rfl notSet
  | feeder b => exact absurd rfl (notFeeder b)
  | linkFrameReceived l b => exact next_owned (linkFrame_owned s l b) h
  | badFrame ln b => exact next_owned (badFrame_owned s ln b) h
  | collectingStart ln b => exact next_owned (startCollecting_owned s ln b) h
  | transmitFrameEnd l => exact next_owned (modLink_owned s l _) h
  | slew => exact next_owned (takeRequest_owned s takeSlew_owned _ _) h
  | cancel => exact next_owned (takeRequest_owned s takeCancel_owned _ _) h
  | flush => exact next_owned (takeRequest_owned s takeFlush_owned _ _) h
  | resume => exact next_owned (takeRequest_owned s takeResume_owned _ _) h
  | rest => exact next_owned (takeRequest_owned s takeRest_owned _ _) h
  | steer => exact next_owned (takeRequest_owned s takeSteer_owned _ _) h
  | halt => exact next_owned (takeRequest_owned s takeHalt_owned _ _) h
  | stowAll => exact next_owned (takeRequest_owned s takeStowAll_owned _ _) h
  | unstow => exact next_owned (takeRequest_owned s takeUnstow_owned _ _) h
  | snowOn => exact next_owned (takeRequest_owned s takeSnowOn_owned _ _) h
  | snowOff => exact next_owned (takeRequest_owned s takeSnowOff_owned _ _) h
  | consoleLock => exact next_owned (takeRequest_owned s takeConsoleLock_owned _ _) h
  | consoleUnlock => exact next_owned (takeRequest_owned s takeConsoleUnlock_owned _ _) h
  | writeOff => exact next_owned (takeRequest_owned s takeWriteOff_owned _ _) h
  | enable => exact next_owned (takeRequest_owned s takeEnable_owned _ _) h
  | disable => exact next_owned (takeRequest_owned s takeDisable_owned _ _) h
  | clearAll => exact next_owned (takeRequest_owned s takeClear_owned _ _) h
  | getParam => exact next_owned (takeQuery_owned s _ _ _) h
  | qStation l => exact next_owned (takeQuery_owned s _ _ _) h
  | qPower l => exact next_owned (takeQuery_owned s _ _ _) h
  | qWind l => exact next_owned (takeQuery_owned s _ _ _) h
  | qCampaign l => exact next_owned (takeQuery_owned s _ _ _) h
  | qQueue l => exact next_owned (takeQuery_owned s _ _ _) h
  | qLockout l => exact next_owned (takeQuery_owned s _ _ _) h
  | ack l => exact next_owned (takeLocal_owned s (fun s => takeAck_owned s l) _ _) h
  | dump l => exact next_owned (takeLocal_owned s takeDump_owned _ _) h
  | unknownRequestKind l => exact next_owned (takeUnknown_owned s l) h
  | mast b => exact next_owned (mastFrame_owned s b) h
  | precip b => exact next_owned (precipFrame_owned s b) h
  | siteFrameIgnored b => exact next_owned (ignoredFrame_owned s b) h
  | statusReply b => exact next_owned (statusReply_owned s b) h
  | badReply b => exact next_owned (badReply_owned s b) h
  | replyTimeoutExpiry => exact next_owned (replyTimeout_owned s) h
  | keys b => exact next_owned (keysReply_owned s b) h
  | panelReplyMissed b => exact next_owned (panelMissed_owned s b) h
  | panelSilenceExpiry i => exact expire_owned (fun s => panelSilent_owned s i) h
  | warningExpiry i => exact expire_owned (fun s => warningEnd_owned s i) h
  | silenceExpiry m => exact expire_owned (fun s => silenceEnd_owned s m) h
  | dwellExpiry => exact expire_owned (fun s => evaluate_owned s true) h
  | deadlineExpiry => exact expire_owned deadlineEnd_owned h
  | clearTimerExpiry => exact expire_owned clearEnd_owned h
  | timerAExpiry i => exact expire_owned (fun s => stopHeat_owned s i .offPhase) h
  | timerBExpiry i => exact expire_owned (fun s => startCycle_owned s i) h
  | idleExpiry i => exact expire_owned (fun s => idleEnd_owned s i) h

/-- SET writes no record but the configuration table. -/
theorem exec_setParam_owned {s t : State} (h : exec .setParam s = .next t) : ∃ g, t.owned = { s.owned with cfg := g } := by
  obtain ⟨g, hg⟩ := takeRequest_takeSet_owned s .O .setParam
  exact ⟨g, next_owned hg h⟩

/-- FEEDER writes no record but FEED_LIMIT. -/
theorem exec_feeder_owned {s t : State} {b : List Byte} (h : exec (.feeder b) s = .next t) :
    ∃ n, t.owned = { s.owned with feedLimit := n } := by
  obtain ⟨n, hn⟩ := feederFrame_owned s b
  exact ⟨n, next_owned hn h⟩

/-- POWER_ON_RESET leaves the commands that wait. -/
theorem exec_powerOnReset_pending {s t : State} (h : exec .powerOnReset s = .next t) : t.pending = s.pending := by
  cases h
  rfl

/-- Settles O13, by the command: the three writers leave the records that are not theirs, and every other command keeps all four. -/
theorem ownedRecordsKeepTheirWriters : Obligations.OwnedRecordsKeepTheirWriters := by
  intro c s t h
  by_cases isReset : c = .powerOnReset
  · subst isReset
    exact ⟨exec_powerOnReset_pending h, absurd rfl, absurd rfl, absurd rfl⟩
  by_cases isSet : c = .setParam
  · subst isSet
    obtain ⟨g, e⟩ := exec_setParam_owned h
    exact ⟨congrArg OwnedRecords.pending e, fun _ => congrArg OwnedRecords.clock e, fun _ => absurd rfl,
      fun _ _ => congrArg OwnedRecords.feedLimit e⟩
  by_cases isFeeder : ∃ b, c = .feeder b
  · obtain ⟨b, rfl⟩ := isFeeder
    obtain ⟨n, e⟩ := exec_feeder_owned h
    exact ⟨congrArg OwnedRecords.pending e, fun _ => congrArg OwnedRecords.clock e, fun _ _ => congrArg OwnedRecords.cfg e,
      fun _ other => absurd rfl (other b)⟩
  · have e := exec_owned h isReset isSet (not_exists.mp isFeeder)
    exact ⟨congrArg OwnedRecords.pending e, fun _ => congrArg OwnedRecords.clock e, fun _ _ => congrArg OwnedRecords.cfg e,
      fun _ _ => congrArg OwnedRecords.feedLimit e⟩

end Sys2Proof.Machine

/-! # Owners and waiting consumers (O4, O60)

What the rules of R4, R8 and R69 read of a state is its `Board`: the motion state of each station with whether it has an owner and is
enabled, the state of each heater channel, and the consumers of each admission entry. `Board.Keeps` says that both rules pass from one
board to the next. The few changes of a board that keep the rules are said once; each operation of the model is then shown to be
made of them, in the order of the model's files. -/

namespace Sys2Proof.Machine

/-- What R4, R8 and R69 read of a station. -/
structure Seat where
  motion : Motion
  owned : Bool
  enabled : Bool

/-- A station has an owner exactly in the owned motion states, and is enabled exactly when it is not DISABLED (R4, R8). -/
def Seat.Ruled (x : Seat) : Prop := x.owned = x.motion.isOwned ∧ x.enabled = !decide (x.motion = .disabled)

section
variable {x : Seat} {m : Motion}

/-- An enabled station comes to a state without owner. -/
theorem Seat.Ruled.rest (k : x.Ruled) (on : x.motion ≠ .disabled) (free : m.isOwned = false) (on' : m ≠ .disabled) :
    Seat.Ruled { x with motion := m, owned := false } :=
  ⟨free.symm, by simpa [on, on'] using k.2⟩

/-- An enabled station without owner goes from one such state to another. -/
theorem Seat.Ruled.move (k : x.Ruled) (free : x.motion.isOwned = false) (on : x.motion ≠ .disabled) (free' : m.isOwned = false)
    (on' : m ≠ .disabled) : Seat.Ruled { x with motion := m } :=
  ⟨(k.1.trans free).trans free'.symm, by simpa [on, on'] using k.2⟩

/-- An enabled station comes to a state with an owner. -/
theorem Seat.Ruled.own (k : x.Ruled) (on : x.motion ≠ .disabled) (owned : m.isOwned = true) :
    Seat.Ruled { x with motion := m, owned := true } :=
  ⟨owned.symm, by
    have on' : m ≠ .disabled := by rintro rfl; cases owned
    simpa [on, on'] using k.2⟩

end

/-- What R4, R8 and R69 read of a station record. -/
@[simps] def Station.seat (r : Station) : Seat := { motion := r.motion, owned := r.owner.isSome, enabled := r.enabled }

/-- The motion and the heater consumers that wait in an entry. -/
def Entry.consumers (e : Entry) : List Stn × List Stn := (e.motionStns, e.heaterStns)

/-- The motion states and owners of the stations, the states of the heater channels, and the consumers of each admission entry. -/
structure Board where
  seat : Stn → Seat
  heater : Stn → HeaterState
  waits : List (List Stn × List Stn)

/-- The board of a station table, the heater channels and an admission list. -/
def boardOf (stns : Vector Station 32) (channels : Vector Channel 32) (list : List Entry) : Board where
  seat i := (stns.get i).seat
  heater i := (channels.get i).state
  waits := list.map Entry.consumers

/-- What R4, R8 and R69 read of a state. -/
def State.board (s : State) : Board := boardOf s.stns s.snow.channels s.power.list

namespace Board

/-- Every station keeps R4 and R8. -/
def Owners (b : Board) : Prop := ∀ i, (b.seat i).Ruled

/-- The consumers are listed as R69 has it: none twice, no entry empty, motion consumers at ADMITTING stations, heater consumers in WAIT. -/
structure Listed (b : Board) : Prop where
  motionOnce : (b.waits.flatMap Prod.fst).Nodup
  heaterOnce : (b.waits.flatMap Prod.snd).Nodup
  nonempty : ∀ w ∈ b.waits, w.1 ++ w.2 ≠ []
  admitting : ∀ w ∈ b.waits, ∀ i ∈ w.1, (b.seat i).motion = .admitting
  waiting : ∀ w ∈ b.waits, ∀ i ∈ w.2, b.heater i = .wait

/-- Both rules pass from one board to another. -/
structure Keeps (b c : Board) : Prop where
  owners : b.Owners → c.Owners
  listed : b.Owners → b.Listed → c.Listed

@[refl, simp] theorem Keeps.refl (b : Board) : b.Keeps b := ⟨id, fun _ => id⟩

@[trans] theorem Keeps.trans {a b c : Board} (h : a.Keeps b) (k : b.Keeps c) : a.Keeps c :=
  ⟨fun o => k.owners (h.owners o), fun o l => k.listed (h.owners o) (h.listed o l)⟩

/-! ### The changes of a board -/

def setSeat (b : Board) (i : Stn) (x : Seat) : Board := { b with seat := Function.update b.seat i x }

def setHeater (b : Board) (i : Stn) (h : HeaterState) : Board := { b with heater := Function.update b.heater i h }

/-- The consumers of an entry without a station's motion consumer, if any remain (R71). -/
def without (i : Stn) (w : List Stn × List Stn) : Option (List Stn × List Stn) :=
  Option.guard (fun v => decide (v ≠ ([], []))) (w.1.filter fun j => decide (j ≠ i), w.2)

/-- A station's motion consumer leaves the list (R71). -/
def leaveMotion (b : Board) (i : Stn) : Board := { b with waits := b.waits.filterMap (without i) }

/-- A station's heater consumer leaves the list (R71). -/
def leaveHeat (b : Board) (i : Stn) : Board := { b with waits := b.waits.filter fun w => !w.2.contains i }

/-- Entries join the list. -/
def join (b : Board) (ws : List (List Stn × List Stn)) : Board := { b with waits := b.waits ++ ws }

/-- These stations become ADMITTING, each with an owner (R4, R5). -/
def admitAll (b : Board) (l : List Stn) : Board :=
  { b with seat := fun j => if j ∈ l then { b.seat j with motion := .admitting, owned := true } else b.seat j }

/-- Those of these stations that are ADMITTING go to a motion state (R75). -/
def grant (b : Board) (m : Motion) (l : List Stn) : Board :=
  { b with seat := fun j => if j ∈ l ∧ (b.seat j).motion = .admitting then { b.seat j with motion := m } else b.seat j }

variable {b : Board} {i j : Stn} {x y : Seat} {h : HeaterState}

@[simp] theorem setSeat_seat_same : (b.setSeat i x).seat i = x := Function.update_self ..
theorem setSeat_seat_ne (k : j ≠ i) : (b.setSeat i x).seat j = b.seat j := Function.update_of_ne k ..
@[simp] theorem setSeat_setSeat : (b.setSeat i x).setSeat i y = b.setSeat i y := by simp [setSeat]
@[simp] theorem setSeat_self : b.setSeat i (b.seat i) = b := by simp [setSeat]
@[simp] theorem setSeat_heater : (b.setSeat i x).heater = b.heater := rfl
@[simp] theorem setSeat_waits : (b.setSeat i x).waits = b.waits := rfl
@[simp] theorem setHeater_waits : (b.setHeater i h).waits = b.waits := rfl
@[simp] theorem setHeater_seat : (b.setHeater i h).seat = b.seat := rfl
@[simp] theorem setHeater_heater_same : (b.setHeater i h).heater i = h := Function.update_self ..
@[simp] theorem setSeat_leaveHeat : (b.setSeat i x).leaveHeat j = (b.leaveHeat j).setSeat i x := rfl
@[simp] theorem setSeat_setHeater : (b.setSeat i x).setHeater j h = (b.setHeater j h).setSeat i x := rfl
theorem setHeater_heater_ne (k : j ≠ i) : (b.setHeater i h).heater j = b.heater j := Function.update_of_ne k ..
@[simp] theorem leaveMotion_seat : (b.leaveMotion i).seat = b.seat := rfl
@[simp] theorem leaveHeat_seat : (b.leaveHeat i).seat = b.seat := rfl

/-- A station that is not ADMITTING does not wait in the list. -/
theorem Listed.not_waiting (l : b.Listed) (out : (b.seat i).motion ≠ .admitting) : ∀ w ∈ b.waits, i ∉ w.1 :=
  fun w hw hi => out (l.admitting w hw i hi)

/-- A channel that is not in WAIT does not wait in the list. -/
theorem Listed.not_waitingHeat (l : b.Listed) (out : b.heater i ≠ .wait) : ∀ w ∈ b.waits, i ∉ w.2 :=
  fun w hw hi => out (l.waiting w hw i hi)

/-- One station that keeps R4 and R8 in a board that keeps them. -/
theorem Owners.setSeat (o : b.Owners) (k : (b.seat i).Ruled → x.Ruled) : (b.setSeat i x).Owners := fun j => by
  by_cases e : j = i
  · subst e
    simpa using k (o j)
  · rw [setSeat_seat_ne e]
    exact o j

/-- The list stays in order while a station that does not wait there changes. -/
theorem Listed.setSeat (l : b.Listed) (out : ∀ w ∈ b.waits, i ∉ w.1) : (b.setSeat i x).Listed :=
  { l with
    admitting := fun w hw j hj => by
      rw [setSeat_seat_ne (by rintro rfl; exact out w hw hj)]
      exact l.admitting w hw j hj }

theorem Listed.setHeater (l : b.Listed) (out : ∀ w ∈ b.waits, i ∉ w.2) : (b.setHeater i h).Listed :=
  { l with
    waiting := fun w hw j hj => by
      rw [setHeater_heater_ne (by rintro rfl; exact out w hw hj)]
      exact l.waiting w hw j hj }

/-- A list whose entries lose consumers, or go, stays in order. -/
theorem Listed.filterMap (l : b.Listed) {f : List Stn × List Stn → Option (List Stn × List Stn)}
    (sub : ∀ w v, f w = some v → v.1.Sublist w.1 ∧ v.2.Sublist w.2 ∧ v.1 ++ v.2 ≠ []) :
    ({ b with waits := b.waits.filterMap f } : Board).Listed := by
  have flat (g : List Stn × List Stn → List Stn) (hg : ∀ w v, f w = some v → (g v).Sublist (g w)) :
      ∀ ws : List (List Stn × List Stn), ((ws.filterMap f).flatMap g).Sublist (ws.flatMap g) := by
    intro ws
    induction ws with
    | nil => simp
    | cons w ws ih =>
      cases e : f w with
      | none => simpa [e] using ih.trans (List.sublist_append_right ..)
      | some v => simpa [e] using (hg w v e).append ih
  refine ⟨l.motionOnce.sublist (flat _ (fun w v e => (sub w v e).1) _),
    l.heaterOnce.sublist (flat _ (fun w v e => (sub w v e).2.1) _), ?_, ?_, ?_⟩
  · intro v hv
    obtain ⟨w, _, e⟩ := List.mem_filterMap.mp hv
    exact (sub w v e).2.2
  · intro v hv i hi
    obtain ⟨w, hw, e⟩ := List.mem_filterMap.mp hv
    exact l.admitting w hw i ((sub w v e).1.subset hi)
  · intro v hv i hi
    obtain ⟨w, hw, e⟩ := List.mem_filterMap.mp hv
    exact l.waiting w hw i ((sub w v e).2.1.subset hi)

theorem Listed.leaveMotion (l : b.Listed) : (b.leaveMotion i).Listed :=
  l.filterMap fun w v e => by
    obtain ⟨rfl, h⟩ := Option.guard_eq_some_iff.mp e
    exact ⟨List.filter_sublist, List.Sublist.refl _, by simpa [Classical.or_iff_not_imp_left] using h⟩

/-- A list that loses entries stays in order. -/
theorem Listed.sublist {ws : List (List Stn × List Stn)} (l : b.Listed) (sub : ws.Sublist b.waits) :
    ({ b with waits := ws } : Board).Listed where
  motionOnce := l.motionOnce.sublist (sub.flatMap Prod.fst)
  heaterOnce := l.heaterOnce.sublist (sub.flatMap Prod.snd)
  nonempty w hw := l.nonempty w (sub.subset hw)
  admitting w hw := l.admitting w (sub.subset hw)
  waiting w hw := l.waiting w (sub.subset hw)

theorem Listed.leaveHeat (l : b.Listed) : (b.leaveHeat i).Listed := l.sublist List.filter_sublist

/-- A station whose motion consumer has left does not wait in the list. -/
theorem not_waiting_leaveMotion : ∀ w ∈ (b.leaveMotion i).waits, i ∉ w.1 := fun v hv hi => by
  obtain ⟨w, _, e⟩ := List.mem_filterMap.mp hv
  obtain ⟨rfl, _⟩ := Option.guard_eq_some_iff.mp e
  simp at hi

theorem not_waiting_leaveHeat : ∀ w ∈ (b.leaveHeat i).waits, i ∉ w.2 := fun v hv => by
  simpa using List.of_mem_filter hv

/-- The list stays in order in any order. -/
theorem Listed.perm {ws : List (List Stn × List Stn)} (l : b.Listed) (p : b.waits.Perm ws) :
    ({ b with waits := ws } : Board).Listed where
  motionOnce := (p.flatMap_right _).nodup_iff.mp l.motionOnce
  heaterOnce := (p.flatMap_right _).nodup_iff.mp l.heaterOnce
  nonempty w hw := l.nonempty w (p.mem_iff.mpr hw)
  admitting w hw := l.admitting w (p.mem_iff.mpr hw)
  waiting w hw := l.waiting w (p.mem_iff.mpr hw)

/-! ### The changes that keep the rules -/

/-- A station that is not ADMITTING changes its place. -/
theorem Keeps.reseat (out : (b.seat i).motion ≠ .admitting) (k : (b.seat i).Ruled → x.Ruled) : b.Keeps (b.setSeat i x) :=
  ⟨fun o => o.setSeat k, fun _ l => l.setSeat (l.not_waiting out)⟩

/-- A station changes its place as it leaves the list. -/
theorem Keeps.vacate (k : (b.seat i).Ruled → x.Ruled) : b.Keeps ((b.leaveMotion i).setSeat i x) :=
  ⟨fun o => Owners.setSeat (b := b.leaveMotion i) o k, fun _ l => l.leaveMotion.setSeat not_waiting_leaveMotion⟩

/-- A channel that is not in WAIT changes its state. -/
theorem Keeps.reheat (out : b.heater i ≠ .wait) : b.Keeps (b.setHeater i h) :=
  ⟨id, fun _ l => l.setHeater (l.not_waitingHeat out)⟩

/-- A channel changes its state as it leaves the list. -/
theorem Keeps.vacateHeat : b.Keeps ((b.leaveHeat i).setHeater i h) :=
  ⟨id, fun _ l => l.leaveHeat.setHeater not_waiting_leaveHeat⟩

/-- Entries join the list in order where their consumers wait and are new to it. -/
theorem Listed.join {ws : List (List Stn × List Stn)} (l : b.Listed) (motionOnce : (ws.flatMap Prod.fst).Nodup)
    (heaterOnce : (ws.flatMap Prod.snd).Nodup) (nonempty : ∀ w ∈ ws, w.1 ++ w.2 ≠ [])
    (newMotion : ∀ w ∈ ws, ∀ i ∈ w.1, (b.seat i).motion = .admitting ∧ ∀ v ∈ b.waits, i ∉ v.1)
    (newHeater : ∀ w ∈ ws, ∀ i ∈ w.2, b.heater i = .wait ∧ ∀ v ∈ b.waits, i ∉ v.2) : (b.join ws).Listed where
  motionOnce := by
    rw [Board.join, List.flatMap_append]
    refine l.motionOnce.append motionOnce fun i hi hj => ?_
    obtain ⟨v, hv, hi⟩ := List.mem_flatMap.mp hi
    obtain ⟨w, hw, hj⟩ := List.mem_flatMap.mp hj
    exact (newMotion w hw i hj).2 v hv hi
  heaterOnce := by
    rw [Board.join, List.flatMap_append]
    refine l.heaterOnce.append heaterOnce fun i hi hj => ?_
    obtain ⟨v, hv, hi⟩ := List.mem_flatMap.mp hi
    obtain ⟨w, hw, hj⟩ := List.mem_flatMap.mp hj
    exact (newHeater w hw i hj).2 v hv hi
  nonempty w hw := (List.mem_append.mp hw).elim (l.nonempty w) (nonempty w)
  admitting w hw i hi := (List.mem_append.mp hw).elim (l.admitting w · i hi) fun hw => (newMotion w hw i hi).1
  waiting w hw i hi := (List.mem_append.mp hw).elim (l.waiting w · i hi) fun hw => (newHeater w hw i hi).1

/-- A channel in no WAIT goes to it and joins the list. -/
theorem Keeps.waitHeat (out : b.heater i ≠ .wait) : b.Keeps ((b.setHeater i .wait).join [([], [i])]) :=
  ⟨id, fun _ l => (l.setHeater (l.not_waitingHeat out)).join (by simp) (by simp) (by simp) (by simp)
    (by simpa using l.not_waitingHeat out)⟩

@[simp] theorem admitAll_nil : b.admitAll [] = b := by simp [admitAll]

theorem admitAll_singleton : b.admitAll [i] = b.setSeat i { b.seat i with motion := .admitting, owned := true } := by
  refine congrArg (fun seat => { b with seat }) (funext fun j => ?_)
  by_cases e : j = i <;> simp [e]

theorem admitAll_append (l m : List Stn) : (b.admitAll l).admitAll m = b.admitAll (l ++ m) := by
  refine congrArg (fun seat => { b with seat }) (funext fun j => ?_)
  by_cases e : j ∈ l <;> by_cases e' : j ∈ m <;> simp [admitAll, e, e']

/-- Stations that neither are DISABLED nor wait already become ADMITTING and join the list, in entries that are not empty. -/
theorem Keeps.enter {l : List Stn} {ws : List (List Stn × List Stn)} (once : l.Nodup)
    (out : ∀ i ∈ l, (b.seat i).motion ≠ .admitting ∧ (b.seat i).motion ≠ .disabled) (motion : ws.flatMap Prod.fst = l)
    (heater : ∀ w ∈ ws, w.2 = []) (nonempty : ∀ w ∈ ws, w.1 ≠ []) : b.Keeps ((b.admitAll l).join ws) := by
  refine ⟨fun o j => ?_, fun _ k => ?_⟩
  · change ((b.admitAll l).seat j).Ruled
    by_cases e : j ∈ l
    · have en := (o j).2
      simp only [admitAll, e, if_true]
      exact ⟨rfl, by simpa [(out j e).2] using en⟩
    · simpa [admitAll, e] using o j
  · have k' : (b.admitAll l).Listed :=
      { k with
        admitting := fun w hw i hi => by
          have := k.admitting w hw i hi
          by_cases e : i ∈ l <;> simp [admitAll, e, this] }
    refine k'.join (motion ▸ once) ?_ (fun w hw => by simp [nonempty w hw]) (fun w hw i hi => ?_) (fun w hw => by simp [heater w hw])
    · rw [List.flatMap_eq_nil_iff.mpr heater]
      exact List.nodup_nil
    · have e : i ∈ l := motion ▸ List.mem_flatMap.mpr ⟨w, hw, hi⟩
      exact ⟨by simp [admitAll, e], k.not_waiting (out i e).1⟩

@[simp] theorem grant_nil (m : Motion) : b.grant m [] = b := by simp [grant]

theorem grant_grant {m : Motion} (out : m ≠ .admitting) (l k : List Stn) : (b.grant m l).grant m k = b.grant m (l ++ k) := by
  refine congrArg (fun seat => { b with seat }) (funext fun j => ?_)
  by_cases e : j ∈ l <;> by_cases e' : j ∈ k <;> by_cases e'' : (b.seat j).motion = .admitting <;>
    simp [grant, e, e', e'', out]

/-- An entry leaves the list and its motion consumers get their grant (R75). -/
theorem Keeps.grant {m : Motion} {w : List Stn × List Stn} {ws : List (List Stn × List Stn)} (p : b.waits.Perm (w :: ws))
    (owned : m.isOwned = true) : b.Keeps (({ b with waits := ws } : Board).grant m w.1) := by
  refine ⟨fun o j => ?_, fun _ l => ?_⟩
  · by_cases e : j ∈ w.1 ∧ (b.seat j).motion = .admitting
    · have k := o j
      simp only [Board.grant, e, and_self, if_true]
      simp only [Seat.Ruled, e.2] at k ⊢
      cases m <;> simp_all [Motion.isOwned]
    · simpa [Board.grant, e] using o j
  · have l' := l.perm p
    have out : ∀ v ∈ ws, ∀ i ∈ v.1, i ∉ w.1 := fun v hv i hi hw =>
      (List.nodup_append.mp (by simpa using l'.motionOnce)).2.2 i hw i (List.mem_flatMap.mpr ⟨v, hv, hi⟩) rfl
    exact { l'.sublist (List.sublist_cons_self ..) with
      admitting := fun v hv i hi => by
        simpa [Board.grant, out v hv i hi] using l'.admitting v (List.mem_cons_of_mem _ hv) i hi }

/-- An entry leaves the list and its heater consumer gets its grant (R75, R132). -/
theorem Keeps.grantHeat {ws : List (List Stn × List Stn)} (p : b.waits.Perm (([], [i]) :: ws)) :
    b.Keeps (({ b with waits := ws } : Board).setHeater i h) :=
  ⟨id, fun _ l => by
    have l' := l.perm p
    refine (l'.sublist (List.sublist_cons_self ..)).setHeater fun v hv hi => ?_
    have once : (i :: ws.flatMap Prod.snd).Nodup := by simpa using l'.heaterOnce
    exact (List.nodup_cons.mp once).1 (List.mem_flatMap.mpr ⟨v, hv, hi⟩)⟩

end Board

/-! ### Reading the rules from the board -/

section
variable (s : State)

theorem ownerRule_iff : OwnerRule s ↔ s.board.Owners := Iff.rfl

/-- The entries of a list whose consumers are all different, and none of which is empty, are no more than its consumers. -/
theorem length_le_consumers (ws : List (List Stn × List Stn)) (h : ∀ w ∈ ws, w.1 ++ w.2 ≠ []) :
    ws.length ≤ (ws.flatMap Prod.fst).length + (ws.flatMap Prod.snd).length := by
  induction ws with
  | nil => simp
  | cons w ws ih =>
    have one : 1 ≤ w.1.length + w.2.length := by
      have := List.length_pos_of_ne_nil (h w (by simp))
      rwa [List.length_append] at this
    have rest := ih fun v hv => h v (List.mem_cons_of_mem _ hv)
    simp only [List.flatMap_cons, List.length_append, List.length_cons]
    omega

/-- The 64 places are enough, since 32 stations have one motion and one heater consumer each (R69). -/
theorem listRule_iff : ListRule s ↔ s.board.Listed := by
  have waits : s.board.waits = s.power.list.map Entry.consumers := rfl
  have motion : s.power.list.flatMap Entry.motionStns = s.board.waits.flatMap Prod.fst := by
    rw [waits, List.flatMap_map]; rfl
  have heater : s.power.list.flatMap Entry.heaterStns = s.board.waits.flatMap Prod.snd := by
    rw [waits, List.flatMap_map]; rfl
  constructor
  · rintro ⟨_, once, onceHeat, each⟩
    have of {w} (hw : w ∈ s.board.waits) : ∃ e ∈ s.power.list, e.consumers = w := List.mem_map.mp hw
    refine ⟨motion ▸ once, heater ▸ onceHeat, fun w hw => ?_, fun w hw => ?_, fun w hw => ?_⟩ <;>
      obtain ⟨e, he, rfl⟩ := of hw
    · exact (each e he).1
    · exact (each e he).2.1
    · exact (each e he).2.2
  · intro l
    refine ⟨?_, motion ▸ l.motionOnce, heater ▸ l.heaterOnce, fun e he => ?_⟩
    · have len := length_le_consumers _ l.nonempty
      have m := l.motionOnce.length_le_card
      have h := l.heaterOnce.length_le_card
      rw [Fintype.card_fin] at m h
      rw [show s.board.waits.length = s.power.list.length from List.length_map ..] at len
      unfold listPlaces
      omega
    · have mem : e.consumers ∈ s.board.waits := List.mem_map_of_mem he
      exact ⟨l.nonempty _ mem, l.admitting _ mem, l.waiting _ mem⟩

@[simp] theorem board_mk (clock : Nat) (cfg : Params) (stns : Vector Station 32) (sched : SchedQueue) (oper : OperQueue)
    (power : Power) (wind : Wind) (camp : Campaign) (snow : Snow) (locks : Locks) (bus : Bus) (linkS linkO : LinkState)
    (site : Receiver) (stats : Stats) (choices : Nat) (pending : List Instr) :
    State.board ⟨clock, cfg, stns, sched, oper, power, wind, camp, snow, locks, bus, linkS, linkO, site, stats, choices, pending⟩ =
      boardOf stns snow.channels power.list := rfl

@[simp] theorem board_eta : boardOf s.stns s.snow.channels s.power.list = s.board := rfl

@[simp] theorem board_ite (p : Prop) [Decidable p] (t : State) :
    (if p then s else t).board = if p then s.board else t.board := apply_ite State.board p s t

@[simp] theorem keeps_ite (b : Board) (p : Prop) [Decidable p] (c d : Board) :
    b.Keeps (if p then c else d) ↔ (p → b.Keeps c) ∧ (¬p → b.Keeps d) := by
  split <;> simp_all

/-- What changes nothing that the board shows keeps the rules. -/
theorem Board.Keeps.same {s t : State} (e : t.board = s.board) : s.board.Keeps t.board := e ▸ .refl _

/-- What comes before an operation may change all that the board does not show. -/
theorem Board.Keeps.after {s t u : State} (k : t.board.Keeps u.board) (e : t.board = s.board) : s.board.Keeps u.board := e ▸ k

/-- An operation that keeps the rules keeps them where it is taken on a condition. -/
theorem Board.Keeps.thenIf {b : Board} {s : State} (k : b.Keeps s.board) (p : Prop) [Decidable p] {f : State → State}
    (h : ∀ s : State, s.board.Keeps (f s).board) : b.Keeps (if p then f s else s).board := by
  split
  · exact k.trans (h s)
  · exact k

/-- A pass over a list that carries a state keeps the rules where every step keeps them. -/
theorem foldl_keeps_of {α β : Type} (st : β → State) {f : β → α → β}
    (h : ∀ x a, (st x).board.Keeps (st (f x a)).board) (l : List α) (x : β) : (st x).board.Keeps (st (l.foldl f x)).board := by
  induction l generalizing x with
  | nil => rfl
  | cons a l ih => exact (h x a).trans (ih _)

theorem foldl_keeps {α : Type} {f : State → α → State} (h : ∀ (s : State) a, s.board.Keeps (f s a).board) (l : List α) :
    s.board.Keeps (l.foldl f s).board := foldl_keeps_of id h l s

/-- A pass over a list keeps the rules where each step keeps them of an item of which something is known, and leaves it known of the
others. -/
theorem foldl_keeps_where {α : Type} {f : State → α → State} {P : State → α → Prop}
    (h : ∀ (s : State) a, P s a → s.board.Keeps (f s a).board) (stays : ∀ s a c, P s a → P s c → P (f s a) c) (l : List α)
    (hl : ∀ a ∈ l, P s a) : s.board.Keeps (l.foldl f s).board := by
  induction l generalizing s with
  | nil => rfl
  | cons a l ih =>
    have ha := hl a (by simp)
    exact (h s a ha).trans (ih _ fun c hc => stays s a c ha (hl c (List.mem_cons_of_mem _ hc)))

theorem foldl_board {α : Type} {f : State → α → State} (h : ∀ (s : State) a, (f s a).board = s.board) (l : List α) :
    (l.foldl f s).board = s.board := by
  induction l generalizing s with
  | nil => rfl
  | cons a l ih => rw [List.foldl_cons, ih, h]

/-! ### Links, lines and notices -/

@[simp] theorem modLink_board (l : Link) (f : LinkState → LinkState) : (s.modLink l f).board = s.board := by cases l <;> rfl

@[simp] theorem modLine_board (ln : Line) (f : LineStats → LineStats) : (s.modLine ln f).board = s.board := by cases ln <;> rfl

@[simp] theorem modStnStats_board (i : Stn) (f : StnStats → StnStats) : (s.modStnStats i f).board = s.board := rfl

@[simp] theorem notice_board (l : Link) (x : NoticeFlag) : (s.notice l x).board = s.board := modLink_board ..

@[simp] theorem noticeBoth_board (x : NoticeFlag) : (s.noticeBoth x).board = s.board := by simp [State.noticeBoth]

@[simp] theorem report_board (l : Link) (f : Frame) : (s.report l f).board = s.board := by simp [State.report]

/-! ### The records of a station -/

@[simp] theorem modCab_board (i : Stn) (f : Cabinet → Cabinet) : (s.modCab i f).board = s.board := rfl
@[simp] theorem setPark_board (i : Stn) (p : Option ParkStep) : (s.setPark i p).board = s.board := rfl
@[simp] theorem modLock_board (i : Stn) (f : LockRec → LockRec) : (s.modLock i f).board = s.board := rfl
@[simp] theorem modMotionGrant_board (i : Stn) (f : Grant → Grant) : (s.modMotionGrant i f).board = s.board := rfl
@[simp] theorem modHeatGrant_board (i : Stn) (f : Grant → Grant) : (s.modHeatGrant i f).board = s.board := rfl
@[simp] theorem modRoster_board (i : Stn) (f : RosterEntry → RosterEntry) : (s.modRoster i f).board = s.board := rfl
@[simp] theorem setRoster_board (i : Stn) (st : RosterStatus) : (s.setRoster i st).board = s.board := rfl
@[simp] theorem modGroup_board (n : Nat) (f : Group → Group) : (s.modGroup n f).board = s.board := rfl
@[simp] theorem modSteer_board (n : Nat) (f : Steer → Steer) : (s.modSteer n f).board = s.board := rfl

/-- A station record is rewritten in what its seat reads as `g` says. -/
theorem modStn_board (i : Stn) {f : Station → Station} (g : Seat → Seat) (h : ∀ r, (f r).seat = g r.seat) :
    (s.modStn i f).board = s.board.setSeat i (g (s.board.seat i)) := by
  refine congrArg (fun seat => { s.board with seat }) (funext fun j => ?_)
  by_cases e : j = i
  · subst e
    rw [Function.update_self]
    exact (congrArg Station.seat (upd_get_same ..)).trans (h _)
  · simp [State.modStn, upd_get_ne _ _ e, e, State.board, boardOf]

theorem modStn_board_same (i : Stn) {f : Station → Station} (h : ∀ r, (f r).seat = r.seat) : (s.modStn i f).board = s.board := by
  rw [modStn_board s i id h]
  exact Board.setSeat_self

/-- A heater channel is rewritten with a state of its own. -/
theorem modChan_board (i : Stn) {f : Channel → Channel} {h : HeaterState} (hf : ∀ k, (f k).state = h) :
    (s.modChan i f).board = s.board.setHeater i h := by
  refine congrArg (fun heater => { s.board with heater }) (funext fun j => ?_)
  by_cases e : j = i
  · subst e
    rw [Function.update_self]
    exact (congrArg Channel.state (upd_get_same ..)).trans (hf _)
  · simp [State.modChan, upd_get_ne _ _ e, e, State.board, boardOf]

theorem modChan_board_same (i : Stn) {f : Channel → Channel} (hf : ∀ k, (f k).state = k.state) : (s.modChan i f).board = s.board := by
  refine congrArg (fun heater => { s.board with heater }) (funext fun j => ?_)
  by_cases e : j = i
  · subst e
    exact (congrArg Channel.state (upd_get_same ..)).trans (hf _)
  · simp [State.modChan, upd_get_ne _ _ e]

@[simp] theorem setChan_board (i : Stn) (h : HeaterState) : (s.setChan i h).board = s.board.setHeater i h :=
  modChan_board s i fun _ => rfl

/-- An entry that loses a motion consumer loses it from its consumers. -/
theorem lessMotion_consumers (i : Stn) (e : Entry) : (e.lessMotion i).map Entry.consumers = Board.without i e.consumers := by
  obtain ⟨body, cls, prio, seq⟩ := e
  cases body with
  | heater j => simp [Entry.lessMotion, Board.without, Entry.consumers, Entry.motionStns, Entry.heaterStns]
  | motion gang ps =>
    have stns : (ps.map (·.station)).filter (fun j => decide (j ≠ i)) = (ps.filter fun p => decide (p.station ≠ i)).map (·.station) :=
      List.filter_map ..
    simp only [Entry.lessMotion, Board.without, Entry.consumers, Entry.motionStns, Entry.heaterStns, stns]
    cases ps.filter fun p => decide (p.station ≠ i) <;>
      simp [Option.guard, Entry.consumers, Entry.motionStns, Entry.heaterStns]

@[simp] theorem leaveMotion_board (i : Stn) : (s.leaveMotion i).board = s.board.leaveMotion i := by
  simp only [State.board, boardOf, State.leaveMotion, Board.leaveMotion, List.map_filterMap, List.filterMap_map,
    Function.comp_def, lessMotion_consumers]

theorem isHeaterOf_consumers (i : Stn) (e : Entry) : e.isHeaterOf i = e.consumers.2.contains i := by
  obtain ⟨body, cls, prio, seq⟩ := e
  cases body <;> simp [Entry.isHeaterOf, Entry.consumers, Entry.heaterStns, eq_comm]

@[simp] theorem leaveHeat_board (i : Stn) : (s.leaveHeat i).board = s.board.leaveHeat i := by
  simp only [State.board, boardOf, State.leaveHeat, Board.leaveHeat, List.filter_map, Function.comp_def, isHeaterOf_consumers]

@[simp] theorem consumers_motion (gang : Bool) (ps : List Plan) (c : GrantClass) (prio : Nat) (seq : BitVec 32) :
    ({ body := .motion gang ps, cls := c, prio, seq } : Entry).consumers = (ps.map (·.station), []) := rfl

@[simp] theorem consumers_heater (i : Stn) (c : GrantClass) (prio : Nat) (seq : BitVec 32) :
    ({ body := .heater i, cls := c, prio, seq } : Entry).consumers = ([], [i]) := rfl

@[simp] theorem joinList_board (b : Waiting) (c : GrantClass) (prio : Nat) :
    (s.joinList b c prio).board = s.board.join [({ body := b, cls := c, prio := prio, seq := s.power.arrival } : Entry).consumers] := by
  simp [State.joinList, Board.join, State.board, boardOf]

end

section
variable (s : State)

@[simp] theorem setIdle_board (i : Stn) (t : Option Nat) : (s.setIdle i t).board = s.board :=
  modStn_board_same s i (f := fun r => { r with idleSince := t }) fun _ => rfl

@[simp] theorem setMotion_board (i : Stn) (m : Motion) :
    (s.setMotion i m).board = s.board.setSeat i { s.board.seat i with motion := m } := by
  unfold State.setMotion
  dsimp only
  split
  · rename_i h
    rw [← h]
    exact Board.setSeat_self.symm
  · simp only [noticeBoth_board, modMotionGrant_board, setIdle_board, board_ite, ite_self]
    exact modStn_board s i (fun x => { x with motion := m }) fun _ => rfl

/-! ### Command slots, outcomes and stops -/

@[simp] theorem placeMotion_board (i : Stn) (c : MotionCmd) : (s.placeMotion i c).board = s.board := by
  simp [State.placeMotion]

@[simp] theorem placePin_board (i : Stn) (c : PinCmd) : (s.placePin i c).board = s.board := rfl

@[simp] theorem placeHeat_board (i : Stn) (c : HeatCmd) : (s.placeHeat i c).board = s.board := rfl

@[simp] theorem withdrawMotion_board (i : Stn) (p : MotionCmd → Bool) : (s.withdrawMotion i p).board = s.board := by
  unfold State.withdrawMotion
  split <;> simp

@[simp] theorem withdrawPin_board (i : Stn) (c : PinCmd) : (s.withdrawPin i c).board = s.board := by
  unfold State.withdrawPin
  split <;> simp

@[simp] theorem emptySlots_board (i : Stn) : (s.emptySlots i).board = s.board := rfl

@[simp] theorem stowOutcome_board (i : Stn) (o : MoveOutcome) : (s.stowOutcome i o).board = s.board := by
  simp [State.stowOutcome]

@[simp] theorem snowOutcome_board (i : Stn) : (s.snowOutcome i).board = s.board := by simp [State.snowOutcome]

@[simp] theorem giveOutcome_board (i : Stn) (o : MoveOutcome) :
    (s.giveOutcome i o).board = s.board.setSeat i { s.board.seat i with owned := false } := by
  unfold State.giveOutcome
  cases h : (s.stn i).owner with
  | none =>
    have e : ({ s.board.seat i with owned := false } : Seat) = s.board.seat i :=
      congrArg (fun owned => { s.board.seat i with owned }) (congrArg Option.isSome h).symm
    rw [e]
    exact Board.setSeat_self.symm
  | some w =>
    have cleared := modStn_board s i (f := fun r => { r with owner := none }) (fun x => { x with owned := false }) fun _ => rfl
    cases w <;> simpa using cleared

/-- A waiting motion that is withdrawn leaves the list, and its station comes to rest without an owner. -/
@[simp] theorem withdrawWaiting_board (i : Stn) (o : MoveOutcome) :
    (s.withdrawWaiting i o).board =
      (s.board.leaveMotion i).setSeat i
        { motion := ((s.stn i).posture.getD .held).motion, owned := false, enabled := (s.board.seat i).enabled } := by
  simp [State.withdrawWaiting]

@[simp] theorem stopMoving_board (i : Stn) (o : MoveOutcome) :
    (s.stopMoving i o).board = s.board.setSeat i { s.board.seat i with motion := .stopping, owned := false } := by
  simp [State.stopMoving]

@[simp] theorem brakePointed_board (i : Stn) :
    (s.brakePointed i).board = s.board.setSeat i { s.board.seat i with motion := .stopping } := by
  simp [State.brakePointed]

@[simp] theorem beginAdmitting_board (i : Stn) (w : Owner) : (s.beginAdmitting i w).board = s.board.admitAll [i] := by
  rw [State.beginAdmitting, modStn_board _ i (fun x => { x with owned := true }) fun _ => rfl, setMotion_board]
  simp [Board.admitAll_singleton]

@[simp] theorem leaveStowed_board (i : Stn) (r : Reason) : (s.leaveStowed i r).board = s.board := by simp [State.leaveStowed]

/-! ### The ends and beginnings of a motion -/

variable {s} {i : Stn}

/-- A station that is SLEWING or STOWING does not wait, and is enabled. -/
theorem isMoving_cases {m : Motion} (h : m.isMoving = true) : m ≠ .admitting ∧ m ≠ .disabled := by
  constructor <;> rintro rfl <;> cases h

theorem stopMoving_keeps (moving : (s.stn i).motion.isMoving = true) (o : MoveOutcome) :
    s.board.Keeps (s.stopMoving i o).board := by
  obtain ⟨out, on⟩ := isMoving_cases moving
  rw [stopMoving_board]
  exact .reseat out fun k => k.rest on rfl nofun

theorem withdrawWaiting_keeps (on : (s.stn i).motion ≠ .disabled) (o : MoveOutcome) :
    s.board.Keeps (s.withdrawWaiting i o).board := by
  rw [withdrawWaiting_board]
  refine .vacate fun k => k.rest on ?_ ?_ <;> cases (s.stn i).posture.getD .held <;> decide

/-- A station at rest has no owner, does not wait and is enabled. -/
theorem isResting_cases {m : Motion} (h : m.isResting = true) : m ≠ .admitting ∧ m ≠ .disabled ∧ m.isOwned = false := by
  cases m <;> simp_all [Motion.isResting, Motion.isOwned]

/-- A station without owner that is enabled goes to a state without owner. -/
theorem Board.Keeps.reseatFree {b : Board} {m : Motion} (free : (b.seat i).motion.isOwned = false)
    (on : (b.seat i).motion ≠ .disabled) (free' : m.isOwned = false) (on' : m ≠ .disabled) :
    b.Keeps (b.setSeat i { b.seat i with motion := m }) :=
  .reseat (fun e => by rw [e] at free; cases free) fun k => k.move free on free' on'


theorem brakePointed_keeps (free : (s.stn i).motion.isOwned = false) (on : (s.stn i).motion ≠ .disabled) :
    s.board.Keeps (s.brakePointed i).board := by
  rw [brakePointed_board]
  exact .reseatFree free on rfl nofun

end

theorem Board.grant_singleton (b : Board) (m : Motion) (i : Stn) :
    b.grant m [i] = if (b.seat i).motion = .admitting then b.setSeat i { b.seat i with motion := m } else b := by
  by_cases a : (b.seat i).motion = .admitting
  · rw [if_pos a]
    refine congrArg (fun seat => { b with seat }) (funext fun j => ?_)
    by_cases e : j = i
    · subst e; simp [a]
    · simp [e]
  · rw [if_neg a]
    refine (congrArg (fun seat => ({ b with seat } : Board)) (funext fun j => ?_) : _ = { b with seat := b.seat })
    by_cases e : j = i
    · subst e; simp [a]
    · simp [e]

section
variable (s : State)

/-! ### The power allocator -/

@[simp] theorem setTargets_board (p : Plan) : (s.setTargets p).board = s.board := modStn_board_same s _ fun _ => rfl

/-- The motion state of an admitted consumer (R75). -/
def GrantClass.motion (c : GrantClass) : Motion := if c = .stow then .stowing else .slewing

theorem admitMotion_board (c : GrantClass) (seq : BitVec 32) (p : Plan) :
    (s.admitMotion c seq p).board = s.board.grant c.motion [p.station] := by
  rw [Board.grant_singleton]
  unfold State.admitMotion
  dsimp only
  split
  · rename_i h
    rw [if_pos (show (s.board.seat p.station).motion = .admitting from h)]
    split <;> simp [GrantClass.motion]
  · rename_i h
    rw [if_neg (show (s.board.seat p.station).motion ≠ .admitting from h)]

theorem admitAll_motion_board (c : GrantClass) (seq : BitVec 32) (ps : List Plan) :
    (ps.foldl (State.admitMotion c seq) s).board = s.board.grant c.motion (ps.map (·.station)) := by
  induction ps generalizing s with
  | nil => simp
  | cons p ps ih =>
    have out : c.motion ≠ .admitting := by cases c <;> decide
    rw [List.foldl_cons, ih, admitMotion_board, Board.grant_grant out]
    rfl

@[simp] theorem admitHeat_board (seq : BitVec 32) (i : Stn) : (s.admitHeat seq i).board = s.board.setHeater i .starting :=
  (placeHeat_board ..).trans (modChan_board (s.modHeatGrant i _) i fun _ => rfl)

/-- An admission grants the consumers of an entry that leaves the list. -/
theorem admitEntry_keeps {s : State} {e : Entry} (h : e ∈ s.power.list) : s.board.Keeps (s.admitEntry e).board := by
  have p : s.board.waits.Perm (e.consumers :: (s.power.list.erase e).map Entry.consumers) :=
    (List.perm_cons_erase h).map Entry.consumers
  obtain ⟨body, c, prio, seq⟩ := e
  unfold State.admitEntry
  cases body with
  | motion gang ps =>
    simp only [admitAll_motion_board]
    exact .grant p (by cases c <;> rfl)
  | heater i =>
    simp only [admitHeat_board]
    exact .grantHeat p

@[simp] theorem stopHeat_board (i : Stn) (a : AfterStop) : (s.stopHeat i a).board = s.board.setHeater i .stopping :=
  modChan_board (s.placeHeat i .heatOff) i fun _ => rfl

@[simp] theorem cutHeater_board (i : Stn) : (s.cutHeater i).board = s.board.setHeater i .stopping := by simp [State.cutHeater]

/-- A channel is out of WAIT. -/
def State.outOfWait (s : State) (i : Stn) : Prop := s.board.heater i ≠ .wait

theorem mem_cuttable {s : State} {i : Stn} (h : i ∈ s.cuttable) : s.outOfWait i := by
  have on := (mem_sortBy _ _ _).mp h
  simp only [List.mem_filter, Bool.and_eq_true, decide_eq_true_eq] at on
  intro e
  cases on.2.1.symm.trans e

theorem countCuts_sub {fits may : Nat → Bool} {amt : Stn → Nat} {l : List Stn} {cut : Nat} {acc r : List Stn}
    (h : countCuts fits may amt l cut acc = some r) : r ⊆ acc ++ l := by
  induction l generalizing cut acc with
  | nil =>
    simp only [countCuts, Option.ite_none_right_eq_some, Option.some.injEq] at h
    simp [h.2]
  | cons i l ih =>
    unfold countCuts at h
    split at h
    · cases h
      simp
    · split at h
      · simpa using ih h
      · exact List.Subset.trans (ih h) (List.append_subset.mpr ⟨by simp, fun _ m => by simp [m]⟩)

theorem cutsFor_sub (e : Entry) : s.cutsFor e ⊆ s.cuttable := by
  unfold State.cutsFor
  dsimp only
  cases h : countCuts _ _ _ s.cuttable 0 [] with
  | none => simp
  | some r => exact countCuts_sub h

theorem cutHeaters_keeps {l : List Stn} (h : ∀ i ∈ l, s.outOfWait i) : s.board.Keeps (l.foldl State.cutHeater s).board :=
  foldl_keeps_where (P := State.outOfWait) s (fun s i out => by rw [cutHeater_board]; exact .reheat out)
    (fun s i j _ out => by
      unfold State.outOfWait
      rw [cutHeater_board]
      by_cases e : j = i
      · subst e; simp
      · rwa [Board.setHeater_heater_ne e]) l h

theorem reconsiderN_keeps (n : Nat) : s.board.Keeps (State.reconsiderN n s).board := by
  induction n generalizing s with
  | zero => rfl
  | succ n ih =>
    unfold State.reconsiderN
    split
    · rfl
    · rename_i e h
      split
      · rfl
      · split
        · exact (admitEntry_keeps (head_mem h).1).trans (ih _)
        · exact cutHeaters_keeps s fun i hi => mem_cuttable (cutsFor_sub s e hi)

theorem reconsider_keeps : s.board.Keeps s.reconsider.board := reconsiderN_keeps ..

@[simp] theorem markShed_board (i : Stn) : (s.markShed i).board = s.board := rfl

theorem mem_sheddable {s : State} {m : Motion} {i : Stn} (h : i ∈ s.sheddable m) : (s.stn i).motion = m := by
  have k := (mem_sortBy _ _ _).mp h
  simp only [List.mem_filter, Bool.and_eq_true, decide_eq_true_eq] at k
  exact k.2.1.1

/-- A deficit action cuts a heater that is ON, stops a dish that is SLEWING or brakes one that is POINTED (R79). -/
theorem deficitActs_keeps (n : Nat) : s.board.Keeps (State.deficitActs n s).board := by
  induction n generalizing s with
  | zero => rfl
  | succ n ih =>
    unfold State.deficitActs
    split
    · rfl
    · split
      · rename_i i _ h
        have cut := cutHeaters_keeps (l := [i]) s fun j hj => mem_cuttable (by simp_all)
        exact cut.trans (ih _)
      · split
        · rename_i i _ h
          have slewing := mem_sheddable (h.symm ▸ List.mem_cons_self : i ∈ s.sheddable .slewing)
          have act : s.board.Keeps ((s.stopMoving i .shed).markShed i).board := by
            rw [markShed_board]
            exact stopMoving_keeps (by rw [slewing]; rfl) _
          exact act.trans (ih _)
        · split
          · rename_i i _ h
            have pointed := mem_sheddable (h.symm ▸ List.mem_cons_self : i ∈ s.sheddable .pointed)
            have act : s.board.Keeps ((s.brakePointed i).markShed i).board := by
              rw [markShed_board]
              exact brakePointed_keeps (by rw [pointed]; rfl) (by simp [pointed])
            exact act.trans (ih _)
          · rfl

@[simp] theorem setDeficit_board (b : Bool) : (s.setDeficit b).board = s.board := by simp [State.setDeficit]

@[simp] theorem enterDeficit_board : s.enterDeficit.board = s.board := by
  unfold State.enterDeficit
  split
  · rfl
  · exact setDeficit_board s true

theorem judgeDeficit_keeps : s.board.Keeps s.judgeDeficit.board := by
  unfold State.judgeDeficit
  split
  · simpa using deficitActs_keeps s.enterDeficit deficitFuel
  · rfl

theorem judgePower_keeps (force : Bool) (old : State) : s.board.Keeps (judgePower force old s).board := by
  have lifted : s.board.Keeps (s.setDeficit false).reconsider.board := by simpa using reconsider_keeps (s.setDeficit false)
  simp [judgePower, judgeDeficit_keeps, lifted, reconsider_keeps]

/-- A join that keeps the rules keeps them also as an event of its own. -/
theorem ownJoin_keeps {join : State → State} (h : ∀ s : State, s.board.Keeps (join s).board) (x : State × State) :
    x.2.board.Keeps (ownJoin join x).2.board := by
  unfold ownJoin
  split
  · exact h _
  · exact (judgePower_keeps ..).trans ((h _).trans (judgePower_keeps ..))

@[simp] theorem lowerMotion_board (i : Stn) (st : CabStatus) : (s.lowerMotion i st).board = s.board := rfl

@[simp] theorem endHeatGrant_board (i : Stn) : (s.endHeatGrant i).board = s.board := rfl

@[simp] theorem allocReply_board (i : Stn) (st : CabStatus) : (s.allocReply i st).board = s.board := rfl

end

section
variable (s : State)

/-! ### Heater channels, snow mode and idle parks -/

@[simp] theorem offPhase_board (i : Stn) (secs : Nat) : (s.offPhase i secs).board = s.board.setHeater i .offPhase :=
  modChan_board s i fun _ => rfl

@[simp] theorem withdrawHeat_board (i : Stn) : (s.withdrawHeat i).board = s.board := rfl

@[simp] theorem askHeatOff_board (i : Stn) : (s.askHeatOff i).board = s.board := by simp [State.askHeatOff]

variable {s} {i : Stn}

/-- A channel in another state than WAIT is out of it. -/
theorem outOfWait_of {h : HeaterState} (e : (s.chan i).state = h) (out : h ≠ .wait) : s.outOfWait i := fun w =>
  out (e.symm.trans w)

theorem startCycleAs_keeps (out : s.outOfWait i) (stowed : Bool) : s.board.Keeps (s.startCycleAs i stowed).board := by
  have lengths (a b : Option Nat) : (s.modChan i fun k => { k with onLen := a, offLen := b }).board = s.board :=
    modChan_board_same s i fun _ => rfl
  unfold State.startCycleAs
  dsimp only
  split
  · rw [offPhase_board, lengths]
    exact .reheat out
  · rw [joinList_board, setChan_board, lengths]
    exact .waitHeat out

theorem enterOffPhase_keeps (out : s.outOfWait i) (stowed : Bool) : s.board.Keeps (s.enterOffPhase i stowed).board := by
  unfold State.enterOffPhase
  split
  · exact startCycleAs_keeps out stowed
  · rw [offPhase_board]
    exact .reheat out
  · rw [offPhase_board]
    exact .reheat out

theorem confirmStop_keeps (out : s.outOfWait i) (stowed : Bool) : s.board.Keeps (s.confirmStop i stowed).board := by
  have ended : (s.endHeatGrant i).outOfWait i := out
  unfold State.confirmStop
  dsimp only
  split
  · rw [setChan_board]
    exact .reheat ended
  · split
    · rw [setChan_board]
      exact .reheat ended
    · split
      · exact enterOffPhase_keeps ended stowed
      · exact startCycleAs_keeps ended stowed

variable (s i)

theorem barRise_keeps : s.board.Keeps (s.barRise i).board := by
  unfold State.barRise
  split
  case h_3 => simpa using Board.Keeps.vacateHeat
  case h_6 | h_7 => rfl
  all_goals
    rename_i h
    simpa using Board.Keeps.reheat (outOfWait_of h nofun)

theorem barFall_keeps (stowed : Bool) : s.board.Keeps (s.barFall i stowed).board := by
  unfold State.barFall
  split
  · rename_i h
    have out := outOfWait_of h nofun
    split
    · exact startCycleAs_keeps out stowed
    · simpa using Board.Keeps.reheat out
  · rfl

theorem judgeBarAs_keeps (stowed : Bool) : s.board.Keeps (s.judgeBarAs i stowed).board := by
  simp [State.judgeBarAs, barRise_keeps, barFall_keeps]

theorem judgeBar_keeps : s.board.Keeps (s.judgeBar i).board := judgeBarAs_keeps ..

theorem settleHeatFirst_keeps (closed : Bool) : s.board.Keeps (s.settleHeatFirst i closed).board := by
  simp [State.settleHeatFirst, Board.Keeps.vacateHeat]

@[simp] theorem loseHeat_board : (s.loseHeat i).board = (s.board.leaveHeat i).setHeater i .barred := by simp [State.loseHeat]

theorem heatReply_keeps (closed taken : Bool) (a : Answer) (stowed : Bool) :
    s.board.Keeps (s.heatReply i closed taken a stowed).board := by
  unfold State.heatReply
  split
  · rename_i h
    have out := outOfWait_of h nofun
    have on : (s.modChan i fun k =>
        { k with state := .on, timer := some (s.clock + seconds (k.onLen.getD 0)), after := none }).board =
        s.board.setHeater i .on := modChan_board s i fun _ => rfl
    simp [on, Board.Keeps.reheat out]
  · rename_i h
    simp [confirmStop_keeps (outOfWait_of h nofun)]
  · rfl
  · simp

/-- A station that is neither ADMITTING nor DISABLED waits with a plan of its own. -/
theorem enterOne_keeps {s : State} {i : Stn} (out : (s.stn i).motion ≠ .admitting) (on : (s.stn i).motion ≠ .disabled) :
    s.board.Keeps ((s.board.admitAll [i]).join [([i], [])]) :=
  .enter (by simp) (fun j hj => by obtain rfl := List.mem_singleton.mp hj; exact ⟨out, on⟩) rfl (by simp) (by simp)

theorem planSnow_station (c : Params) (i : Stn) (g : Stage) (az el : Int) : (planSnow c i g az el).station = i := rfl

theorem parkDue_held {s : State} {i : Stn} (h : s.parkDue i = true) : (s.stn i).motion = .held := by
  simp only [State.parkDue, Bool.and_eq_true, decide_eq_true_eq] at h
  exact h.1.1.2

theorem judgePark_keeps : s.board.Keeps (s.judgePark i).board := by
  unfold State.judgePark
  dsimp only
  split
  · rename_i h
    have rest : (s.stn i).motion.isResting = true := by rw [parkDue_held h]; rfl
    obtain ⟨out, on, free⟩ := isResting_cases rest
    split
    · rw [setMotion_board]
      exact .reseatFree free on rfl nofun
    · simpa [planSnow_station] using enterOne_keeps out on
  · rfl

theorem judgeParks_keeps : s.board.Keeps s.judgeParks.board := foldl_keeps s judgePark_keeps _

theorem chanModeOn_keeps : s.board.Keeps (s.chanModeOn i).board := by
  unfold State.chanModeOn
  split
  · rename_i h
    exact startCycleAs_keeps (outOfWait_of h nofun) _
  · rfl

theorem chanModeOff_keeps : s.board.Keeps (s.chanModeOff i).board := by
  unfold State.chanModeOff
  split
  case h_2 => simpa using Board.Keeps.vacateHeat
  case h_5 | h_6 | h_7 => rfl
  all_goals
    rename_i h
    simpa using Board.Keeps.reheat (outOfWait_of h nofun)

theorem snowTurnOn_keeps (src : SnowSource) : s.board.Keeps (s.snowTurnOn src).board := by
  unfold State.snowTurnOn
  split
  · rfl
  · have mode : ({ s with snow := { s.snow with mode := .on, source := some src } }.noticeBoth .snow).board = s.board := by simp
    exact ((foldl_keeps _ chanModeOn_keeps _).after mode).trans (judgeParks_keeps _)

theorem snowTurnOff_keeps : s.board.Keeps s.snowTurnOff.board := by
  unfold State.snowTurnOff
  split
  · rfl
  · have mode : ({ s with snow := { s.snow with mode := .off, source := none } }.noticeBoth .snow).board = s.board := by simp
    exact (foldl_keeps _ chanModeOff_keeps _).after mode

theorem judgeAuto_keeps (before : Bool) : s.board.Keeps (s.judgeAuto before).board := by
  unfold State.judgeAuto
  dsimp only
  split
  · exact snowTurnOn_keeps { s with snow := { s.snow with auto := s.autoMet } } .auto
  · rfl

theorem takePrecip_keeps (c : PrecipClass) (air : Option Int) : s.board.Keeps (s.takePrecip c air).board := by
  unfold State.takePrecip
  exact (judgeAuto_keeps _ _).after (by simp [State.clearStep])

/-! ### The lockout manager -/

theorem lockTakesEffect_keeps : s.board.Keeps (s.lockTakesEffect i).board := by
  unfold State.lockTakesEffect
  split
  · rename_i h
    exact withdrawWaiting_keeps (by simp [h]) _
  · rename_i h
    exact stopMoving_keeps (by rw [h]; rfl) _
  · rename_i h
    exact stopMoving_keeps (by rw [h]; rfl) _
  · rename_i h
    exact brakePointed_keeps (by rw [h]; rfl) (by simp [h])
  · simp
  · rfl

theorem setLockStatus_keeps (new : LockStatus) : s.board.Keeps (s.setLockStatus i new).board := by
  have written : ((s.modLock i fun r => { r with status := new }).noticeBoth .lockout).board = s.board := by simp
  unfold State.setLockStatus
  dsimp only
  split
  · rfl
  · refine .thenIf (f := (·.judgePark i)) (.thenIf (f := (·.lockTakesEffect i)) ?_ _ (lockTakesEffect_keeps · i)) _ (judgePark_keeps · i)
    rw [written]

theorem judgeLock_keeps : s.board.Keeps (s.judgeLock i).board := by
  unfold State.judgeLock
  exact (setLockStatus_keeps _ i _).after (modLock_board ..)

theorem judgeRest_keeps : s.board.Keeps (s.judgeRest i).board := by simp [State.judgeRest, judgeLock_keeps]

theorem judgeRests_keeps : s.board.Keeps s.judgeRests.board := foldl_keeps s judgeRest_keeps _

theorem judgeLockBar_keeps : s.board.Keeps (s.judgeLockBar i).board := (judgeLock_keeps s i).trans (judgeBar_keeps ..)

end

section
variable (s : State) (i : Stn)

theorem warningEnd_keeps : s.board.Keeps (s.warningEnd i).board := by
  unfold State.warningEnd
  refine ((setLockStatus_keeps _ i _).after ?_).trans (judgeBar_keeps _ i)
  split <;> simp

@[simp] theorem joinSlot_board (k : Fin 6) (holder : Nat) (kind : LockKind) : (s.joinSlot i k holder kind).board = s.board := rfl

@[simp] theorem emptySlot_board (k : Fin 6) : (s.emptySlot i k).board = s.board := rfl

@[simp] theorem compareSlot_board (x : Fin 6 × Option (Nat × LockKind)) : (State.compareSlot i s x).board = s.board := by
  unfold State.compareSlot
  split <;> simp

theorem takeKeys_keeps (keys : List (Option (Nat × LockKind))) : s.board.Keeps (s.takeKeys i keys).board := by
  unfold State.takeKeys
  exact (judgeLockBar_keeps _ i).after ((foldl_board _ (fun s x => compareSlot_board s i x) _).trans (modLock_board ..))

theorem panelSilent_keeps : s.board.Keeps (s.panelSilent i).board := (judgeLockBar_keeps _ i).after (modLock_board ..)

theorem moveSilence_keeps : s.board.Keeps (s.moveSilence i).board := by
  unfold State.moveSilence
  dsimp only
  split
  · split
    · exact .thenIf (f := (·.panelSilent i)) (by rw [modLock_board]) _ (panelSilent_keeps · i)
    · rfl
  · rfl

@[simp] theorem lockReply_board (st : CabStatus) (a : Answer) : (s.lockReply i st a).board = s.board := by
  simp [State.lockReply]

/-! ### The stow sequencer -/

@[simp] theorem displayNotices_board (old : State) : (displayNotices old s).board = s.board := by simp [displayNotices]

@[simp] theorem setCamp_board (st : CampState) : (s.setCamp st).board = s.board := by simp [State.setCamp]

@[simp] theorem giveEntry_board (st : RosterStatus) : (s.giveEntry i st).board = s.board := rfl

@[simp] theorem dropEntry_board : (s.dropEntry i).board = s.board := rfl

theorem planStow_station (c : Params) (i : Stn) (g : Stage) (az el : Int) : (planStow c i g az el).station = i := rfl

theorem joinCampaign_keeps {s : State} {i : Stn} (rest : (s.stn i).motion.isResting = true) :
    s.board.Keeps (s.joinCampaign i).board := by
  obtain ⟨out, on, _⟩ := isResting_cases rest
  unfold State.joinCampaign
  dsimp only
  split
  · have owned := modStn_board (s.setMotion i .stowing) i (f := fun r => { r with owner := some .stow })
      (fun x => { x with owned := true }) fun _ => rfl
    simp only [placePin_board, modRoster_board, owned, setMotion_board, Board.setSeat_setSeat, Board.setSeat_seat_same]
    exact .reseat out fun k => k.own on rfl
  · simpa [planStow_station] using enterOne_keeps out on

/-- A station that is withdrawn from the list is at rest. -/
theorem withdrawWaiting_rest (o : MoveOutcome) : ((s.withdrawWaiting i o).stn i).motion.isResting = true := by
  have h : ((s.withdrawWaiting i o).stn i).motion = ((s.stn i).posture.getD .held).motion := (setMotion_stn ..).1
  rw [h]
  cases (s.stn i).posture.getD .held <;> rfl

theorem buildEntry_keeps : s.board.Keeps (s.buildEntry i).board := by
  unfold State.buildEntry
  split <;> try rfl
  case h_7 h =>
    split
    · split
      · rfl
      · have joined := joinCampaign_keeps (s := (s.withdrawWaiting i .preempted).giveEntry i .waitingPower) (i := i)
          (withdrawWaiting_rest s i .preempted)
        exact (withdrawWaiting_keeps (by simp [h]) _).trans (joined.after (giveEntry_board ..))
    · rfl
  case h_8 h =>
    split
    · rw [giveEntry_board]
      exact stopMoving_keeps (by rw [h]; rfl) _
    · rfl
  case h_9 => split <;> rfl
  all_goals
    rename_i h
    split
    · exact joinCampaign_keeps (s := s.giveEntry i .waitingPower) (by change (s.stn i).motion.isResting = true; rw [h]; rfl)
    · rfl

@[simp] theorem preemptWaitingSteers_board : s.preemptWaitingSteers.board = s.board := rfl

theorem startCampaign_keeps (c : CampCause) (kept : List Stn) : s.board.Keeps (s.startCampaign c kept).board := by
  unfold State.startCampaign
  simp only [displayNotices_board, noticeBoth_board, report_board]
  exact (foldl_keeps _ buildEntry_keeps _).after (by simp)

@[simp] theorem restartEntry_board (e : RosterEntry) : (s.restartEntry e).board = s.board := by simp [State.restartEntry]

theorem startOrRestart_keeps (c : CampCause) : s.board.Keeps (s.startOrRestart c).board := by
  have restarted : (s.camp.roster.foldl State.restartEntry s).board = s.board := foldl_board s restartEntry_board s.camp.roster
  exact (startCampaign_keeps (s.camp.roster.foldl State.restartEntry s) c s.camp.unpinning).after restarted

theorem judgeRejoin_keeps : s.board.Keeps (s.judgeRejoin i).board := by
  unfold State.judgeRejoin
  split
  · rfl
  · split
    · split
      case h_1 | h_5 => rfl
      all_goals
        rename_i h
        split
        · exact joinCampaign_keeps (by rw [h]; rfl)
        · rfl
    · rfl

theorem judgeWaitRest_keeps : s.board.Keeps (s.judgeWaitRest i).board := by
  unfold State.judgeWaitRest
  split
  · split
    case h_1 h =>
      split
      · exact joinCampaign_keeps (by rw [h]; rfl)
      · rfl
    all_goals rfl
  · rfl

theorem rosterStep_keeps (old : State) : s.board.Keeps (rosterStep old i s).board :=
  .thenIf (judgeWaitRest_keeps s i) _ (judgeRejoin_keeps · i)

theorem rosterPass_keeps (old : State) (x : State × State) : x.2.board.Keeps (rosterPass old x).2.board :=
  foldl_keeps_of Prod.snd (fun x i => ownJoin_keeps (rosterStep_keeps · i old) x) _ x

theorem rejoinAll_keeps (old : State) : s.board.Keeps (s.rejoinAll old).board :=
  foldl_keeps_of Prod.snd (fun x i => ownJoin_keeps (judgeRejoin_keeps · i) x) _ (old, s)

@[simp] theorem endCampaign_board : s.endCampaign.board = s.board := by simp [State.endCampaign]

@[simp] theorem judgeCampaign_board : s.judgeCampaign.board = s.board := by
  unfold State.judgeCampaign
  split <;> simp

@[simp] theorem resumeCampaign_board : s.resumeCampaign.board = s.board := by simp [State.resumeCampaign]

@[simp] theorem addCause_board (c : CampCause) : (s.addCause c).board = s.board := rfl

theorem stowTakesStage_keeps (old : State) : s.board.Keeps (s.stowTakesStage old).board := by
  unfold State.stowTakesStage
  dsimp only
  split
  · split
    · simp [startOrRestart_keeps]
    · simp [startOrRestart_keeps]
    · rfl
    · rfl
    · split
      · rfl
      · rw [resumeCampaign_board]
        exact (rejoinAll_keeps _ old).after (addCause_board ..)
  · simp

@[simp] theorem beginPinning_board : (s.beginPinning i).board = s.board := modStn_board_same s i fun _ => rfl

@[simp] theorem beginStowBrake_board (noPin : Bool) : (s.beginStowBrake i noPin).board = s.board := by
  simp [State.beginStowBrake]

@[simp] theorem pinStuck_board : (s.pinStuck i).board = s.board := rfl

variable {s i}

theorem completeStow_keeps (moving : (s.stn i).motion.isMoving = true) (noPin : Bool) :
    s.board.Keeps (s.completeStow i noPin).board := by
  obtain ⟨out, on⟩ := isMoving_cases moving
  have cleared := modStn_board s i (f := fun r => { r with owner := none }) (fun x => { x with owned := false }) fun _ => rfl
  simp only [State.completeStow, modStnStats_board, modRoster_board, setMotion_board, cleared, Board.setSeat_setSeat,
    Board.setSeat_seat_same]
  exact .reseat out fun k => k.rest on rfl nofun

theorem pinDrawn_keeps (rest : (s.stn i).motion.isResting = true) : s.board.Keeps (s.pinDrawn i).board := by
  obtain ⟨_, on, free⟩ := isResting_cases rest
  have held : s.board.Keeps (s.setMotion i .held).board := by
    rw [setMotion_board]
    exact .reseatFree free on rfl nofun
  unfold State.pinDrawn
  dsimp only
  split
  · exact held
  · split
    · exact held.trans (joinCampaign_keeps (by rw [(setMotion_stn ..).1]; rfl))
    · exact held

variable (s i)

theorem stowReply_keeps (st : CabStatus) (tk : TakenFlags) (a : Answer) : s.board.Keeps (s.stowReply i st tk a).board := by
  unfold State.stowReply
  split
  · rfl
  · split
    case h_1 => simp
    case h_2 => cases st.pin <;> simp
    case h_3 h => simp [completeStow_keeps (s := s) (i := i) (by rw [h]; rfl)]
    case h_4 h =>
      have drawn := pinDrawn_keeps (s := s) (i := i) (by rw [h]; rfl)
      cases st.pin <;> simp [drawn]
    case h_5 => rfl

/-- An UNSTOW leaves each station that it reaches at rest. -/
theorem unstowEntry_motion (j : Stn) :
    ((s.unstowEntry i).stn j).motion = (s.stn j).motion ∨ ((s.unstowEntry i).stn j).motion = .held := by
  unfold State.unstowEntry
  split
  · split
    · exact .inl rfl
    · by_cases e : j = i
      · subst e
        exact .inr (setMotion_stn ..).1
      · exact .inl (congrArg Station.motion (setMotion_stn_ne _ _ e))
  · exact .inl rfl

theorem unstowEntry_keeps {s : State} {i : Stn} (rest : (s.stn i).motion.isResting = true) :
    s.board.Keeps (s.unstowEntry i).board := by
  obtain ⟨_, on, free⟩ := isResting_cases rest
  have held : s.board.Keeps (s.board.setSeat i { s.board.seat i with motion := .held }) := .reseatFree free on rfl nofun
  simp [State.unstowEntry, held]

theorem beginEnding_keeps : s.board.Keeps s.beginEnding.board := by
  unfold State.beginEnding
  rw [setCamp_board]
  refine (foldl_keeps_where (P := fun s i => (s.stn i).motion.isResting = true) _ (fun s i => unstowEntry_keeps)
    (fun s i j _ rest => ?_) _ fun i hi => ?_).after ?_
  · rcases unstowEntry_motion s i j with e | e <;> rw [e]
    · exact rest
    · rfl
  · have seen : s.isStowed i = true := List.of_mem_filter (p := s.isStowed) hi
    have stowed : (s.stn i).motion = .stowed := of_decide_eq_true seen
    exact stowed ▸ rfl
  · simp

end

section
variable (s : State)

/-! ### The motion queues -/

@[simp] theorem completeGroup_board (g : Group) (byClear : Bool) : (s.completeGroup g byClear).board = s.board := by
  simp [State.completeGroup]

@[simp] theorem completeSteer_board (t : Steer) : (s.completeSteer t).board = s.board := by simp [State.completeSteer]

@[simp] theorem countArrival_board (i : Stn) : (s.countArrival i).board = s.board := rfl

/-- An ordinary plan is its station's. -/
theorem planOrdinary_station {c : Params} {i : Stn} {g : Stage} {az el : Int} {t : Target} {cap : Option Nat} {p : Plan}
    (h : planOrdinary c i g az el t cap = some p) : p.station = i := by
  unfold planOrdinary at h
  split at h
  · obtain ⟨_, _, rfl⟩ := Option.map_eq_some_iff.mp h
    rfl
  · cases h

/-- While a group dispatches from a board, exactly the stations of the plans so far have become ADMITTING, each from rest. -/
structure Dispatching (b : Board) (x : State × List Plan) : Prop where
  board : x.1.board = b.admitAll (x.2.map (·.station))
  once : (x.2.map (·.station)).Nodup
  rest : ∀ i ∈ x.2.map (·.station), (b.seat i).motion.isResting = true

theorem dispatchMember_dispatching {b : Board} {x : State × List Plan} (d : Dispatching b x) (g : Group) (i : Stn) :
    Dispatching b (State.dispatchMember g x i) := by
  unfold State.dispatchMember
  dsimp only
  split
  · exact ⟨d.board, d.once, d.rest⟩
  · split
    · exact d
    · rename_i posture
      split
      · exact ⟨d.board, d.once, d.rest⟩
      · rename_i p hp
        split
        · exact ⟨d.board, d.once, d.rest⟩
        · have seat : (x.1.stn i).motion = ((b.admitAll (x.2.map (·.station))).seat i).motion := by rw [← d.board]; rfl
          rw [seat] at posture
          have new : i ∉ x.2.map (·.station) := fun hi => posture (by simp only [Board.admitAll, hi, if_true]; rfl)
          have rest : (b.seat i).motion.isResting = true := by
            simp only [Board.admitAll, new, if_false] at posture
            revert posture
            cases (b.seat i).motion <;> simp [Motion.posture?, Motion.isResting]
          refine ⟨?_, ?_, ?_⟩ <;> simp only [List.map_append, List.map_cons, List.map_nil, planOrdinary_station hp]
          · rw [beginAdmitting_board, d.board, Board.admitAll_append]
          · exact d.once.append (List.nodup_singleton i) (by simpa using new)
          · intro j hj
            rcases List.mem_append.mp hj with hj | hj
            · exact d.rest j hj
            · exact List.mem_singleton.mp hj ▸ rest

theorem dispatchMembers_dispatching {b : Board} (g : Group) (l : List Stn) {x : State × List Plan} (d : Dispatching b x) :
    Dispatching b (l.foldl (State.dispatchMember g) x) := by
  induction l generalizing x with
  | nil => exact d
  | cons i l ih => exact ih (dispatchMember_dispatching d g i)

theorem joinEach_board (prio : Nat) (ps : List Plan) :
    (ps.foldl (fun s p => s.joinList (.motion false [p]) .ordinary prio) s).board =
      s.board.join (ps.map fun p => ([p.station], [])) := by
  induction ps generalizing s with
  | nil => simp [Board.join]
  | cons p ps ih => simp [ih, Board.join]

theorem dispatchGroup_keeps (g : Group) : s.board.Keeps (s.dispatchGroup g).board := by
  have d := dispatchMembers_dispatching g g.stations (b := s.board) (x := (s.modGroup g.number fun h => { h with state := .active }, []))
    ⟨by simp, List.nodup_nil, by simp⟩
  unfold State.dispatchGroup
  dsimp only
  generalize g.stations.foldl (State.dispatchMember g) _ = x at d
  have out i (hi : i ∈ x.2.map (·.station)) : (s.board.seat i).motion ≠ .admitting ∧ (s.board.seat i).motion ≠ .disabled :=
    have r := isResting_cases (d.rest i hi)
    ⟨r.1, r.2.1⟩
  split
  · rw [joinEach_board, d.board]
    refine .enter d.once out ?_ (by simp) (by simp)
    rw [List.flatMap_map]
    exact (List.map_eq_flatMap ..).symm
  · split
    · rename_i empty
      rw [d.board, empty]
      simp
    · rename_i some
      rw [joinList_board, d.board]
      exact .enter d.once out (by simp) (by simp) (by simpa using some)

theorem planSteer_keeps {s : State} {t : Steer} (rest : (s.stn t.station).motion.isResting = true) :
    s.board.Keeps (s.planSteer t).board := by
  obtain ⟨out, on, _⟩ := isResting_cases rest
  unfold State.planSteer
  dsimp only
  split
  · split
    · rfl
    · rename_i p hp
      split
      · rfl
      · simpa [planOrdinary_station hp] using enterOne_keeps out on
  · rfl

@[simp] theorem steerWaits_board (t : Steer) : (s.steerWaits t).board = s.board := rfl

theorem dispatchSteer_keeps (t : Steer) : s.board.Keeps (s.dispatchSteer t).board := by
  unfold State.dispatchSteer
  dsimp only
  split
  case h_1 h | h_2 h | h_3 h => exact planSteer_keeps (by rw [h]; rfl)
  case h_4 h => exact (withdrawWaiting_keeps (by simp [h]) _).trans (planSteer_keeps (withdrawWaiting_rest ..))
  case h_5 h =>
    rw [steerWaits_board]
    exact stopMoving_keeps (by rw [h]; rfl) _
  case h_6 | h_7 => rw [steerWaits_board]
  all_goals rw [modSteer_board]

theorem endWait_keeps (t : Steer) : s.board.Keeps (s.endWait t).board := by
  unfold State.endWait
  split <;> try rfl
  rename_i h
  exact planSteer_keeps (by rw [h]; rfl)

theorem takeAct_keeps (a : QueueAct) : s.board.Keeps (s.takeAct a).board := by
  cases a <;> simp [State.takeAct, endWait_keeps, dispatchSteer_keeps, dispatchGroup_keeps]

theorem queuePass_keeps (n : Nat) : s.board.Keeps (State.queuePass n s).board := by
  induction n generalizing s with
  | zero => rfl
  | succ n ih =>
    unfold State.queuePass
    split
    · rfl
    · exact (takeAct_keeps ..).trans (ih _)

theorem endOwned_keeps (w : Owner) (o : MoveOutcome) (i : Stn) : s.board.Keeps (State.endOwned w o s i).board := by
  unfold State.endOwned
  split
  · split <;> rename_i h
    · exact withdrawWaiting_keeps (by simp [h]) _
    · exact stopMoving_keeps (by rw [h]; rfl) _
    · rfl
  · rfl

theorem endGroup_keeps (o : MoveOutcome) (g : Group) : s.board.Keeps (State.endGroup o s g).board :=
  foldl_keeps s (endOwned_keeps · _ o) _

theorem clearSteer_keeps (t : Steer) : s.board.Keeps (s.clearSteer t).board := endOwned_keeps ..

@[simp] theorem clearedGroup_board (n : Nat) : (s.clearedGroup n).board = s.board := by
  unfold State.clearedGroup
  split <;> simp

@[simp] theorem clearedSteer_board (n : Nat) : (s.clearedSteer n).board = s.board := by
  unfold State.clearedSteer
  split <;> simp

theorem clearQueues_keeps : s.board.Keeps s.clearQueues.board := by
  have ended := (foldl_keeps s (endGroup_keeps · .cleared) s.sched.groups).trans (foldl_keeps _ clearSteer_keeps s.oper.steers)
  simpa [State.clearQueues, foldl_board _ (fun s (t : Steer) => clearedSteer_board s t.number),
    foldl_board _ (fun s (g : Group) => clearedGroup_board s g.number)] using ended

theorem haltStation_keeps (i : Stn) : s.board.Keeps (s.haltStation i).board := by
  unfold State.haltStation
  split <;> rename_i h
  · exact withdrawWaiting_keeps (by simp [h]) _
  · exact stopMoving_keeps (by rw [h]; rfl) _
  · exact stopMoving_keeps (by rw [h]; rfl) _
  · rfl

/-! ### What follows an event -/

theorem parksAfterCampaign_keeps (acted : State) : s.board.Keeps (parksAfterCampaign acted s).board := by
  simp [parksAfterCampaign, judgeParks_keeps]

theorem settleOnce_keeps (force : Bool) (old : State) : s.board.Keeps (settleOnce force old s).board := by
  unfold settleOnce
  dsimp only
  have first := (judgeDeficit_keeps s).trans (rosterPass_keeps old (old, s.judgeDeficit))
  generalize rosterPass old (old, s.judgeDeficit) = x at first
  have second := (rosterPass_keeps old (x.1, x.2.judgeCampaign)).after (s := x.2) (judgeCampaign_board _)
  generalize rosterPass old (x.1, x.2.judgeCampaign) = y at second
  have queues := (queuePass_keeps y.2.judgeCampaign queueFuel).after (judgeCampaign_board _)
  exact first.trans (second.trans (queues.trans
    ((parksAfterCampaign_keeps _ s).trans ((judgePower_keeps ..).trans (judgeRests_keeps _)))))

theorem settleMore_keeps (n : Nat) : s.board.Keeps (settleMore n s).board := by
  induction n generalizing s with
  | zero => rfl
  | succ n ih =>
    unfold settleMore
    split
    · exact (settleOnce_keeps ..).trans (ih _)
    · rfl

/-- What follows an event keeps the rules, whatever the event was. -/
theorem settle_keeps (force : Bool) (old : State) : s.board.Keeps (settle force old s).board :=
  (settleOnce_keeps ..).trans (settleMore_keeps ..)

/-! ### The wind monitor -/

@[simp] theorem replanAll_board : s.replanAll.board = s.board := by
  have same (e : Entry) : (e.replan s.cfg s.wind.stage).consumers = e.consumers := by
    obtain ⟨body, _⟩ := e
    cases body <;> simp [Entry.replan, replan]
  refine congrArg (fun waits => { s.board with waits }) ?_
  simp [State.replanAll, Function.comp_def, same]

theorem handStage_keeps (old : State) : s.board.Keeps (s.handStage old).board := by
  unfold State.handStage
  split
  · rfl
  · exact (stowTakesStage_keeps _ old).after (by simp)

theorem evaluate_keeps (expiry : Bool) : s.board.Keeps (s.evaluate expiry).board :=
  (handStage_keeps _ s).after (board_mk ..)

theorem takeMast_keeps (num : Nat) (readings : List (Option Nat)) : s.board.Keeps (s.takeMast num readings).board := by
  unfold State.takeMast
  split
  · dsimp only
    split
    · exact (evaluate_keeps _ false).after (board_mk ..)
    · rfl
  · rfl

theorem silenceEnd_keeps (i : MastNo) : s.board.Keeps (s.silenceEnd i).board := (evaluate_keeps _ false).after (board_mk ..)

end

section
variable (s : State) (i : Stn)

/-! ### The drive bus and the panel line -/

@[simp] theorem beginVisit_board : (s.beginVisit i).board = s.board := rfl

@[simp] theorem nextVisit_board (after : Option Stn) : (s.nextVisit after).board = s.board := by
  unfold State.nextVisit
  split <;> simp

@[simp] theorem nextPanel_board (after : Option Stn) : (s.nextPanel after).board = s.board := rfl

theorem motion_eq_board (s : State) (i : Stn) : (s.stn i).motion = (s.board.seat i).motion := rfl

theorem motion_of_board {s t : State} (h : t.board = s.board) (i : Stn) : (t.stn i).motion = (s.stn i).motion :=
  congrArg (fun b : Board => (b.seat i).motion) h

theorem condition_cases {m : Motion} (h : m.isCondition = true) : m.isOwned = false ∧ m.isResting = false := by
  cases m <;> simp_all [Motion.isCondition, Motion.isOwned, Motion.isResting]

/-- A lockout finds nothing to act on where the part cannot command the dish. -/
theorem lockTakesEffect_of_condition {s : State} {i : Stn} (h : (s.stn i).motion.isCondition = true) :
    s.lockTakesEffect i = s := by
  unfold State.lockTakesEffect
  split <;> simp_all [Motion.isCondition]

theorem judgePark_of_condition {s : State} {i : Stn} (h : (s.stn i).motion.isCondition = true) : s.judgePark i = s := by
  unfold State.judgePark
  split
  · rename_i due
    rw [parkDue_held due] at h
    cases h
  · rfl

/-- Where the part cannot command the dish, a new lockout status is written and handed on, and nothing else. -/
theorem setLockStatus_of_condition {s : State} {i : Stn} (h : (s.stn i).motion.isCondition = true) (new : LockStatus) :
    s.setLockStatus i new =
      if (s.lock i).status = new then s else (s.modLock i fun r => { r with status := new }).noticeBoth .lockout := by
  have h' : (((s.modLock i fun r => { r with status := new }).noticeBoth .lockout).stn i).motion.isCondition = true := by
    simpa [State.stn] using h
  unfold State.setLockStatus
  dsimp only
  rw [lockTakesEffect_of_condition h', ite_self, judgePark_of_condition h', ite_self]

theorem judgeLock_of_condition {s : State} {i : Stn} (h : (s.stn i).motion.isCondition = true) :
    (s.judgeLock i).stns = s.stns ∧ (s.judgeLock i).board = s.board ∧ (s.judgeLock i).bus = s.bus := by
  unfold State.judgeLock
  dsimp only
  have h' (f : LockRec → LockRec) : ((s.modLock i f).stn i).motion.isCondition = true := h
  rw [setLockStatus_of_condition (h' _)]
  split <;> simp

/-- The judgement of a heater bar leaves every station record. -/
theorem judgeBar_stns (s : State) (i : Stn) : (s.judgeBar i).stns = s.stns := by
  have cycle (t : State) (stowed : Bool) : (t.startCycleAs i stowed).stns = t.stns := by
    unfold State.startCycleAs
    dsimp only
    split <;> rfl
  unfold State.judgeBar State.judgeBarAs
  split
  · unfold State.barRise
    split <;> rfl
  · unfold State.barFall
    split
    · split
      · exact cycle ..
      · rfl
    · rfl

/-- A lockout that takes effect disables no station. -/
theorem lockTakesEffect_on {s : State} {i : Stn} (on : (s.stn i).motion ≠ .disabled) :
    ((s.lockTakesEffect i).stn i).motion ≠ .disabled := by
  have stopping (t : State) : ((t.setMotion i .stopping).stn i).motion ≠ .disabled := by rw [(setMotion_stn ..).1]; nofun
  unfold State.lockTakesEffect
  split
  · exact (isResting_cases (withdrawWaiting_rest s i _)).2.1
  · exact stopping _
  · exact stopping _
  · exact stopping _
  · split
    · simpa [State.stn, State.setRoster] using on
    · exact on
  · exact on

theorem judgePark_on {s : State} {i : Stn} (on : (s.stn i).motion ≠ .disabled) : ((s.judgePark i).stn i).motion ≠ .disabled := by
  unfold State.judgePark
  dsimp only
  split
  · split
    · rw [(setMotion_stn ..).1]; nofun
    · change (((s.beginAdmitting i .snow).board.seat i).motion) ≠ .disabled
      simp [Board.admitAll]
  · exact on

/-- The judgement of a lockout disables no station. -/
theorem judgeLock_on {s : State} {i : Stn} (on : (s.stn i).motion ≠ .disabled) : ((s.judgeLock i).stn i).motion ≠ .disabled := by
  unfold State.judgeLock State.setLockStatus
  dsimp only
  split
  · exact on
  · have effect (t : State) (e : t.stns = s.stns) (p : Bool) : ((if p then t.lockTakesEffect i else t).stn i).motion ≠ .disabled := by
      have on : (t.stn i).motion ≠ .disabled := by rwa [stn_of_stns e]
      split
      · exact lockTakesEffect_on on
      · exact on
    split
    · exact judgePark_on (effect _ (by simp) _)
    · exact effect _ (by simp) _

variable {s i}

/-- A motion that ends with the station out of command leaves the list and its owner. -/
theorem vacate_keeps {b : Board} {m : Motion} (on : (b.seat i).motion ≠ .disabled) (free : m.isOwned = false) (on' : m ≠ .disabled) :
    b.Keeps ((b.leaveMotion i).setSeat i { b.seat i with motion := m, owned := false }) :=
  .vacate fun k => k.rest on free on'

theorem lose_keeps (on : (s.stn i).motion ≠ .disabled) : s.board.Keeps (s.lose i).board := by
  unfold State.lose
  refine .trans ?_ (judgeLock_keeps ..)
  have lost := (vacate_keeps (b := s.board) (i := i) on (m := .lost) rfl nofun).trans (.vacateHeat (i := i) (h := .barred))
  simpa using lost

theorem stopAfresh_keeps (free : (s.stn i).motion.isOwned = false) (on : (s.stn i).motion ≠ .disabled) :
    s.board.Keeps (s.stopAfresh i).board := by
  simp only [State.stopAfresh, setMotion_board, placeMotion_board]
  exact .reseatFree free on rfl nofun

/-- A station that takes its first reply comes to a state without owner. -/
theorem resolveFirst_keeps (free : (s.stn i).motion.isOwned = false) (on : (s.stn i).motion ≠ .disabled) (st : CabStatus) :
    s.board.Keeps (s.resolveFirst i st).board := by
  have goes (m : Motion) (free' : m.isOwned = false) (on' : m ≠ .disabled) : s.board.Keeps (s.setMotion i m).board := by
    rw [setMotion_board]
    exact .reseatFree free on free' on'
  unfold State.resolveFirst
  split
  · exact goes _ rfl nofun
  split
  · exact goes _ rfl nofun
  split
  · exact goes _ rfl nofun
  split
  · exact goes _ rfl nofun
  · exact stopAfresh_keeps free on

theorem takenAway_keeps (on : (s.stn i).motion ≠ .disabled) {m : Motion} (free : m.isOwned = false) (on' : m ≠ .disabled)
    (r : Reason) (o : MoveOutcome) : s.board.Keeps (s.takenAway i m r o).board := by
  simpa [State.takenAway] using vacate_keeps (b := s.board) (i := i) on free on'

/-- A motion under way that ends with its station at rest or STOPPING. -/
theorem endMoving_keeps (moving : (s.stn i).motion.isMoving = true) {m : Motion} (free : m.isOwned = false) (on' : m ≠ .disabled) :
    s.board.Keeps (s.board.setSeat i { s.board.seat i with motion := m, owned := false }) :=
  .reseat (isMoving_cases moving).1 fun k => k.rest (isMoving_cases moving).2 free on'

theorem judgeArrival_keeps (moving : (s.stn i).motion.isMoving = true) (st : CabStatus) :
    s.board.Keeps (s.judgeArrival i st).board := by
  have stopping := endMoving_keeps moving (m := .stopping) rfl nofun
  have pointed := endMoving_keeps moving (m := .pointed) rfl nofun
  simp [State.judgeArrival, stopping, pointed]

theorem moveRefused_keeps (moving : (s.stn i).motion.isMoving = true) (st : CabStatus) (origin : Posture) (v : Verdict) :
    s.board.Keeps (s.moveRefused i st origin v).board := by
  have stopping := endMoving_keeps moving (m := .stopping) rfl nofun
  have parked := endMoving_keeps moving (m := .parked) rfl nofun
  have held := endMoving_keeps moving (m := .held) rfl nofun
  have back : s.board.Keeps (s.board.setSeat i { s.board.seat i with motion := if origin = .parked then .parked else .held, owned := false }) := by
    split
    · exact parked
    · exact held
  simp [State.moveRefused, State.stopAfresh, stopping, back]

theorem stationRemote_keeps (st : CabStatus) (tk : TakenFlags) (a : Answer) (mark : Bool) :
    s.board.Keeps (s.stationRemote i st tk a mark).board := by
  have held (free : (s.stn i).motion.isOwned = false) (on : (s.stn i).motion ≠ .disabled) : s.board.Keeps (s.setMotion i .held).board := by
    rw [setMotion_board]
    exact .reseatFree free on rfl nofun
  unfold State.stationRemote
  split
  · rename_i h
    exact stopAfresh_keeps (by rw [h]; rfl) (by simp [h])
  · rename_i h
    split
    · exact held (by rw [h]; rfl) (by simp [h])
    · exact stopAfresh_keeps (by rw [h]; rfl) (by simp [h])
  · rename_i h
    split
    · exact held (by rw [h]; rfl) (by simp [h])
    · rfl
  · rename_i h
    have moving : (s.stn i).motion.isMoving = true := by rw [h]; rfl
    split
    · exact moveRefused_keeps moving ..
    · split
      · simp [judgeArrival_keeps moving]
      · rfl
  · rename_i h
    split
    · exact moveRefused_keeps (by rw [h]; rfl) ..
    · rfl
  · rfl

theorem stationReply_keeps (st : CabStatus) {first : Bool} (tk : TakenFlags) (a : Answer) (mark : Bool)
    (on : (s.stn i).motion ≠ .disabled) (known : first = true → (s.stn i).motion.isCondition = true) :
    s.board.Keeps (s.stationReply i st first tk a mark).board := by
  unfold State.stationReply
  split
  · rename_i h
    exact resolveFirst_keeps (condition_cases (known h)).1 on st
  split
  · split
    · rfl
    · exact takenAway_keeps on (m := .manual) rfl nofun _ _
  split
  · split
    · rfl
    · exact takenAway_keeps on (m := .fault) rfl nofun _ _
  · exact stationRemote_keeps ..

variable (s i)

theorem parkReply_keeps (st : CabStatus) (tk : TakenFlags) : s.board.Keeps (s.parkReply i st tk).board := by
  unfold State.parkReply
  split
  · rename_i h
    have parked := endMoving_keeps (s := s) (i := i) (by rw [h.2.1]; rfl) (m := .parked) rfl nofun
    split
    · simp
    · simp [parked]
    · rfl
  · rfl

theorem allocFirst_keeps (st : CabStatus) (first : Bool) (a : Answer) : s.board.Keeps (s.allocFirst i st first a).board := by
  unfold State.allocFirst
  split
  · exact settleHeatFirst_keeps (s.modMotionGrant i _) i _
  · simp

theorem allocFirst_stns (st : CabStatus) (first : Bool) (a : Answer) : (s.allocFirst i st first a).stns = s.stns := by
  unfold State.allocFirst State.settleHeatFirst
  dsimp only
  split <;> split <;> rfl

@[simp] theorem returnRejected_board (st : CabStatus) (a : Answer) : (s.returnRejected i st a).board = s.board := by
  unfold State.returnRejected
  split <;> simp

theorem lockAndStation_keeps {s : State} {i : Stn} (st : CabStatus) {first : Bool} (tk : TakenFlags) (a : Answer) (mark : Bool)
    (on : (s.stn i).motion ≠ .disabled) (known : first = true → (s.stn i).motion.isCondition = true) :
    s.board.Keeps (s.lockAndStation i st first tk a mark).board := by
  unfold State.lockAndStation
  split
  · have same := motion_of_board (lockReply_board s i st a) i
    have locked : s.board.Keeps ((s.lockReply i st a).judgeLock i).board := (judgeLock_keeps _ i).after (lockReply_board ..)
    have took := stationReply_keeps (s := (s.lockReply i st a).judgeLock i) (i := i) st (first := first) tk a mark
      (judgeLock_on (by rwa [same])) fun f => by
        have c : ((s.lockReply i st a).stn i).motion.isCondition = true := by rw [same]; exact known f
        rwa [motion_of_board (judgeLock_of_condition c).2.1]
    exact locked.trans (took.trans (judgeLock_keeps ..))
  · have took := stationReply_keeps st tk a mark on known
    exact took.trans ((judgeLock_keeps _ i).after (lockReply_board ..))

theorem jobsReply_keeps (st : CabStatus) (tk : TakenFlags) (a : Answer) : s.board.Keeps (s.jobsReply i st tk a).board :=
  (stowReply_keeps ..).trans (parkReply_keeps ..)

theorem heatTakes_keeps (st : CabStatus) (first : Bool) (tk : TakenFlags) (a : Answer) (was : Bool) :
    s.board.Keeps (s.heatTakes i st first tk a was).board := by
  unfold State.heatTakes
  dsimp only
  split
  · exact judgeBarAs_keeps ..
  · exact (heatReply_keeps ..).trans (judgeBarAs_keeps ..)

/-- A reply is taken for a station that is enabled. -/
theorem takeReply_keeps {s : State} {i : Stn} (on : (s.stn i).motion ≠ .disabled) (st : CabStatus) (a : Answer) :
    s.board.Keeps (s.takeReply i st a).board := by
  have written : ((s.modCab i fun k => k.takeReply st a s.clock).modStn i fun r => r.write st).board = s.board :=
    modStn_board_same _ i fun _ => rfl
  unfold State.takeReply
  dsimp only
  generalize (s.modCab i fun k => k.takeReply st a s.clock).modStn i (fun r => r.write st) = t at written
  have priced : s.board.Keeps ((t.allocFirst i st (s.pollOnly i) a).allocReply i st).board :=
    (allocFirst_keeps t i st _ a).after written
  have same : (((t.allocFirst i st (s.pollOnly i) a).allocReply i st).stn i).motion = (s.stn i).motion := by
    rw [← motion_of_board written i]
    exact congrArg Station.motion (stn_of_stns (allocFirst_stns t i st _ a) i)
  have known (f : s.pollOnly i = true) : (s.stn i).motion.isCondition = true := by
    simp only [State.pollOnly, Bool.or_eq_true, decide_eq_true_eq] at f
    rcases f with f | f <;> rw [f] <;> rfl
  have took := lockAndStation_keeps st (s.cab i).taken a (s.cab i).mark (by rwa [same]) (same ▸ known)
  simp only [board_mk, board_eta]
  refine .trans ?_ ((judgeLock_keeps _ i).after (returnRejected_board ..))
  refine .trans ?_ (heatTakes_keeps ..)
  refine .trans ?_ (jobsReply_keeps ..)
  exact priced.trans took

@[simp] theorem endVisit_board (v : BusVisit) : (s.endVisit v).board = s.board := nextVisit_board ..

@[simp] theorem dropOutstanding_board : (s.dropOutstanding i).board = s.board := rfl

theorem judgeLoss_keeps : s.board.Keeps (s.judgeLoss i).board := by
  unfold State.judgeLoss
  dsimp only
  split
  · rename_i h
    exact lose_keeps h.2.2
  · rfl

theorem miss_keeps : s.board.Keeps (s.miss i).board := (judgeLoss_keeps _ i).after (by simp)

/-- A station is enabled from DISABLED, or again from UNKNOWN. -/
theorem enableStation_keeps {s : State} {i : Stn} (h : (s.stn i).motion = .disabled ∨ (s.stn i).motion = .unknown) :
    s.board.Keeps (s.enableStation i).board := by
  have out : (s.board.seat i).motion ≠ .admitting := by
    change (s.stn i).motion ≠ _
    rcases h with h | h <;> simp [h]
  have free : (s.board.seat i).motion.isOwned = false := by
    change (s.stn i).motion.isOwned = _
    rcases h with h | h <;> rw [h] <;> rfl
  have on : s.board.Keeps ((s.modStn i fun r => { r with enabled := true }).setMotion i .unknown).board := by
    rw [setMotion_board, modStn_board s i (fun x => { x with enabled := true }) fun _ => rfl]
    simp only [Board.setSeat_setSeat, Board.setSeat_seat_same]
    exact .reseat out fun k => ⟨k.1.trans free, rfl⟩
  unfold State.enableStation
  dsimp only
  split <;> (try rw [giveEntry_board]) <;> exact on.trans ((judgeLockBar_keeps _ i).after (by simp))

@[simp] theorem voidVisits_board : (s.voidVisits i).board = s.board := rfl

/-- A station is disabled from rest, or again from DISABLED. -/
theorem disableStation_keeps {s : State} {i : Stn} (h : (s.stn i).motion.isResting = true ∨ (s.stn i).motion = .disabled) :
    s.board.Keeps (s.disableStation i).board := by
  have free : (s.stn i).motion ≠ .admitting ∧ (s.stn i).motion.isOwned = false := by
    rcases h with h | h
    · exact ⟨(isResting_cases h).1, (isResting_cases h).2.2⟩
    · rw [h]; exact ⟨nofun, rfl⟩
  have off : ((s.modStn i Station.blank).setMotion i .disabled).board =
      s.board.setSeat i { s.board.seat i with motion := .disabled, enabled := false } := by
    rw [setMotion_board, modStn_board s i (fun x => { x with enabled := false }) fun _ => rfl]
    simp
  have disabled : s.board.Keeps (s.board.setSeat i { s.board.seat i with motion := .disabled, enabled := false }) :=
    .reseat free.1 fun k => ⟨k.1.trans free.2, rfl⟩
  unfold State.disableStation
  dsimp only
  rw [setChan_board, (judgeLock_of_condition ?_).2.1]
  · simp only [leaveHeat_board, dropEntry_board, modLock_board, voidVisits_board, modCab_board, off]
    exact disabled.trans .vacateHeat
  · rw [motion_eq_board]
    simp [off, Motion.isCondition]

@[simp] theorem wakeLines_board : s.wakeLines.board = s.board := by
  unfold State.wakeLines
  cases s.bus.visit <;> dsimp only <;> split <;> simp

end

@[simp] theorem giveEntry_stns (s : State) (i : Stn) (st : RosterStatus) : (s.giveEntry i st).stns = s.stns := rfl

/-- Of the station records ENABLE writes its station's, which becomes enabled and UNKNOWN (R8). -/
theorem enableStation_stns (s : State) (i : Stn) :
    (s.enableStation i).stns = ((s.modStn i fun r => { r with enabled := true }).setMotion i .unknown).stns := by
  have unknown (t : State) (e : t.stns = ((s.modStn i fun r => { r with enabled := true }).setMotion i .unknown).stns) :
      (t.judgeLockBar i).stns = ((s.modStn i fun r => { r with enabled := true }).setMotion i .unknown).stns := by
    have c : (t.stn i).motion.isCondition = true := by rw [stn_of_stns e, (setMotion_stn ..).1]; rfl
    exact (judgeBar_stns ..).trans ((judgeLock_of_condition c).1.trans e)
  unfold State.enableStation
  dsimp only
  split <;> (try rw [giveEntry_stns]) <;> exact unknown _ (by simp)

@[simp] theorem setChan_stns (s : State) (i : Stn) (h : HeaterState) : (s.setChan i h).stns = s.stns := rfl

@[simp] theorem dropEntry_stns (s : State) (i : Stn) : (s.dropEntry i).stns = s.stns := rfl

@[simp] theorem voidVisits_stns (s : State) (i : Stn) : (s.voidVisits i).stns = s.stns := rfl

/-- Of the station records DISABLE writes its station's, which becomes blank and DISABLED (R9). -/
theorem disableStation_stns (s : State) (i : Stn) :
    (s.disableStation i).stns = ((s.modStn i Station.blank).setMotion i .disabled).stns := by
  have disabled (t : State) (e : t.stns = ((s.modStn i Station.blank).setMotion i .disabled).stns) :
      (t.judgeLock i).stns = ((s.modStn i Station.blank).setMotion i .disabled).stns := by
    have c : (t.stn i).motion.isCondition = true := by rw [stn_of_stns e, (setMotion_stn ..).1]; rfl
    exact (judgeLock_of_condition c).1.trans e
  unfold State.disableStation
  dsimp only
  rw [setChan_stns]
  exact disabled _ (by simp)

theorem enableStation_motion (s : State) (i j : Stn) :
    ((s.enableStation i).stn j).motion = if j = i then .unknown else (s.stn j).motion := by
  rw [stn_of_stns (enableStation_stns s i)]
  split
  · rename_i e
    rw [e, (setMotion_stn ..).1]
  · rename_i e
    rw [setMotion_stn_ne _ _ e, modStn_stn_ne _ _ e]

theorem disableStation_motion (s : State) (i j : Stn) :
    ((s.disableStation i).stn j).motion = if j = i then .disabled else (s.stn j).motion := by
  rw [stn_of_stns (disableStation_stns s i)]
  split
  · rename_i e
    rw [e, (setMotion_stn ..).1]
  · rename_i e
    rw [setMotion_stn_ne _ _ e, modStn_stn_ne _ _ e]

section
variable (s : State)

/-! ### Receivers and requests -/

@[simp] theorem setRx_board (ln : Line) (r : Receiver) : (s.setRx ln r).board = s.board := by cases ln <;> rfl

@[simp] theorem discard_board (ln : Line) (held : List Byte) : (s.discard ln held).board = s.board := by simp [State.discard]

@[simp] theorem gathered_board (ln : Line) (rest : List Byte) : (s.gathered ln rest).board = s.board := by simp [State.gathered]

@[simp] theorem joinFifo_board (l : Link) (f : Frame) : (s.joinFifo l f).board = s.board := by simp [State.joinFifo]

theorem siteFrame_board {s t : State} {bytes : List Byte} {p : Frame → Bool} {f : Frame}
    (h : s.siteFrame bytes p = some (f, t)) : t.board = s.board := by
  unfold State.siteFrame at h
  split at h
  · split at h
    · cases h
      exact gathered_board ..
    · cases h
  · cases h

@[simp] theorem openRequest_board (l : Link) (f : Frame) : (s.openRequest l f).board = s.board := modLink_board ..

@[simp] theorem answer_board (l : Link) (kind : Byte) (c : Code) (data : List Byte) : (s.answer l kind c data).board = s.board :=
  modLink_board ..

theorem takeQuery_board (l : Link) (c : Instr) (q : State → List Byte → Code × List Byte) : (s.takeQuery l c q).board = s.board := by
  unfold State.takeQuery
  split <;> simp

theorem takeUnknown_board (l : Link) : (s.takeUnknown l).board = s.board := by
  unfold State.takeUnknown
  split <;> simp

theorem takeLocal_board {h : State → List Byte → Result} (hh : ∀ s p, (h s p).state.board = s.board) (l : Link) (c : Instr) :
    (s.takeLocal l c h).board = s.board := by
  unfold State.takeLocal
  split <;> simp [hh]

/-- A request keeps the rules where its handler keeps them from a state that has them. -/
theorem takeRequest_keeps {s : State} {h : State → List Byte → Result}
    (hh : ∀ (t : State) p, t.board = s.board → t.board.Keeps (h t p).state.board) (l : Link) (c : Instr) :
    s.board.Keeps (s.takeRequest l c h).board := by
  unfold State.takeRequest
  split
  · rfl
  · rename_i f _
    have handled := (hh (s.openRequest l f) f.payload (openRequest_board ..)).after (openRequest_board ..)
    simp only [answer_board, board_ite, keeps_ite]
    exact ⟨fun _ => handled.trans (settle_keeps ..), fun _ => handled⟩

/-! ### The handlers of the requests -/

theorem noArgs_keeps {s : State} {r : Unit → Result} (h : s.board.Keeps (r ()).state.board) (p : List Byte) :
    s.board.Keeps (noArgs p r s).state.board := by
  unfold noArgs
  split
  · exact h
  · rfl

theorem takeSlew_board (p : List Byte) : (takeSlew s p).state.board = s.board := by
  unfold takeSlew
  split
  · rfl
  · split <;> simp [State.addGroup]

theorem takeCancel_keeps (p : List Byte) : s.board.Keeps (takeCancel s p).state.board := by
  unfold takeCancel
  split
  · split
    · rfl
    · split
      · rfl
      · exact endGroup_keeps ..
  · rfl

theorem takeFlush_keeps (p : List Byte) : s.board.Keeps (takeFlush s p).state.board :=
  noArgs_keeps (foldl_keeps s (endGroup_keeps · .cancelled) _) p

theorem takeResume_keeps (p : List Byte) : s.board.Keeps (takeResume s p).state.board := noArgs_keeps (by simp) p

/-- REST brakes stations without owner; one that it names again has none either. -/
theorem takeRest_keeps (p : List Byte) : s.board.Keeps (takeRest s p).state.board := by
  unfold takeRest
  split
  · rfl
  · refine foldl_keeps_where (P := fun s i => (s.stn i).motion.isOwned = false ∧ (s.stn i).motion ≠ .disabled) s
      (fun s i h => brakePointed_keeps h.1 h.2) (fun s i j _ h => ?_) _ fun i hi => ?_
    · rw [motion_eq_board, brakePointed_board]
      by_cases e : j = i
      · subst e
        rw [Board.setSeat_seat_same]
        exact ⟨rfl, nofun⟩
      · rwa [Board.setSeat_seat_ne e]
    · have pointed : (s.stn i).motion = .pointed := by simpa using List.of_mem_filter hi
      exact ⟨by rw [pointed]; rfl, by simp [pointed]⟩

theorem takeSteer_board (p : List Byte) : (takeSteer s p).state.board = s.board := by
  unfold takeSteer
  split
  · rfl
  · split <;> simp [State.addSteer]

theorem takeHalt_keeps (p : List Byte) : s.board.Keeps (takeHalt s p).state.board := by
  unfold takeHalt
  split
  · rfl
  · exact foldl_keeps s haltStation_keeps _

theorem stowAll_keeps : s.board.Keeps s.stowAll.board := by
  unfold State.stowAll
  split
  · exact startOrRestart_keeps ..
  · exact startOrRestart_keeps ..
  all_goals
    dsimp only
    rw [resumeCampaign_board]
    exact ((foldl_keeps _ buildEntry_keeps _).after (addCause_board ..)).trans (rejoinAll_keeps ..)

theorem takeStowAll_keeps (p : List Byte) : s.board.Keeps (takeStowAll s p).state.board := noArgs_keeps (stowAll_keeps s) p

theorem takeUnstow_keeps (p : List Byte) : s.board.Keeps (takeUnstow s p).state.board := by
  refine noArgs_keeps ?_ p
  dsimp only
  split
  · exact beginEnding_keeps s
  · split <;> rfl

theorem takeSnowOn_keeps (p : List Byte) : s.board.Keeps (takeSnowOn s p).state.board := noArgs_keeps (snowTurnOn_keeps s _) p

theorem takeSnowOff_keeps (p : List Byte) : s.board.Keeps (takeSnowOff s p).state.board := noArgs_keeps (snowTurnOff_keeps s) p

theorem takeConsoleLock_keeps (p : List Byte) : s.board.Keeps (takeConsoleLock s p).state.board := by
  unfold takeConsoleLock
  split
  · rfl
  · split
    · rfl
    · exact (judgeLockBar_keeps _ _).after (joinSlot_board ..)

theorem takeConsoleUnlock_keeps (p : List Byte) : s.board.Keeps (takeConsoleUnlock s p).state.board := by
  unfold takeConsoleUnlock
  split
  · rfl
  · split
    · rfl
    · split
      · exact (judgeLockBar_keeps _ _).after (emptySlot_board ..)
      · rfl

theorem takeWriteOff_board (p : List Byte) : (takeWriteOff s p).state.board = s.board := by
  unfold takeWriteOff
  split
  · rfl
  · split <;> rfl

/-- ENABLE reaches the stations that are not enabled, which by R8 are the DISABLED ones. -/
theorem takeEnable_keeps {s : State} (o : s.board.Owners) (p : List Byte) : s.board.Keeps (takeEnable s p).state.board := by
  unfold takeEnable
  split
  · rfl
  · rename_i l _
    rw [done_state, wakeLines_board]
    refine foldl_keeps_where (P := fun s i => (s.stn i).motion = .disabled ∨ (s.stn i).motion = .unknown) s
      (fun s i => enableStation_keeps) (fun s i j _ known => ?_) _ fun i hi => ?_
    · rw [enableStation_motion]
      split
      · exact .inr rfl
      · exact known
    · have off : (s.stn i).enabled = false := by simpa using List.of_mem_filter hi
      have k : (s.stn i).enabled = !decide ((s.stn i).motion = .disabled) := (o i).2
      exact .inl (by simpa [off] using k)

theorem takeDisable_keeps (p : List Byte) : s.board.Keeps (takeDisable s p).state.board := by
  unfold takeDisable
  split
  · rfl
  · dsimp only
    split
    · rename_i l _ _ may
      refine foldl_keeps_where (P := fun s i => (s.stn i).motion.isResting = true ∨ (s.stn i).motion = .disabled) s
        (fun s i => disableStation_keeps) (fun s i j _ known => ?_) _ fun i hi => ?_
      · rw [disableStation_motion]
        split
        · exact .inr rfl
        · exact known
      · have refused : i ∉ (l.filter fun i => (s.stn i).enabled).filter fun i => !s.mayDisable i := by rw [may]; nofun
        have able : s.mayDisable i = true := by
          by_contra unable
          exact refused (List.mem_filter.mpr ⟨hi, by simp [unable]⟩)
        simp only [State.mayDisable, Bool.and_eq_true] at able
        exact .inl able.1.1.1
    · rfl

theorem takeClear_keeps (p : List Byte) : s.board.Keeps (takeClear s p).state.board := noArgs_keeps (clearQueues_keeps s) p

theorem takeAck_board (l : Link) (p : List Byte) : (takeAck l s p).state.board = s.board := by
  unfold takeAck
  split <;> simp

theorem takeDump_board (p : List Byte) : (takeDump s p).state.board = s.board := by
  unfold takeDump
  split
  · split
    · rfl
    · split
      · simp [dumpArray]
      · split <;> simp [dumpRange]
  · rfl

@[simp] theorem reprioritise_board : s.reprioritise.board = s.board := by
  refine congrArg (fun waits => { s.board with waits }) ?_
  simp only [State.reprioritise, List.map_map]
  refine List.map_congr_left fun e _ => ?_
  obtain ⟨body, _⟩ := e
  cases body <;> rfl

theorem applyParam_keeps (p : Param) (before : Params) : s.board.Keeps (s.applyParam p before).board := by
  unfold State.applyParam
  split
  case h_1 => rw [reprioritise_board]
  case h_2 => exact (evaluate_keeps _ false).after (board_mk ..)
  case h_3 => exact (evaluate_keeps _ false).after (board_mk ..)
  case h_4 => exact evaluate_keeps ..
  case h_5 => exact judgeAuto_keeps ..
  case h_6 => exact judgeAuto_keeps ..
  case h_7 => exact judgeAuto_keeps ..
  case h_8 => exact (judgeParks_keeps _).after (board_mk ..)
  case h_9 => exact foldl_keeps s moveSilence_keeps _
  case h_10 => exact foldl_keeps s judgeLoss_keeps _
  case h_11 => simp [State.maskSet]
  case h_12 => simp [State.maskSet]
  case h_13 => rfl

theorem takeSet_keeps (p : List Byte) : s.board.Keeps (takeSet s p).state.board := by
  unfold takeSet
  split
  · rfl
  · split
    · split
      · rfl
      · dsimp only
        split
        · rfl
        · exact (applyParam_keeps ..).after (board_mk ..)
    · rfl

/-! ### The line events and the expiries -/

theorem linkFrame_board (l : Link) (bytes : List Byte) : (s.linkFrame l bytes).board = s.board := by
  unfold State.linkFrame
  split <;> simp

theorem badFrame_board (ln : Line) (bytes : List Byte) : (s.badFrame ln bytes).board = s.board := by
  unfold State.badFrame
  split <;> simp

theorem startCollecting_board (ln : Line) (bytes : List Byte) : (s.startCollecting ln bytes).board = s.board := by
  unfold State.startCollecting
  split <;> simp

theorem mastFrame_keeps (bytes : List Byte) : s.board.Keeps (s.mastFrame bytes).board := by
  unfold State.mastFrame
  split
  · rfl
  · rename_i hf
    split
    · exact ((takeMast_keeps ..).after (siteFrame_board hf)).trans (settle_keeps ..)
    · rfl

theorem precipFrame_keeps (bytes : List Byte) : s.board.Keeps (s.precipFrame bytes).board := by
  unfold State.precipFrame
  split
  · rfl
  · rename_i hf
    split
    · split
      · exact ((takePrecip_keeps ..).after (siteFrame_board hf)).trans (settle_keeps ..)
      · rw [siteFrame_board hf]
    · rfl

@[simp] theorem takeFeeder_board (n : Nat) : (s.takeFeeder n).board = s.board := rfl

theorem feederFrame_keeps (bytes : List Byte) : s.board.Keeps (s.feederFrame bytes).board := by
  unfold State.feederFrame
  split
  · rfl
  · rename_i f t hf
    split
    · rename_i n _
      exact (settle_keeps (t.takeFeeder n) false t).after ((takeFeeder_board t n).trans (siteFrame_board hf))
    · rfl

theorem ignoredFrame_board (bytes : List Byte) : (s.ignoredFrame bytes).board = s.board := by
  unfold State.ignoredFrame
  split
  · rfl
  · rename_i hf
    exact siteFrame_board hf

/-- A visit that is not void is that of an enabled station. -/
theorem on_of_visit {s : State} {v : BusVisit} (h : ¬ s.visitVoid v = true) : (s.stn v.station).motion ≠ .disabled := fun e =>
  h (by simp [State.visitVoid, State.isDisabled, e])

theorem statusReply_keeps (bytes : List Byte) : s.board.Keeps (s.statusReply bytes).board := by
  unfold State.statusReply
  split
  · rfl
  · split
    · rfl
    · split
      · simp
      · rename_i h
        rw [endVisit_board]
        exact (takeReply_keeps (on_of_visit h) ..).trans (settle_keeps ..)

theorem missVisit_keeps (v : BusVisit) : s.board.Keeps (s.missVisit v).board := by
  unfold State.missVisit
  split
  · simp
  · rw [endVisit_board]
    exact (miss_keeps ..).trans (settle_keeps ..)

theorem badReply_keeps (bytes : List Byte) : s.board.Keeps (s.badReply bytes).board := by
  unfold State.badReply
  split
  · rfl
  · simp [missVisit_keeps]

theorem replyTimeout_keeps : s.board.Keeps s.replyTimeout.board := by
  unfold State.replyTimeout
  split
  · rfl
  · simp [missVisit_keeps]

theorem keysReply_keeps (bytes : List Byte) : s.board.Keeps (s.keysReply bytes).board := by
  unfold State.keysReply
  split
  · rfl
  · split
    · rfl
    · dsimp only
      rw [nextPanel_board]
      split
      · rfl
      · exact (takeKeys_keeps ..).trans (settle_keeps ..)

theorem panelMissed_board (bytes : Option (List Byte)) : (s.panelMissed bytes).board = s.board := by
  unfold State.panelMissed
  split
  · rfl
  · split <;> simp

@[simp] theorem deadlineEnd_board : s.deadlineEnd.board = s.board := by simp [State.deadlineEnd]

theorem clearEnd_keeps : s.board.Keeps s.clearEnd.board := by
  unfold State.clearEnd
  dsimp only
  split
  · exact (snowTurnOff_keeps _).after (board_mk ..)
  · rfl

theorem idleEnd_keeps (i : Stn) : s.board.Keeps (s.idleEnd i).board := (judgePark_keeps _ i).after (board_mk ..)

end

/-! ### Every command -/

theorem next_keeps {b : Board} {r t : State} (k : b.Keeps r.board) (h : (.next r : Out) = .next t) : b.Keeps t.board :=
  Host.Outcome.next.inj h ▸ k

theorem next_keeps_of_board {s r t : State} (e : r.board = s.board) (h : (.next r : Out) = .next t) : s.board.Keeps t.board :=
  next_keeps (.same e) h

/-- An expiry keeps the rules where its event, taken when it is due, keeps them. -/
theorem expire_keeps {s t : State} {due : Bool} {f : State → State} (h : s.expire due f = .next t)
    (hf : due = true → s.board.Keeps (f s).board) : s.board.Keeps t.board := by
  cases due with
  | false => exact next_keeps (.refl _) h
  | true => exact next_keeps ((hf rfl).trans (settle_keeps ..)) h

/-- A command other than POWER_ON_RESET keeps the rules. -/
theorem exec_keeps {c : Instr} {s t : State} (o : OwnerRule s) (h : exec c s = .next t) (notReset : c ≠ .powerOnReset) :
    s.board.Keeps t.board := by
  cases c with
  | powerOnReset => exact absurd rfl notReset
  | linkFrameReceived l b => exact next_keeps_of_board (linkFrame_board s l b) h
  | badFrame ln b => exact next_keeps_of_board (badFrame_board s ln b) h
  | collectingStart ln b => exact next_keeps_of_board (startCollecting_board s ln b) h
  | transmitFrameEnd l => exact next_keeps_of_board (modLink_board s l _) h
  | slew => exact next_keeps (takeRequest_keeps (fun t p _ => .same (takeSlew_board t p)) ..) h
  | cancel => exact next_keeps (takeRequest_keeps (fun t p _ => takeCancel_keeps t p) ..) h
  | flush => exact next_keeps (takeRequest_keeps (fun t p _ => takeFlush_keeps t p) ..) h
  | resume => exact next_keeps (takeRequest_keeps (fun t p _ => takeResume_keeps t p) ..) h
  | rest => exact next_keeps (takeRequest_keeps (fun t p _ => takeRest_keeps t p) ..) h
  | steer => exact next_keeps (takeRequest_keeps (fun t p _ => .same (takeSteer_board t p)) ..) h
  | halt => exact next_keeps (takeRequest_keeps (fun t p _ => takeHalt_keeps t p) ..) h
  | stowAll => exact next_keeps (takeRequest_keeps (fun t p _ => takeStowAll_keeps t p) ..) h
  | unstow => exact next_keeps (takeRequest_keeps (fun t p _ => takeUnstow_keeps t p) ..) h
  | snowOn => exact next_keeps (takeRequest_keeps (fun t p _ => takeSnowOn_keeps t p) ..) h
  | snowOff => exact next_keeps (takeRequest_keeps (fun t p _ => takeSnowOff_keeps t p) ..) h
  | consoleLock => exact next_keeps (takeRequest_keeps (fun t p _ => takeConsoleLock_keeps t p) ..) h
  | consoleUnlock => exact next_keeps (takeRequest_keeps (fun t p _ => takeConsoleUnlock_keeps t p) ..) h
  | writeOff => exact next_keeps (takeRequest_keeps (fun t p _ => .same (takeWriteOff_board t p)) ..) h
  | enable => exact next_keeps (takeRequest_keeps (fun t p e => takeEnable_keeps (e ▸ (ownerRule_iff s).mp o) p) ..) h
  | disable => exact next_keeps (takeRequest_keeps (fun t p _ => takeDisable_keeps t p) ..) h
  | setParam => exact next_keeps (takeRequest_keeps (fun t p _ => takeSet_keeps t p) ..) h
  | clearAll => exact next_keeps (takeRequest_keeps (fun t p _ => takeClear_keeps t p) ..) h
  | getParam => exact next_keeps_of_board (takeQuery_board s _ _ _) h
  | qStation l => exact next_keeps_of_board (takeQuery_board s _ _ _) h
  | qPower l => exact next_keeps_of_board (takeQuery_board s _ _ _) h
  | qWind l => exact next_keeps_of_board (takeQuery_board s _ _ _) h
  | qCampaign l => exact next_keeps_of_board (takeQuery_board s _ _ _) h
  | qQueue l => exact next_keeps_of_board (takeQuery_board s _ _ _) h
  | qLockout l => exact next_keeps_of_board (takeQuery_board s _ _ _) h
  | ack l => exact next_keeps_of_board (takeLocal_board s (takeAck_board · l) _ _) h
  | dump l => exact next_keeps_of_board (takeLocal_board s takeDump_board _ _) h
  | unknownRequestKind l => exact next_keeps_of_board (takeUnknown_board s l) h
  | mast b => exact next_keeps (mastFrame_keeps s b) h
  | precip b => exact next_keeps (precipFrame_keeps s b) h
  | feeder b => exact next_keeps (feederFrame_keeps s b) h
  | siteFrameIgnored b => exact next_keeps_of_board (ignoredFrame_board s b) h
  | statusReply b => exact next_keeps (statusReply_keeps s b) h
  | badReply b => exact next_keeps (badReply_keeps s b) h
  | replyTimeoutExpiry => exact next_keeps (replyTimeout_keeps s) h
  | keys b => exact next_keeps (keysReply_keeps s b) h
  | panelReplyMissed b => exact next_keeps_of_board (panelMissed_board s b) h
  | panelSilenceExpiry i => exact expire_keeps (f := (·.panelSilent i)) h fun _ => panelSilent_keeps s i
  | warningExpiry i => exact expire_keeps (f := (·.warningEnd i)) h fun _ => warningEnd_keeps s i
  | silenceExpiry m => exact expire_keeps (f := (·.silenceEnd m)) h fun _ => silenceEnd_keeps s m
  | dwellExpiry => exact expire_keeps (f := (·.evaluate true)) h fun _ => evaluate_keeps s true
  | deadlineExpiry => exact expire_keeps (f := State.deadlineEnd) h fun _ => .same (deadlineEnd_board s)
  | clearTimerExpiry => exact expire_keeps (f := State.clearEnd) h fun _ => clearEnd_keeps s
  | timerAExpiry i =>
    refine expire_keeps (due := s.timerADue i) (f := (·.stopHeat i .offPhase)) h fun due => ?_
    have on : (s.chan i).state = .on := by simp_all [State.timerADue]
    rw [stopHeat_board]
    exact .reheat (outOfWait_of on nofun)
  | timerBExpiry i =>
    refine expire_keeps (due := s.timerBDue i) (f := (·.startCycle i)) h fun due => ?_
    have off : (s.chan i).state = .offPhase := by simp_all [State.timerBDue]
    exact startCycleAs_keeps (outOfWait_of off nofun) _
  | idleExpiry i => exact expire_keeps (f := (·.idleEnd i)) h fun _ => idleEnd_keeps s i

/-- At reset every station is DISABLED without an owner, and nothing waits (R20, R69). -/
theorem reset_board : State.reset.board =
    { seat := fun _ => Station.reset.seat, heater := fun _ => Channel.reset.state, waits := [] } := by
  simp [State.board, boardOf, State.reset, Vector.get_replicate]

theorem reset_ruled : State.reset.board.Owners ∧ State.reset.board.Listed := by
  rw [reset_board]
  exact ⟨fun _ => ⟨rfl, rfl⟩, ⟨List.nodup_nil, List.nodup_nil, nofun, nofun, nofun⟩⟩

/-- A command keeps both rules: POWER_ON_RESET restores them, and every other command keeps them. -/
theorem exec_rules {c : Instr} {s t : State} (o : OwnerRule s) (h : exec c s = .next t) : s.board.Keeps t.board := by
  by_cases reset : c = .powerOnReset
  · subst reset
    cases h
    exact ⟨fun _ => reset_ruled.1, fun _ _ => reset_ruled.2⟩
  · exact exec_keeps o h reset

/-- A step is a command on the rest of the queue, or passes site time. -/
theorem step_keeps {s t : State} (o : OwnerRule s) (h : step s = .next t) : s.board.Keeps t.board := by
  unfold step idle at h
  split at h
  · rename_i c rest _
    exact (exec_rules (s := { s with pending := rest }) o h).after (board_mk ..)
  · split at h
    · exact exec_rules o h
    · exact next_keeps (.same (board_mk ..)) h

/-- Settles O4, from what every step keeps of the board. -/
theorem stepKeepsOwnerRule : Obligations.StepKeepsOwnerRule := fun _ _ o h => (step_keeps o h).owners o

/-- Settles O60, from what every step keeps of the board. -/
theorem stepKeepsListRule : Obligations.StepKeepsListRule := fun s t o l h =>
  (listRule_iff t).mpr ((step_keeps o h).listed o ((listRule_iff s).mp l))

/-! ### Queries (R176) -/

@[simp] theorem LinkState.placeHead_flags (k : LinkState) (f : Frame) : (k.placeHead f).flags = k.flags := by
  unfold LinkState.placeHead; split <;> rfl
@[simp] theorem LinkState.placeHead_rx (k : LinkState) (f : Frame) : (k.placeHead f).rx = k.rx := by
  unfold LinkState.placeHead; split <;> rfl
@[simp] theorem LinkState.placeTail_rx (k : LinkState) (f : Frame) : (k.placeTail f).rx = k.rx := by
  unfold LinkState.placeTail; split <;> rfl

/-- GO and the PAUSE it takes out concern the transmit order and the paused flag only (R175, R177). -/
theorem LinkState.judgeGo_keeps (k : LinkState) (n : Nat) : (k.judgeGo n).flags = k.flags ∧ (k.judgeGo n).rx = k.rx := by
  unfold LinkState.judgeGo
  split
  · split <;> simp
  · simp

/-- A request that only answers touches its link alone, and neither its flags nor its input side. -/
theorem requestAnswered_onlyLink (s : State) (l : Link) (f : Frame) (c : Code) (d : List Byte) :
    OnlyLink l s (requestAnswered s l f c d) ∧ ((requestAnswered s l f c d).link l).flags = (s.link l).flags ∧
      ((requestAnswered s l f c d).link l).rx = (s.link l).rx := by
  unfold requestAnswered State.openRequest State.answer
  rw [modLink_modLink]
  obtain ⟨hflags, hrx⟩ := LinkState.judgeGo_keeps { s.link l with fifo := (s.link l).fifo.tail } s.cfg.goAt
  refine ⟨⟨_, rfl⟩, ?_, ?_⟩
  · simp [LinkState.fillReply, placeTail_flags, hflags]
  · simp [LinkState.fillReply, hrx]

/-- A state differs from itself in nothing. -/
theorem onlyLink_refl (l : Link) (s : State) : OnlyLink l s s := ⟨id, by cases l <;> rfl⟩

/-- A query finds no request to take, or answers it. -/
theorem takeQuery_cases (s : State) (l : Link) (c : Instr) (q : State → List Byte → Code × List Byte) :
    s.takeQuery l c q = s ∨ ∃ f r d, s.takeQuery l c q = requestAnswered s l f r d := by
  unfold State.takeQuery
  split
  · exact .inl rfl
  · exact .inr ⟨_, _, _, rfl⟩

/-- An unknown request is not there to take, or is answered. -/
theorem takeUnknown_cases (s : State) (l : Link) :
    s.takeUnknown l = s ∨ ∃ f r d, s.takeUnknown l = requestAnswered s l f r d := by
  unfold State.takeUnknown
  split
  · exact .inl rfl
  · exact .inr ⟨_, _, _, rfl⟩

/-- What answers at most touches its link alone, and neither its flags nor its input side. -/
theorem onlyLink_of_answered {s t : State} {l : Link} (h : t = s ∨ ∃ f r d, t = requestAnswered s l f r d) :
    OnlyLink l s t ∧ (t.link l).flags = (s.link l).flags ∧ (t.link l).rx = (s.link l).rx := by
  obtain rfl | ⟨f, r, d, rfl⟩ := h
  · exact ⟨onlyLink_refl l t, rfl, rfl⟩
  · exact requestAnswered_onlyLink s l f r d

/-- The commands of the queries and of the unknown kind answer at most. -/
theorem exec_query_answered {l : Link} {c : Instr} (s : State)
    (h : c ∈ [.qStation l, .qPower l, .qWind l, .qCampaign l, .qQueue l, .qLockout l, .unknownRequestKind l]) :
    ∃ t, exec c s = .next t ∧ (t = s ∨ ∃ f r d, t = requestAnswered s l f r d) := by
  simp only [List.mem_cons, List.not_mem_nil, or_false] at h
  obtain rfl | rfl | rfl | rfl | rfl | rfl | rfl := h
  · exact ⟨_, rfl, takeQuery_cases s l (.qStation l) answerStation⟩
  · exact ⟨_, rfl, takeQuery_cases s l (.qPower l) answerPower⟩
  · exact ⟨_, rfl, takeQuery_cases s l (.qWind l) (answerPlain State.windData)⟩
  · exact ⟨_, rfl, takeQuery_cases s l (.qCampaign l) (answerPlain State.campaignData)⟩
  · exact ⟨_, rfl, takeQuery_cases s l (.qQueue l) (answerPlain (State.queueData l))⟩
  · exact ⟨_, rfl, takeQuery_cases s l (.qLockout l) answerLockout⟩
  · exact ⟨_, rfl, takeUnknown_cases s l⟩

/-- Settles O15. -/
theorem queryTouchesOnlyItsLink : Obligations.QueryTouchesOnlyItsLink := by
  unfold Obligations.QueryTouchesOnlyItsLink
  intro l c s hc
  obtain ⟨t, ht, answered⟩ := exec_query_answered s hc
  exact ⟨t, ht, onlyLink_of_answered answered⟩

/-! ### What the queries read (R19, R50, R85, R101, R123, R158) -/

section Read
variable (s : State) (l : Link) (g : LinkState → LinkState)

@[simp] theorem stationData_modLink (i : Stn) : (s.modLink l g).stationData i = s.stationData i := by cases l <;> rfl
@[simp] theorem summaryData_modLink : (s.modLink l g).summaryData = s.summaryData := by cases l <;> rfl
@[simp] theorem grantsData_modLink : (s.modLink l g).grantsData = s.grantsData := by cases l <;> rfl
@[simp] theorem listData_modLink : (s.modLink l g).listData = s.listData := by cases l <;> rfl
@[simp] theorem windData_modLink : (s.modLink l g).windData = s.windData := by cases l <;> rfl
@[simp] theorem campaignData_modLink : (s.modLink l g).campaignData = s.campaignData := by cases l <;> rfl
@[simp] theorem queueData_modLink (m : Link) : (s.modLink l g).queueData m = s.queueData m := by cases l <;> rfl
@[simp] theorem lockData_modLink (i : Stn) : (s.modLink l g).lockData i = s.lockData i := by cases l <;> rfl
@[simp] theorem lock_modLink (i : Stn) : (s.modLink l g).lock i = s.lock i := by cases l <;> rfl

end Read

/-- A handler of queries that reads nothing of the links. -/
def ReadsPastLinks (q : State → List Byte → Code × List Byte) : Prop :=
  ∀ (s : State) (l : Link) (g : LinkState → LinkState) (p : List Byte), q (s.modLink l g) p = q s p

theorem answerStation_readsPastLinks : ReadsPastLinks answerStation := fun s l g p => by simp [answerStation]
theorem answerPower_readsPastLinks : ReadsPastLinks answerPower := fun s l g p => by simp [answerPower]
theorem answerLockout_readsPastLinks : ReadsPastLinks answerLockout := fun s l g p => by simp [answerLockout]
theorem answerPlain_readsPastLinks {d : State → List Byte} (hd : ∀ s l g, d (State.modLink s l g) = d s) :
    ReadsPastLinks (answerPlain d) := fun s l g p => by simp [answerPlain, hd]

/-- A ready query is answered from the state before it. -/
theorem takeQuery_answered {s : State} {l : Link} {f : Frame} {k : Byte} {q : State → List Byte → Code × List Byte}
    {c : Code} {d : List Byte} (hq : ReadsPastLinks q) (h : Ready s l f k) (hr : q s f.payload = (c, d)) :
    s.takeQuery l (requestOf l k) q = requestAnswered s l f c d := by
  have hopen : q (s.openRequest l f) f.payload = (c, d) := by
    unfold State.openRequest
    exact (hq ..).trans hr
  rw [takeQuery_ready h, hopen, requestAnswered]

/-- The kinds of the shared queries on either link (R174). -/
theorem requestOf_query (l : Link) :
    requestOf l 0x50 = .qStation l ∧ requestOf l 0x51 = .qPower l ∧ requestOf l 0x52 = .qWind l ∧
      requestOf l 0x53 = .qCampaign l ∧ requestOf l 0x54 = .qQueue l ∧ requestOf l 0x55 = .qLockout l := by
  cases l <;> decide

section Ready
variable {s : State} {l : Link} {f : Frame} {c : Code} {d : List Byte}

theorem qStation_answered (h : Ready s l f 0x50) (hr : answerStation s f.payload = (c, d)) :
    exec (.qStation l) s = .next (requestAnswered s l f c d) := by
  have taken := takeQuery_answered answerStation_readsPastLinks h hr
  obtain ⟨hk, -⟩ := requestOf_query l
  rw [hk] at taken
  exact congrArg Host.Outcome.next taken

theorem qPower_answered (h : Ready s l f 0x51) (hr : answerPower s f.payload = (c, d)) :
    exec (.qPower l) s = .next (requestAnswered s l f c d) := by
  have taken := takeQuery_answered answerPower_readsPastLinks h hr
  obtain ⟨-, hk, -⟩ := requestOf_query l
  rw [hk] at taken
  exact congrArg Host.Outcome.next taken

theorem qLockout_answered (h : Ready s l f 0x55) (hr : answerLockout s f.payload = (c, d)) :
    exec (.qLockout l) s = .next (requestAnswered s l f c d) := by
  have taken := takeQuery_answered answerLockout_readsPastLinks h hr
  obtain ⟨-, -, -, -, -, hk⟩ := requestOf_query l
  rw [hk] at taken
  exact congrArg Host.Outcome.next taken

/-- A ready query without arguments answers its record, or BAD_ARG for any payload. -/
theorem takePlain_answered {k : Byte} {r : State → List Byte} (hr : ∀ s l g, r (State.modLink s l g) = r s)
    (h : Ready s l f k) :
    s.takeQuery l (requestOf l k) (answerPlain r) =
      if f.payload = [] then requestAnswered s l f .done (r s) else requestAnswered s l f .badArg [] := by
  split
  case isTrue hp => exact takeQuery_answered (answerPlain_readsPastLinks hr) h (if_pos hp)
  case isFalse hp => exact takeQuery_answered (answerPlain_readsPastLinks hr) h (if_neg hp)

/-- The queries without arguments: the wind, the campaign, the queue of the link (R50, R101, R123). -/
theorem plainQueries_answered :
    (Ready s l f 0x52 → exec (.qWind l) s = .next
      (if f.payload = [] then requestAnswered s l f .done s.windData else requestAnswered s l f .badArg [])) ∧
    (Ready s l f 0x53 → exec (.qCampaign l) s = .next
      (if f.payload = [] then requestAnswered s l f .done s.campaignData else requestAnswered s l f .badArg [])) ∧
    (Ready s l f 0x54 → exec (.qQueue l) s = .next
      (if f.payload = [] then requestAnswered s l f .done (s.queueData l) else requestAnswered s l f .badArg [])) := by
  obtain ⟨-, -, hwind, hcamp, hqueue, -⟩ := requestOf_query l
  refine ⟨fun h => ?_, fun h => ?_, fun h => ?_⟩
  · exact congrArg Host.Outcome.next (hwind ▸ takePlain_answered windData_modLink h)
  · exact congrArg Host.Outcome.next (hcamp ▸ takePlain_answered campaignData_modLink h)
  · exact congrArg Host.Outcome.next (hqueue ▸ takePlain_answered (fun s m g => queueData_modLink s m g l) h)

/-- A kind that is no request of the link decodes as unknown. -/
theorem requestOf_unknown {k : Byte} (h : ownRequest l k = none) : requestOf l k = .unknownRequestKind l := by
  simp [requestOf, h]

theorem unknown_answered (h : Ready s l f f.kind) (hk : ownRequest l f.kind = none) :
    exec (.unknownRequestKind l) s = .next (requestAnswered s l f (answerUnknown f.kind) []) := by
  have taken := requestFor_ready h
  rw [requestOf_unknown hk] at taken
  show Host.Outcome.next (s.takeUnknown l) = _
  simp only [State.takeUnknown, taken, requestAnswered]

end Ready

/-- The section byte of Q_POWER is one of three, and the payload three bytes long (R85). -/
theorem answerPower_badArg (s : State) {p : List Byte} (h : p.length ≠ 3 ∨ ∃ a, p.head? = some a ∧ 2 < a.toNat) :
    answerPower s p = (.badArg, []) := by
  unfold answerPower
  split
  next sec n c =>
    obtain h | ⟨a, ha, hlt⟩ := h
    · exact absurd rfl h
    · obtain rfl : sec = a := by simpa using ha
      split
      case h_1 h | h_2 h | h_3 h => omega
      case h_4 => rfl
  next => rfl

theorem answerPower_summary (s : State) {p : List Byte} (h0 : p.head? = some 0) (hl : p.length = 3) :
    answerPower s p = (.done, s.summaryData) := by
  obtain ⟨a, n, c, rfl⟩ := List.length_eq_three.mp hl
  obtain rfl : a = 0 := by simpa using h0
  rfl

theorem answerStation_eq (s : State) (p : List Byte) :
    answerStation s p = (stationArg p).elim (.badArg, []) fun i => (.done, s.stationData i) := by
  unfold answerStation
  cases stationArg p <;> rfl

/-- A station payload is one byte 1 to 32. -/
theorem stationArg_some {p : List Byte} {i : Stn} (h : stationArg p = some i) :
    ∃ n : Byte, p = [n] ∧ n.toNat ≠ 0 ∧ stnOf n.toNat = some i := by
  unfold stationArg at h
  split at h
  next n => exact ⟨n, rfl, fun h0 => by simp [h0, stnOf] at h, h⟩
  next => cases h

theorem answerLockout_station (s : State) {p : List Byte} {i : Stn} (h : stationArg p = some i) :
    answerLockout s p = (.done, s.lockData i) := by
  obtain ⟨n, rfl, h0, hn⟩ := stationArg_some h
  simp only [answerLockout, if_neg h0, hn]

theorem answerLockout_badArg (s : State) {p : List Byte} (h0 : p ≠ [0]) (h : stationArg p = none) :
    answerLockout s p = (.badArg, []) := by
  unfold answerLockout
  split
  next n =>
    have hn : n.toNat ≠ 0 := fun e => h0 (by rw [BitVec.eq_of_toNat_eq (y := 0) e])
    have hs : stnOf n.toNat = none := h
    rw [if_neg hn, hs]
  next => rfl

/-- Settles O55: each query answers from the state before it, since the opening of the request touches its link only. -/
theorem queriesAnswerTheRecords : Obligations.QueriesAnswerTheRecords := by
  unfold Obligations.QueriesAnswerTheRecords
  intro l s f
  obtain ⟨hwind, hcamp, hqueue⟩ := plainQueries_answered (s := s) (l := l) (f := f)
  refine ⟨fun i h hi => ?_, fun h hi => ?_, fun h h0 hl => ?_, fun n c h hp => ?_, fun n c h hp => ?_, fun h hbad => ?_,
    hwind, hcamp, hqueue, fun h hp => ?_, fun i h hi => ?_, fun h h0 hi => ?_, fun c hf hb hk hc => ?_⟩
  · exact qStation_answered h (by simp [answerStation_eq, hi])
  · exact qStation_answered h (by simp [answerStation_eq, hi])
  · exact qPower_answered h (answerPower_summary s h0 hl)
  · split
    next hin => exact qPower_answered h (by rw [hp]; exact if_pos hin)
    next hout => exact qPower_answered h (by rw [hp]; exact if_neg hout)
  · split
    next hin => exact qPower_answered h (by rw [hp]; exact if_pos hin)
    next hout => exact qPower_answered h (by rw [hp]; exact if_neg hout)
  · exact qPower_answered h (answerPower_badArg s hbad)
  · exact qLockout_answered h (by rw [hp]; rfl)
  · exact qLockout_answered h (answerLockout_station s hi)
  · exact qLockout_answered h (answerLockout_badArg s h0 hi)
  · rw [hc]
    exact unknown_answered ⟨hf, hb, rfl⟩ hk

/-! ### Reset (R20, R63, R86, R102, R124, R145, R159, R184, R186) -/

section Reset
variable (i : Stn)

@[simp] theorem reset_stn : State.reset.stn i = Station.reset := Vector.get_replicate ..
@[simp] theorem reset_motionGrant : State.reset.motionGrant i = Grant.reset := Vector.get_replicate ..
@[simp] theorem reset_heatGrant : State.reset.heatGrant i = Grant.reset := Vector.get_replicate ..
@[simp] theorem reset_chan : State.reset.chan i = Channel.reset := Vector.get_replicate ..
@[simp] theorem reset_park : State.reset.park i = none := Vector.get_replicate ..
@[simp] theorem reset_lock : State.reset.lock i = LockRec.reset := Vector.get_replicate ..
@[simp] theorem reset_cab : State.reset.cab i = Cabinet.reset := Vector.get_replicate ..
@[simp] theorem reset_stnStats : State.reset.stats.stn.get i = StnStats.reset := Vector.get_replicate ..
@[simp] theorem reset_mast (m : MastNo) : State.reset.wind.masts.get m = Mast.reset := Vector.get_replicate ..

end Reset

/-- Every mast is enabled by default (R86, R182). -/
theorem default_mastOn : ∀ m : MastNo, Params.default.mastOn m = true := by decide

theorem reset_idleExpiry (i : Stn) : State.reset.snow.idleExpiry.get i = none := Vector.get_replicate ..

/-- Settles O2: no record but the queue of commands and the count of choices differs from that of reset, so each value is that of
reset; the tables are read at any place. -/
theorem powerOnResetGivesResetValues : Obligations.PowerOnResetGivesResetValues := by
  unfold Obligations.PowerOnResetGivesResetValues
  intro s
  refine ⟨_, rfl, rfl, rfl, rfl, rfl, fun i => ?stations, rfl, rfl, rfl, rfl, rfl, rfl, rfl, rfl, rfl, rfl,
    fun m => ?masts, ?rest⟩
  case stations =>
    exact ⟨reset_stn i, reset_motionGrant i, reset_heatGrant i, reset_chan i, reset_park i, reset_lock i, reset_cab i,
      reset_stnStats i⟩
  case masts => exact ⟨reset_mast m, default_mastOn m⟩
  case rest =>
    refine ⟨rfl, rfl, rfl, rfl, rfl, rfl, rfl, rfl, rfl, rfl, rfl, rfl, rfl, rfl, rfl, rfl, rfl, rfl, rfl, rfl, rfl,
      fun i => reset_idleExpiry i, ?_⟩
    exact ⟨rfl, rfl, rfl, rfl, rfl, rfl, rfl, rfl, rfl, rfl, rfl⟩

/-! ### The invariants at reset -/

/-- Every default lies in the range of its parameter (R181). -/
theorem default_inRange (p : Param) : p.range.1 ≤ Params.default.get p ∧ Params.default.get p ≤ p.range.2 := by
  cases p with
  | derate g | surcharge g | floor g => cases g <;> decide
  | riseMean u | riseGust u | fallMean u | fallGust u | dwell u => cases u <;> decide
  | dutyBase c => cases c <;> decide
  | _ => decide

theorem reset_linkRule : LinkRule State.reset := fun l => by cases l <;> exact ⟨by decide, by decide, fun _ => rfl⟩

theorem reset_counterRule : CounterRule State.reset := by
  refine ⟨fun i => ?_, by unfold fits16; decide, by unfold fits16; decide, by unfold fits16; decide, ?_, ?_, ?_⟩
  · rw [reset_stnStats]
    unfold StnStats.small fits16; decide
  all_goals unfold LineStats.small fits16; decide

theorem reset_paramRule : ParamRule State.reset :=
  ⟨default_inRange, fun u => by cases u <;> decide, by decide, by decide⟩

theorem reset_lockRule : LockRule State.reset := fun i => by
  rw [reset_lock]
  exact ⟨fun h => absurd h (by decide), fun h => absurd h (by decide)⟩

/-- A grant after reset has no class, so it is clean and classed (R63). -/
theorem reset_grantRule : GrantRule State.reset := fun i => by
  have clean : Grant.reset.clean ∧ Grant.reset.classed := ⟨fun _ => ⟨rfl, rfl, rfl, rfl, rfl, rfl, rfl⟩, fun _ => rfl⟩
  rw [reset_motionGrant, reset_heatGrant]
  exact ⟨clean, clean⟩

theorem reset_sizeRule : SizeRule State.reset :=
  ⟨by decide, by decide, fun m => by rw [reset_mast]; decide, List.Pairwise.nil⟩

/-- Settles O3. -/
theorem invariantsHoldAtReset : Obligations.InvariantsHoldAtReset :=
  ⟨(ownerRule_iff _).mpr reset_ruled.1, reset_linkRule, reset_counterRule, reset_paramRule, reset_lockRule, reset_grantRule,
    reset_sizeRule, (listRule_iff _).mpr reset_ruled.2⟩

/-! ### What a reply writes of a station (R3, R165)

A reply writes the figures of its station and the poll record of its cabinet; the blocks that take it then act on that station alone and
leave both as written. -/

/-- What a station record shows of its cabinet: the axes without their targets, pin, switch and temperature (R3). -/
def Station.figures (r : Station) : Station :=
  { Station.reset with
    az := { r.az with target := none }, el := { r.el with target := none }, pin := r.pin, switch := r.switch, temp := r.temp }

/-- What a cabinet record keeps of the polling: its place in the cycle, the misses, whether a command is outstanding, and the last
status (R159). -/
def Cabinet.poll (k : Cabinet) : Bool × Nat × Bool × Option LastStatus := (k.inCycle, k.misses, k.outstanding.isSome, k.last)

/-- The figures of one station and its cabinet, and the whole records of the others. -/
structure View where
  figures : Station
  poll : Bool × Nat × Bool × Option LastStatus
  others : Stn → Option (Station × Cabinet)

/-- The view of a state at a station. -/
def State.view (s : State) (i : Stn) : View where
  figures := (s.stn i).figures
  poll := (s.cab i).poll
  others := fun j => if j = i then none else some (s.stn j, s.cab j)

@[simp] theorem Cabinet.overtake_poll (k : Cabinet) (p : Sent → Bool) : (k.overtake p).poll = k.poll := by
  simp [Cabinet.overtake, Cabinet.poll]

section View
variable (s : State) (i : Stn)

/-- The other records are those of the view. -/
theorem others_of_view {s t : State} {i j : Stn} (h : t.view i = s.view i) (hj : j ≠ i) : t.stn j = s.stn j ∧ t.cab j = s.cab j := by
  have same := congrFun (congrArg View.others h) j
  simpa [State.view, hj] using same

theorem poll_of_view {s t : State} {i : Stn} (h : t.view i = s.view i) : (t.cab i).poll = (s.cab i).poll := congrArg View.poll h

theorem inCycle_of_view {s t : State} {i : Stn} (h : t.view i = s.view i) : (t.cab i).inCycle = (s.cab i).inCycle :=
  congrArg (·.poll.1) h

theorem figures_of_view {s t : State} {i : Stn} (h : t.view i = s.view i) : (t.stn i).figures = (s.stn i).figures :=
  congrArg View.figures h

/-- Rewriting the record of the station leaves its view where the figures stay. -/
theorem modStn_view {f : Station → Station} (hf : ∀ r, (f r).figures = r.figures) : (s.modStn i f).view i = s.view i := by
  simp only [State.view, modStn_stn_same, modStn_cab, hf, View.mk.injEq, true_and]
  funext j
  split
  next => rfl
  next h => rw [modStn_stn_ne s f h]

/-- Rewriting the record of the cabinet leaves the view where the poll record stays. -/
theorem modCab_view {f : Cabinet → Cabinet} (hf : ∀ k, (f k).poll = k.poll) : (s.modCab i f).view i = s.view i := by
  simp only [State.view, modCab_cab_same, modCab_stn, hf, View.mk.injEq, true_and]
  funext j
  split
  next => rfl
  next h => rw [modCab_cab_ne s f h]

@[simp] theorem view_ite (p : Prop) [Decidable p] (t : State) :
    (if p then s else t).view i = if p then s.view i else t.view i := apply_ite (State.view · i) p s t

/-! #### Records beside the stations -/

@[simp] theorem modLink_view (l : Link) (f : LinkState → LinkState) : (s.modLink l f).view i = s.view i := by cases l <;> rfl
@[simp] theorem noticeBoth_view (x : NoticeFlag) : (s.noticeBoth x).view i = s.view i := by simp [State.noticeBoth, State.notice]
@[simp] theorem modMotionGrant_view (j : Stn) (f : Grant → Grant) : (s.modMotionGrant j f).view i = s.view i := rfl
@[simp] theorem modHeatGrant_view (j : Stn) (f : Grant → Grant) : (s.modHeatGrant j f).view i = s.view i := rfl
@[simp] theorem modChan_view (j : Stn) (f : Channel → Channel) : (s.modChan j f).view i = s.view i := rfl
@[simp] theorem setChan_view (j : Stn) (h : HeaterState) : (s.setChan j h).view i = s.view i := rfl
@[simp] theorem offPhase_view (j : Stn) (n : Nat) : (s.offPhase j n).view i = s.view i := rfl
@[simp] theorem endHeatGrant_view (j : Stn) : (s.endHeatGrant j).view i = s.view i := rfl
@[simp] theorem modLock_view (j : Stn) (f : LockRec → LockRec) : (s.modLock j f).view i = s.view i := rfl
@[simp] theorem setPark_view (j : Stn) (p : Option ParkStep) : (s.setPark j p).view i = s.view i := rfl
@[simp] theorem modRoster_view (j : Stn) (f : RosterEntry → RosterEntry) : (s.modRoster j f).view i = s.view i := rfl
@[simp] theorem setRoster_view (j : Stn) (st : RosterStatus) : (s.setRoster j st).view i = s.view i := rfl
@[simp] theorem giveEntry_view (j : Stn) (st : RosterStatus) : (s.giveEntry j st).view i = s.view i := rfl
@[simp] theorem dropEntry_view (j : Stn) : (s.dropEntry j).view i = s.view i := rfl
@[simp] theorem modStnStats_view (j : Stn) (f : StnStats → StnStats) : (s.modStnStats j f).view i = s.view i := rfl
@[simp] theorem modGroup_view (n : Nat) (f : Group → Group) : (s.modGroup n f).view i = s.view i := rfl
@[simp] theorem modSteer_view (n : Nat) (f : Steer → Steer) : (s.modSteer n f).view i = s.view i := rfl
@[simp] theorem leaveMotion_view (j : Stn) : (s.leaveMotion j).view i = s.view i := rfl
@[simp] theorem leaveHeat_view (j : Stn) : (s.leaveHeat j).view i = s.view i := rfl
@[simp] theorem joinList_view (b : Waiting) (c : GrantClass) (n : Nat) : (s.joinList b c n).view i = s.view i := rfl
@[simp] theorem voidVisits_view (j : Stn) : (s.voidVisits j).view i = s.view i := rfl

/-! #### Motion states and command slots -/

/-- The idle expiry is no record of the station or its cabinet, and idle-since is no figure. -/
@[simp] theorem setIdle_view (t : Option Nat) : (s.setIdle i t).view i = s.view i := modStn_view s i fun _ => rfl

@[simp] theorem setMotion_view (m : Motion) : (s.setMotion i m).view i = s.view i := by
  unfold State.setMotion
  dsimp only
  split
  next => rfl
  next =>
    have changed (b : Bool) : (s.modStn i fun r => { r with
        motion := m, posture := none, az := if b then r.az else { r.az with target := none }
        el := if b then r.el else { r.el with target := none } }).view i = s.view i :=
      modStn_view s i fun r => by cases b <;> rfl
    simp [changed]

@[simp] theorem placeMotion_view (c : MotionCmd) : (s.placeMotion i c).view i = s.view i := by
  unfold State.placeMotion
  dsimp only
  refine (modCab_view _ i (by exact fun k => Cabinet.overtake_poll k _)).trans ?_
  simp

@[simp] theorem placePin_view (c : PinCmd) : (s.placePin i c).view i = s.view i :=
  modCab_view s i fun k => Cabinet.overtake_poll k _

@[simp] theorem placeHeat_view (c : HeatCmd) : (s.placeHeat i c).view i = s.view i :=
  modCab_view s i fun k => Cabinet.overtake_poll k _

@[simp] theorem withdrawHeat_view : (s.withdrawHeat i).view i = s.view i := modCab_view s i fun k => Cabinet.overtake_poll k _

@[simp] theorem withdrawMotion_view (p : MotionCmd → Bool) : (s.withdrawMotion i p).view i = s.view i := by
  unfold State.withdrawMotion
  split
  next c _ =>
    dsimp only
    split
    next =>
      refine (modCab_view _ i (by exact fun k => Cabinet.overtake_poll k _)).trans ?_
      simp
    next => rfl
  next => exact modCab_view s i fun k => Cabinet.overtake_poll k _

@[simp] theorem withdrawPin_view (c : PinCmd) : (s.withdrawPin i c).view i = s.view i := by
  unfold State.withdrawPin
  split
  next =>
    split
    next => exact modCab_view s i fun k => Cabinet.overtake_poll k _
    next => rfl
  next => exact modCab_view s i fun k => Cabinet.overtake_poll k _

/-! #### Owners and outcomes -/

@[simp] theorem setOwner_view (w : Option Owner) : (s.modStn i fun r => { r with owner := w }).view i = s.view i :=
  modStn_view s i fun _ => rfl

@[simp] theorem stowOutcome_view (o : MoveOutcome) : (s.stowOutcome i o).view i = s.view i := by simp [State.stowOutcome]

@[simp] theorem snowOutcome_view : (s.snowOutcome i).view i = s.view i := by simp [State.snowOutcome]

@[simp] theorem giveOutcome_view (o : MoveOutcome) : (s.giveOutcome i o).view i = s.view i := by
  unfold State.giveOutcome
  cases (s.stn i).owner with
  | none => rfl
  | some w => cases w <;> simp

@[simp] theorem withdrawWaiting_view (o : MoveOutcome) : (s.withdrawWaiting i o).view i = s.view i := by simp [State.withdrawWaiting]

@[simp] theorem stopMoving_view (o : MoveOutcome) : (s.stopMoving i o).view i = s.view i := by simp [State.stopMoving]

@[simp] theorem brakePointed_view : (s.brakePointed i).view i = s.view i := by simp [State.brakePointed]

@[simp] theorem beginAdmitting_view (w : Owner) : (s.beginAdmitting i w).view i = s.view i := by
  unfold State.beginAdmitting
  exact (modStn_view _ i (by exact fun _ => rfl)).trans (setMotion_view s i _)

@[simp] theorem leaveStowed_view (r : Reason) : (s.leaveStowed i r).view i = s.view i := by simp [State.leaveStowed]

/-! #### Heater channels -/

@[simp] theorem stopHeat_view (a : AfterStop) : (s.stopHeat i a).view i = s.view i := by simp [State.stopHeat]

@[simp] theorem askHeatOff_view : (s.askHeatOff i).view i = s.view i := by simp [State.askHeatOff]

@[simp] theorem startCycleAs_view (b : Bool) : (s.startCycleAs i b).view i = s.view i := by simp [State.startCycleAs]

@[simp] theorem enterOffPhase_view (b : Bool) : (s.enterOffPhase i b).view i = s.view i := by
  unfold State.enterOffPhase
  split <;> simp

@[simp] theorem confirmStop_view (b : Bool) : (s.confirmStop i b).view i = s.view i := by
  unfold State.confirmStop
  dsimp only
  split
  next => simp
  next => split <;> [skip; split] <;> simp

@[simp] theorem heatReply_view (closed taken : Bool) (a : Answer) (b : Bool) : (s.heatReply i closed taken a b).view i = s.view i := by
  unfold State.heatReply
  split <;> simp

@[simp] theorem barRise_view : (s.barRise i).view i = s.view i := by
  unfold State.barRise
  split <;> simp

@[simp] theorem barFall_view (b : Bool) : (s.barFall i b).view i = s.view i := by simp [State.barFall]

@[simp] theorem judgeBarAs_view (b : Bool) : (s.judgeBarAs i b).view i = s.view i := by simp [State.judgeBarAs]

@[simp] theorem judgeBar_view : (s.judgeBar i).view i = s.view i := judgeBarAs_view ..

@[simp] theorem settleHeatFirst_view (closed : Bool) : (s.settleHeatFirst i closed).view i = s.view i := by
  simp [State.settleHeatFirst]

@[simp] theorem heatTakes_view (st : CabStatus) (first : Bool) (tk : TakenFlags) (a : Answer) (was : Bool) :
    (s.heatTakes i st first tk a was).view i = s.view i := by simp [State.heatTakes]

/-! #### Lockouts -/

@[simp] theorem lockTakesEffect_view : (s.lockTakesEffect i).view i = s.view i := by
  unfold State.lockTakesEffect
  split <;> simp

@[simp] theorem judgePark_view : (s.judgePark i).view i = s.view i := by simp [State.judgePark]

@[simp] theorem setLockStatus_view (n : LockStatus) : (s.setLockStatus i n).view i = s.view i := by simp [State.setLockStatus]

@[simp] theorem judgeLock_view : (s.judgeLock i).view i = s.view i := by simp [State.judgeLock]

@[simp] theorem lockReply_view (st : CabStatus) (a : Answer) : (s.lockReply i st a).view i = s.view i := by simp [State.lockReply]

/-! #### The allocator, the station and the jobs -/

@[simp] theorem allocFirst_view (st : CabStatus) (first : Bool) (a : Answer) : (s.allocFirst i st first a).view i = s.view i := by
  simp [State.allocFirst]

@[simp] theorem allocReply_view (st : CabStatus) : (s.allocReply i st).view i = s.view i := rfl

@[simp] theorem stopAfresh_view : (s.stopAfresh i).view i = s.view i := by simp [State.stopAfresh]

@[simp] theorem resolveFirst_view (st : CabStatus) : (s.resolveFirst i st).view i = s.view i := by simp [State.resolveFirst]

@[simp] theorem judgeArrival_view (st : CabStatus) : (s.judgeArrival i st).view i = s.view i := by simp [State.judgeArrival]

@[simp] theorem moveRefused_view (st : CabStatus) (p : Posture) (v : Verdict) : (s.moveRefused i st p v).view i = s.view i := by
  simp [State.moveRefused]

@[simp] theorem stationRemote_view (st : CabStatus) (tk : TakenFlags) (a : Answer) (mark : Bool) :
    (s.stationRemote i st tk a mark).view i = s.view i := by
  unfold State.stationRemote
  split
  case h_4 => split <;> [skip; split] <;> simp
  case h_5 => split <;> simp
  all_goals simp

@[simp] theorem takenAway_view (m : Motion) (r : Reason) (o : MoveOutcome) : (s.takenAway i m r o).view i = s.view i := by
  simp [State.takenAway]

@[simp] theorem stationReply_view (st : CabStatus) (first : Bool) (tk : TakenFlags) (a : Answer) (mark : Bool) :
    (s.stationReply i st first tk a mark).view i = s.view i := by simp [State.stationReply]

@[simp] theorem lockAndStation_view (st : CabStatus) (first : Bool) (tk : TakenFlags) (a : Answer) (mark : Bool) :
    (s.lockAndStation i st first tk a mark).view i = s.view i := by simp [State.lockAndStation]

@[simp] theorem joinCampaign_view : (s.joinCampaign i).view i = s.view i := by simp [State.joinCampaign]

@[simp] theorem pinDrawn_view : (s.pinDrawn i).view i = s.view i := by simp [State.pinDrawn]

@[simp] theorem pinStuck_view : (s.pinStuck i).view i = s.view i := rfl

@[simp] theorem completeStow_view (noPin : Bool) : (s.completeStow i noPin).view i = s.view i := by simp [State.completeStow]

@[simp] theorem beginPinning_view : (s.beginPinning i).view i = s.view i := by
  simp only [State.beginPinning, placePin_view, setRoster_view]
  exact modStn_view s i fun _ => rfl

@[simp] theorem beginStowBrake_view (noPin : Bool) : (s.beginStowBrake i noPin).view i = s.view i := by simp [State.beginStowBrake]

@[simp] theorem stowReply_view (st : CabStatus) (tk : TakenFlags) (a : Answer) : (s.stowReply i st tk a).view i = s.view i := by
  unfold State.stowReply
  split
  next => rfl
  next =>
    split
    case h_1 | h_3 => simp
    case h_2 | h_4 =>
      repeat' split
      all_goals simp
    case h_5 => rfl

@[simp] theorem parkReply_view (st : CabStatus) (tk : TakenFlags) : (s.parkReply i st tk).view i = s.view i := by
  unfold State.parkReply
  split
  next => split <;> simp
  next => rfl

@[simp] theorem jobsReply_view (st : CabStatus) (tk : TakenFlags) (a : Answer) : (s.jobsReply i st tk a).view i = s.view i := by
  simp [State.jobsReply]

@[simp] theorem returnRejected_view (st : CabStatus) (a : Answer) : (s.returnRejected i st a).view i = s.view i := by
  unfold State.returnRejected
  split
  next => split <;> [exact modCab_view s i fun _ => rfl; rfl]
  next => rfl

end View

/-! ### FLUSH, RESUME and REST (R17, R46, R48) -/

/-- A POINTED station that is braked. -/
theorem brakePointed_effect {s : State} {i : Stn} :
    ((s.brakePointed i).stn i).motion = .stopping ∧ ((s.brakePointed i).cab i).motion = some .brake ∧
      ∀ j, j ≠ i → (s.brakePointed i).stn j = s.stn j ∧ (s.brakePointed i).cab j = s.cab j := by
  obtain ⟨hmotion, -⟩ := setMotion_stn (s.placeMotion i .brake) i .stopping
  obtain ⟨hbus, -⟩ := setMotion_rest (s.placeMotion i .brake) i .stopping
  refine ⟨hmotion, ?_, fun j hj => others_of_view (brakePointed_view s i) hj⟩
  simp only [State.brakePointed, State.cab, hbus]
  exact placeMotion_motion s i .brake

/-- A request without arguments that is taken. -/
theorem noArgs_nil {s : State} {p : List Byte} (h : p = []) (r : Unit → Result) : noArgs p r s = r () := if_pos h

/-- A ready request whose handler is done settles and answers. -/
theorem takeRequest_done {s t : State} {l : Link} {f : Frame} {k : Byte} {g : State → List Byte → Result} {d : List Byte}
    (h : Ready s l f k) (hg : g (s.openRequest l f) f.payload = t.done d) :
    s.takeRequest l (requestOf l k) g = (settle false (s.openRequest l f) t).answer l f.kind .done d := by
  rw [takeRequest_ready h, hg]
  simp only [State.done, if_true]

@[simp] theorem openRequest_sched (s : State) (l : Link) (f : Frame) : (s.openRequest l f).sched = s.sched := modLink_sched ..
@[simp] theorem openRequest_stn (s : State) (l : Link) (f : Frame) (i : Stn) : (s.openRequest l f).stn i = s.stn i := by
  simp [State.stn, State.openRequest]

theorem flush_done {s : State} {f : Frame} (h : Ready s .S f 0x03) (hp : f.payload = []) :
    exec .flush s = .next (requestDone s .S f
      (fun o => (o.sched.groups.filter fun g => decide (g.state = .queued)).foldl (State.endGroup .cancelled) o)
      (u16 (s.sched.groups.filter fun g => decide (g.state = .queued)).length)) := by
  refine congrArg Host.Outcome.next (takeRequest_done (g := takeFlush) h ?_)
  rw [takeFlush, noArgs_nil hp, ← openRequest_sched s .S f]
  rfl

theorem resume_done {s : State} {f : Frame} (h : Ready s .S f 0x04) (hp : f.payload = []) :
    exec .resume s = .next (requestDone s .S f
      (fun o => displayNotices o { o with sched := { o.sched with suspended := false } }) []) := by
  refine congrArg Host.Outcome.next (takeRequest_done (g := takeResume) h ?_)
  rw [takeResume, noArgs_nil hp]

theorem rest_done {s : State} {f : Frame} {l : List Stn} (h : Ready s .S f 0x05) (hl : setArg f.payload = some l) :
    exec .rest s = .next (requestDone s .S f
      (fun o => (l.filter fun i => decide ((o.stn i).motion = .pointed)).foldl State.brakePointed o)
      (encSet (l.filter fun i => decide ((s.stn i).motion = .pointed)))) := by
  refine congrArg Host.Outcome.next (takeRequest_done (g := takeRest) h ?_)
  simp only [takeRest, hl, openRequest_stn]

/-- Settles O27. -/
theorem flushResumeRestComplete : Obligations.FlushResumeRestComplete :=
  ⟨fun _ _ => flush_done, fun _ _ => resume_done, fun _ _ _ => rest_done, fun _ _ _ => brakePointed_effect⟩

/-! ### STATUS_REPLY (R3, R165) -/

/-- The station and its cabinet right after a reply is written, before any block acts on it (R3, R165). -/
def State.written (s : State) (i : Stn) (st : CabStatus) (a : Answer) : State :=
  (s.modCab i fun k => k.takeReply st a s.clock).modStn i fun r => r.write st

theorem countChoice_view (s : State) (i : Stn) (n : Nat) : ({ s with choices := n } : State).view i = s.view i := rfl

/-- The blocks that take a reply leave what it wrote. -/
theorem takeReply_view (s : State) (i : Stn) (st : CabStatus) (a : Answer) :
    (s.takeReply i st a).view i = (s.written i st a).view i := by
  unfold State.takeReply State.written
  refine (countChoice_view _ i _).trans ?_
  simp

theorem written_stn (s : State) (i : Stn) (st : CabStatus) (a : Answer) : (s.written i st a).stn i = (s.stn i).write st := by
  simp [State.written]

theorem written_cab (s : State) (i : Stn) (st : CabStatus) (a : Answer) :
    (s.written i st a).cab i = (s.cab i).takeReply st a s.clock := by
  simp [State.written]

theorem written_others (s : State) {i j : Stn} (st : CabStatus) (a : Answer) (h : j ≠ i) :
    (s.written i st a).stn j = s.stn j ∧ (s.written i st a).cab j = s.cab j :=
  ⟨modStn_stn_ne _ _ h, modCab_cab_ne _ _ h⟩

/-- After a reply the station record shows the status (R3). -/
theorem takeReply_figures (s : State) (i : Stn) (st : CabStatus) (a : Answer) :
    ((s.takeReply i st a).stn i).figures = ((s.stn i).write st).figures := by
  rw [← written_stn s i st a]
  exact figures_of_view (takeReply_view s i st a)

/-- After a reply no miss is counted, no command is outstanding, and the status is the last (R165). -/
theorem takeReply_poll (s : State) (i : Stn) (st : CabStatus) (a : Answer) :
    ((s.takeReply i st a).cab i).poll = ((s.cab i).inCycle, 0, false, some { status := st, time := s.clock }) := by
  rw [poll_of_view (takeReply_view s i st a), written_cab]
  rfl

theorem takeReply_others (s : State) {i j : Stn} (st : CabStatus) (a : Answer) (h : j ≠ i) :
    (s.takeReply i st a).stn j = s.stn j ∧ (s.takeReply i st a).cab j = s.cab j := by
  obtain ⟨hstn, hcab⟩ := others_of_view (takeReply_view s i st a) h
  obtain ⟨wstn, wcab⟩ := written_others s st a h
  exact ⟨hstn.trans wstn, hcab.trans wcab⟩

theorem statusReply_taken {b : List Byte} {s : State} {v : BusVisit} {st : CabStatus} {a : Answer} (hv : s.bus.visit = some v)
    (hb : s.goodStatus v b = some (st, a)) (hvoid : s.visitVoid v = false) :
    exec (.statusReply b) s = .next ((settle false s (s.takeReply v.station st a)).endVisit v) := by
  refine congrArg Host.Outcome.next ?_
  simp only [State.statusReply, hv, hb, hvoid, Bool.false_eq_true, if_false]

theorem statusReply_void {b : List Byte} {s : State} {v : BusVisit} {st : CabStatus} {a : Answer} (hv : s.bus.visit = some v)
    (hb : s.goodStatus v b = some (st, a)) (hvoid : s.visitVoid v = true) :
    exec (.statusReply b) s = .next ((s.dropOutstanding v.station).endVisit v) := by
  refine congrArg Host.Outcome.next ?_
  simp only [State.statusReply, hv, hb, hvoid, if_true]

/-- Settles O49: a reply is written, and every block that takes it leaves what was written. -/
theorem statusReplyIsTaken : Obligations.StatusReplyIsTaken := by
  refine ⟨fun _ _ _ _ _ => statusReply_taken, fun _ _ _ _ _ => statusReply_void, fun s i st a => ?_⟩
  have figures := takeReply_figures s i st a
  have poll := takeReply_poll s i st a
  simp only [Station.figures, Station.write, Station.mk.injEq, AxisRec.mk.injEq] at figures
  simp only [Cabinet.poll, Prod.mk.injEq, Option.isSome_eq_false_iff, Option.isNone_iff_eq_none] at poll
  obtain ⟨-, -, -, -, -, ⟨azPos, azPhase, -, azFault⟩, ⟨elPos, elPhase, -, elFault⟩, pin, switch, temp⟩ := figures
  obtain ⟨-, misses, outstanding, last⟩ := poll
  exact ⟨misses, outstanding, last, azPos, azPhase, elPos, elPhase, azFault, elFault, pin, switch, temp,
    fun j hj => takeReply_others s st a hj⟩

/-! ### The first good reply (R10) -/

/-- The stow posture: both axes braked, the pin in, the elevation within STOW_TOL of zenith. -/
theorem showsStowed_iff (st : CabStatus) :
    st.showsStowed = true ↔ st.braked = true ∧ st.pin = .pinIn ∧ 89900 ≤ st.el.pos ∧ st.el.pos ≤ 90100 := by
  simp only [CabStatus.showsStowed, Bool.and_eq_true, decide_eq_true_eq, and_assoc]
  refine and_congr_right fun _ => and_congr_right fun _ => ?_
  simp only [zenith, stowTol]
  omega

theorem braked_iff (st : CabStatus) : st.braked = true ↔ st.az.phase = .braked ∧ st.el.phase = .braked := by
  simp [CabStatus.braked]

theorem faulty_iff (st : CabStatus) : st.faulty = true ↔ st.az.fault ≠ 0 ∨ st.el.fault ≠ 0 := by
  simp [CabStatus.faulty]

/-- A STOP placed afresh makes the station STOPPING. -/
theorem stopAfresh_effect (s : State) (i : Stn) :
    ((s.stopAfresh i).stn i).motion = .stopping ∧ ((s.stopAfresh i).cab i).motion = some .stop := by
  obtain ⟨hmotion, -⟩ := setMotion_stn (s.placeMotion i .stop) i .stopping
  obtain ⟨hbus, -⟩ := setMotion_rest (s.placeMotion i .stop) i .stopping
  refine ⟨hmotion, ?_⟩
  simp only [State.stopAfresh, State.cab, hbus]
  exact placeMotion_motion s i .stop

/-- The state that the first reply resolves to (R10). -/
def firstMotion (st : CabStatus) : Motion :=
  if st.switch = .localDrive then .manual
  else if st.faulty then .fault
  else if st.showsStowed then .stowed
  else if st.braked then .held
  else .stopping

/-- The first reply sets the state that it resolves to, placing STOP where that is STOPPING. -/
theorem resolveFirst_eq (s : State) (i : Stn) (st : CabStatus) :
    s.resolveFirst i st = if firstMotion st = .stopping then s.stopAfresh i else s.setMotion i (firstMotion st) := by
  unfold State.resolveFirst firstMotion
  split_ifs <;> simp_all

theorem resolveFirst_motion (s : State) (i : Stn) (st : CabStatus) : ((s.resolveFirst i st).stn i).motion = firstMotion st := by
  rw [resolveFirst_eq]
  split
  next h => exact (stopAfresh_effect s i).1.trans h.symm
  next => exact (setMotion_stn s i _).1

/-- Settles O52. -/
theorem firstReplyIsResolved : Obligations.FirstReplyIsResolved := by
  unfold Obligations.FirstReplyIsResolved
  intro s i st _
  rw [resolveFirst_motion]
  refine ⟨?_, fun h => ?_, fun h => ?_⟩
  · unfold firstMotion
    simp only [faulty_iff, showsStowed_iff, braked_iff]
    split_ifs <;> simp_all
  · rw [resolveFirst_eq, if_pos h]
    exact (stopAfresh_effect s i).2
  · rw [resolveFirst_eq, if_neg h]
    exact (setMotion_rest s i _).1

/-! ### A completed stow (R110) -/

/-- The roster entry of a station after it is rewritten. -/
theorem modRoster_entry? (s : State) (i : Stn) {f : RosterEntry → RosterEntry} (hf : ∀ e, (f e).station = e.station) :
    (s.modRoster i f).entry? i = (s.entry? i).map f := by
  unfold State.modRoster State.entry?
  induction s.camp.roster with
  | nil => rfl
  | cons e l ih =>
    by_cases h : e.station = i
    · simp [h, hf]
    · simp [h, ih]

/-- The state in which a stow completes: its station has no owner and is STOWED. -/
def State.stowedAway (s : State) (i : Stn) : State := (s.modStn i fun r => { r with owner := none }).setMotion i .stowed

/-- A completed stow sets the roster entry and counts (R110). -/
theorem completeStow_records (t : State) (i : Stn) (f : RosterEntry → RosterEntry) (g : StnStats → StnStats)
    (hf : ∀ e, (f e).station = e.station) :
    ((t.modRoster i f).modStnStats i g).stn i = t.stn i ∧ ((t.modRoster i f).modStnStats i g).bus = t.bus ∧
      ((t.modRoster i f).modStnStats i g).stats.stn.get i = g (t.stats.stn.get i) ∧
      ((t.modRoster i f).modStnStats i g).entry? i = (t.entry? i).map f :=
  ⟨rfl, rfl, modStnStats_same .., modRoster_entry? t i hf⟩

/-- Settles O41. -/
theorem completedStowIsStowed : Obligations.CompletedStowIsStowed := by
  unfold Obligations.CompletedStowIsStowed
  intro s i noPin _
  obtain ⟨hmotion, howner, -⟩ := setMotion_stn (s.modStn i fun r => { r with owner := none }) i .stowed
  obtain ⟨hbus, -, -, -, -, -, -, -, hstats, -⟩ := setMotion_rest (s.modStn i fun r => { r with owner := none }) i .stowed
  obtain ⟨stn, bus, stats, entry⟩ := completeStow_records (s.stowedAway i) i
    (fun e => { e with status := if noPin then .stowedNoPin else .stowed, noPin := false })
    (fun t => { t with stows := bump t.stows }) fun _ => rfl
  have eq : s.completeStow i noPin = ((s.stowedAway i).modRoster i fun e =>
      { e with status := if noPin then .stowedNoPin else .stowed, noPin := false }).modStnStats i fun t =>
      { t with stows := bump t.stows } := rfl
  rw [eq, stn, stats, entry]
  refine ⟨hmotion, howner.trans (by simp), by rw [State.stowedAway, hstats]; rfl, fun e he => ?_, ?_⟩
  · obtain ⟨x, -, rfl⟩ := Option.map_eq_some_iff.mp he
    exact ⟨rfl, rfl⟩
  · exact congrArg (·.cabs.get i) (bus.trans hbus)

/-! ### What setting a motion state writes (R5 to R7) -/

section SetMotion
variable {s : State} {i : Stn} {m : Motion}

theorem setMotion_same (h : (s.stn i).motion = m) : s.setMotion i m = s := by simp [State.setMotion, h]

/-- An axis after a motion state is entered: only SLEWING and STOWING keep a target (R7). -/
def Motion.axis (m : Motion) (a : AxisRec) : AxisRec := if m.isMoving then a else { a with target := none }

/-- Entering another motion state clears the rest posture, and the targets where the station does not move; besides, it may write the
idle-since time (R5 to R7). -/
theorem setMotion_record (h : (s.stn i).motion ≠ m) : ∃ t, (s.setMotion i m).stn i =
    { s.stn i with
      motion := m, posture := none, idleSince := t, az := m.axis (s.stn i).az, el := m.axis (s.stn i).el } := by
  have idle (t : State) (x : Option Nat) : (t.setIdle i x).stn i = { t.stn i with idleSince := x } := modStn_stn_same t i _
  have notice (t : State) (b : Bool) : (if b then t.noticeBoth .station else t).stn i = t.stn i := by cases b <;> simp [State.stn]
  have grant (t : State) (b : Bool) :
      (if b then t.modMotionGrant i fun g => { g with awaiting := false } else t).stn i = t.stn i := by cases b <;> simp
  unfold State.setMotion
  simp only [if_neg h, notice, grant]
  split
  · exact ⟨_, (idle ..).trans (by rw [modStn_stn_same]; rfl)⟩
  · split
    · exact ⟨_, (idle ..).trans (by rw [modStn_stn_same]; rfl)⟩
    · exact ⟨(s.stn i).idleSince, by rw [modStn_stn_same]; rfl⟩

end SetMotion

/-! ### ENABLE and DISABLE (R8, R9, R113, R147, R159) -/

theorem someStns_of_setArg {p : List Byte} {i : Stn} {l : List Stn} (h : setArg p = some (i :: l)) : someStns p = some (i :: l) := by
  simp [someStns, h]

theorem enable_done {s : State} {f : Frame} {i : Stn} {l : List Stn} (h : Ready s .O f 0x19) (hl : setArg f.payload = some (i :: l)) :
    exec .enable s = .next (requestDone s .O f
      (fun o => (((i :: l).filter fun j => !(o.stn j).enabled).foldl State.enableStation o).wakeLines) []) := by
  refine congrArg Host.Outcome.next (takeRequest_done (g := takeEnable) h ?_)
  rw [takeEnable, someStns_of_setArg hl]

/-- What DISABLE judges of a station reads no link. -/
@[simp] theorem openRequest_mayDisable (s : State) (l : Link) (f : Frame) (j : Stn) :
    (s.openRequest l f).mayDisable j = s.mayDisable j := by cases l <;> rfl

/-- The named stations that DISABLE may not take (R9). -/
def State.undisablable (s : State) (l : List Stn) : List Stn :=
  (l.filter fun j => (s.stn j).enabled).filter fun j => !s.mayDisable j

theorem undisablable_eq_nil {s : State} {l : List Stn} :
    s.undisablable l = [] ↔ ∀ j ∈ l, (s.stn j).enabled = true → s.mayDisable j = true := by
  simp only [State.undisablable, List.filter_eq_nil_iff, List.mem_filter, Bool.not_eq_true', Bool.not_eq_false, and_imp]

@[simp] theorem openRequest_undisablable (s : State) (l : Link) (f : Frame) (js : List Stn) :
    (s.openRequest l f).undisablable js = s.undisablable js := by simp [State.undisablable]

theorem takeDisable_taken {s : State} {p : List Byte} {l : List Stn} (hl : someStns p = some l) (h : s.undisablable l = []) :
    takeDisable s p = ((l.filter fun j => (s.stn j).enabled).foldl State.disableStation s).done [] := by
  unfold State.undisablable at h
  simp only [takeDisable, hl, h]

theorem takeDisable_refused {s : State} {p : List Byte} {l : List Stn} (hl : someStns p = some l) (h : s.undisablable l ≠ []) :
    takeDisable s p = { state := s, code := .state, data := encSet (s.undisablable l), force := false } := by
  obtain ⟨j, js, hj⟩ := List.exists_cons_of_ne_nil h
  rw [hj]
  unfold State.undisablable at hj
  simp only [takeDisable, hl, hj]

theorem disable_done {s : State} {f : Frame} {i : Stn} {l : List Stn} (h : Ready s .O f 0x1A) (hl : setArg f.payload = some (i :: l))
    (may : ∀ j ∈ i :: l, (s.stn j).enabled = true → s.mayDisable j = true) :
    exec .disable s = .next (requestDone s .O f
      (fun o => ((i :: l).filter fun j => (o.stn j).enabled).foldl State.disableStation o) []) :=
  congrArg Host.Outcome.next (takeRequest_done (g := takeDisable) h
    (takeDisable_taken (someStns_of_setArg hl) (by rw [openRequest_undisablable, undisablable_eq_nil.mpr may])))

theorem disable_refused {s : State} {f : Frame} {i : Stn} {l : List Stn} (h : Ready s .O f 0x1A)
    (hl : setArg f.payload = some (i :: l)) (may : ¬ ∀ j ∈ i :: l, (s.stn j).enabled = true → s.mayDisable j = true) :
    exec .disable s = .next (requestAnswered s .O f .state (encSet (s.undisablable (i :: l)))) := by
  have failed : (s.openRequest .O f).undisablable (i :: l) ≠ [] := by rwa [openRequest_undisablable, ne_eq, undisablable_eq_nil]
  refine congrArg Host.Outcome.next ((takeRequest_ready h takeDisable).trans ?_)
  rw [takeDisable_refused (someStns_of_setArg hl) failed, openRequest_undisablable]
  rfl

/-- What ENABLE writes before the blocks judge the station: its record, and its cabinet in cycle (R8, R159). -/
def State.enabledRecords (s : State) (i : Stn) : State :=
  ((s.modStn i fun r => { r with enabled := true }).setMotion i .unknown).modCab i fun k =>
    { Cabinet.reset with inCycle := true, outstanding := k.outstanding }

theorem enableStation_view (s : State) (i : Stn) : (s.enableStation i).view i = (s.enabledRecords i).view i := by
  unfold State.enableStation State.enabledRecords State.judgeLockBar
  dsimp only
  split <;> simp

/-- An enabled station is UNKNOWN, and its cabinet in cycle without a miss (R8, R159). -/
theorem enableStation_effect (s : State) (i : Stn) :
    ((s.enableStation i).stn i).motion = .unknown ∧ ((s.enableStation i).stn i).enabled = true ∧
      ((s.enableStation i).cab i).inCycle = true ∧ ((s.enableStation i).cab i).misses = 0 := by
  have poll : ((s.enableStation i).cab i).poll = ((s.enabledRecords i).cab i).poll :=
    poll_of_view (enableStation_view s i)
  obtain ⟨hmotion, -, henabled⟩ := setMotion_stn (s.modStn i fun r => { r with enabled := true }) i .unknown
  simp only [Cabinet.poll, State.enabledRecords, modCab_cab_same, Cabinet.reset, Prod.mk.injEq] at poll
  obtain ⟨hcycle, hmisses, -⟩ := poll
  rw [stn_of_stns (enableStation_stns s i)]
  exact ⟨hmotion, henabled.trans (by simp), hcycle, hmisses⟩

/-- What DISABLE writes beside the station record: the cabinet, the visits, the lockout records, the roster and the admission list (R9,
R113, R147, R159). -/
def State.takenOut (s : State) (i : Stn) : State :=
  let s := s.modCab i fun k => { Cabinet.reset with outstanding := k.outstanding }
  let s := (s.voidVisits i).modLock i LockRec.disable
  (s.dropEntry i).leaveHeat i

/-- The state in which DISABLE derives the lockout status: all else is written. -/
def State.disabledRecords (s : State) (i : Stn) : State := ((s.modStn i Station.blank).setMotion i .disabled).takenOut i

theorem disableStation_eq (s : State) (i : Stn) : s.disableStation i = ((s.disabledRecords i).judgeLock i).setChan i .barred := rfl

section TakenOut
variable (s : State) (i j : Stn)

@[simp] theorem leaveHeat_cab : (s.leaveHeat i).cab j = s.cab j := rfl
@[simp] theorem leaveHeat_lock : (s.leaveHeat i).lock j = s.lock j := rfl
@[simp] theorem leaveHeat_entry? : (s.leaveHeat i).entry? j = s.entry? j := rfl
@[simp] theorem dropEntry_cab : (s.dropEntry i).cab j = s.cab j := rfl
@[simp] theorem dropEntry_lock : (s.dropEntry i).lock j = s.lock j := rfl
@[simp] theorem voidVisits_cab : (s.voidVisits i).cab j = s.cab j := rfl
@[simp] theorem voidVisits_lock : (s.voidVisits i).lock j = s.lock j := rfl

/-- A station that the roster drops has no entry. -/
@[simp] theorem dropEntry_entry? : (s.dropEntry i).entry? i = none := by
  simp [State.dropEntry, State.entry?, List.find?_eq_none]

/-- A station that is taken out has its cabinet out of cycle, its panel unknown, and no roster entry; the station records stand. -/
theorem takenOut_records :
    ((s.takenOut i).cab i).inCycle = false ∧ ((s.takenOut i).lock i).known = false ∧ (s.takenOut i).entry? i = none ∧
      (s.takenOut i).stns = s.stns := by
  simp [State.takenOut, Cabinet.reset, LockRec.disable]

end TakenOut

theorem disabledRecords_motion (s : State) (i : Stn) : ((s.disabledRecords i).stn i).motion = .disabled := by
  obtain ⟨-, -, -, stns⟩ := takenOut_records ((s.modStn i Station.blank).setMotion i .disabled) i
  rw [State.disabledRecords, stn_of_stns stns]
  exact (setMotion_stn _ i .disabled).1

theorem judgeRelease_known (r : LockRec) (d rest : Bool) (now w : Nat) : (r.judgeRelease d rest now w).known = r.known := by
  unfold LockRec.judgeRelease
  split
  next => rfl
  next => split <;> split <;> (try split) <;> rfl

/-- Where the part cannot command the dish, a new lockout status is all that is written of the lockout records. -/
theorem setLockStatus_lock_of_condition {s : State} {i : Stn} (h : (s.stn i).motion.isCondition = true) (new : LockStatus) :
    (s.setLockStatus i new).lock i = { s.lock i with status := new } ∧ (s.setLockStatus i new).camp = s.camp := by
  have notice (t : State) : (t.noticeBoth .lockout).lock i = t.lock i := by simp [State.lock]
  rw [setLockStatus_of_condition h]
  split
  next same => exact ⟨by rw [← same], rfl⟩
  next => exact ⟨(notice _).trans (modLock_lock_same ..), by simp⟩

/-- The lockout judgement of a disabled station: its status is UNKNOWN, and neither the panel nor the roster changes (R146). -/
theorem judgeLock_of_disabled {s : State} {i : Stn} (h : (s.stn i).motion = .disabled) :
    ((s.judgeLock i).lock i).known = (s.lock i).known ∧ ((s.judgeLock i).lock i).status = .unknown ∧
      (s.judgeLock i).camp = s.camp := by
  have disabled : s.isDisabled i = true := by simp [State.isDisabled, h]
  obtain ⟨hlock, hcamp⟩ := setLockStatus_lock_of_condition
    (s := s.modLock i fun r => r.judgeRelease (s.isDisabled i) (s.stn i).motion.isResting s.clock s.cfg.warnTime) (i := i)
    (by simp [h, Motion.isCondition]) (deriveStatus (s.isDisabled i)
      ((s.modLock i fun r => r.judgeRelease (s.isDisabled i) (s.stn i).motion.isResting s.clock s.cfg.warnTime).lock i))
  unfold State.judgeLock
  dsimp only
  rw [hlock, hcamp]
  exact ⟨by simp [judgeRelease_known], by simp [deriveStatus, disabled], rfl⟩

@[simp] theorem setChan_lock (s : State) (i j : Stn) (h : HeaterState) : (s.setChan i h).lock j = s.lock j := rfl
@[simp] theorem setChan_camp (s : State) (i : Stn) (h : HeaterState) : (s.setChan i h).camp = s.camp := rfl

theorem disableStation_view (s : State) (i : Stn) : (s.disableStation i).view i = (s.disabledRecords i).view i := by
  simp [disableStation_eq]

/-- A disabled station shows no cabinet figures (R9). -/
theorem disableStation_stn (s : State) (i : Stn) :
    ((s.disableStation i).stn i).motion = .disabled ∧ ((s.disableStation i).stn i).enabled = false ∧
      ((s.disableStation i).stn i).az = AxisRec.absent ∧ ((s.disableStation i).stn i).el = AxisRec.absent := by
  rw [stn_of_stns (disableStation_stns s i)]
  by_cases h : ((s.modStn i Station.blank).stn i).motion = .disabled
  · rw [setMotion_same h]
    exact ⟨h, by simp [Station.blank]⟩
  · obtain ⟨t, record⟩ := setMotion_record h
    rw [record]
    simp [Station.blank, Motion.axis, Motion.isMoving, AxisRec.absent]

/-- A disabled station is out of cycle, its panel and lockout status UNKNOWN, its channel BARRED, and it has no roster entry (R9, R113,
R147, R159). -/
theorem disableStation_records (s : State) (i : Stn) :
    ((s.disableStation i).cab i).inCycle = false ∧ ((s.disableStation i).lock i).known = false ∧
      ((s.disableStation i).lock i).status = .unknown ∧ ((s.disableStation i).chan i).state = .barred ∧
      (s.disableStation i).entry? i = none := by
  obtain ⟨hknown, hstatus, hcamp⟩ := judgeLock_of_disabled (disabledRecords_motion s i)
  obtain ⟨cycle, panel, entry, -⟩ := takenOut_records ((s.modStn i Station.blank).setMotion i .disabled) i
  rw [← State.disabledRecords] at cycle panel entry
  rw [inCycle_of_view (disableStation_view s i), disableStation_eq, setChan_lock]
  refine ⟨cycle, hknown.trans panel, hstatus, ?_, ?_⟩
  · rw [State.setChan, modChan_chan_same]
  · rw [State.entry?, setChan_camp, hcamp]
    exact entry

theorem disableStation_others (s : State) {i j : Stn} (h : j ≠ i) : (s.disableStation i).stn j = s.stn j := by
  rw [stn_of_stns (disableStation_stns s i), setMotion_stn_ne _ _ h, modStn_stn_ne _ _ h]

/-- Settles O53. -/
theorem enableAndDisableComplete : Obligations.EnableAndDisableComplete := by
  refine ⟨fun _ _ _ _ => enable_done, fun s i _ => enableStation_effect s i, fun _ _ _ _ => disable_done,
    fun _ _ _ _ => disable_refused, fun s i => ?_⟩
  obtain ⟨hmotion, henabled, haz, hel⟩ := disableStation_stn s i
  obtain ⟨hcycle, hknown, hstatus, hchan, hentry⟩ := disableStation_records s i
  exact ⟨hmotion, henabled, haz, hel, hcycle, hknown, hstatus, hchan, hentry, fun j hj => disableStation_others s hj⟩

/-! ### What CLEAR spares (R59, R183)

CLEAR ends motions that a group or a steer owns, records outcomes, and completes groups and steers. None of these operations touches the
records below; the idle expiry of a station changes with its motion state only. -/

/-- The records that CLEAR spares; of the snow record all but the idle expiries. -/
structure SparedRecords where
  camp : Campaign
  wind : Wind
  locks : Locks
  cfg : Params
  heat : Vector Grant 32
  feedLimit : Nat
  snow : Snow
  nextGroup : Nat
  nextSteer : Nat

/-- The records of a state that CLEAR spares. -/
def State.spared (s : State) : SparedRecords where
  camp := s.camp
  wind := s.wind
  locks := s.locks
  cfg := s.cfg
  heat := s.power.heat
  feedLimit := s.power.feedLimit
  snow := { s.snow with idleExpiry := Vector.replicate 32 none }
  nextGroup := s.sched.next
  nextSteer := s.oper.next

/-- The numbers that stand in the two queues. -/
def State.numbers (s : State) : List Nat × List Nat := (s.sched.groups.map (·.number), s.oper.steers.map (·.number))

/-- The motion state and the idle expiry of each station. -/
def State.rests (s : State) (i : Stn) : Motion × Option Nat := ((s.stn i).motion, s.snow.idleExpiry.get i)

section Spared
variable (s : State)

@[simp] theorem spared_ite (p : Prop) [Decidable p] (t : State) :
    (if p then s else t).spared = if p then s.spared else t.spared := apply_ite State.spared p s t
@[simp] theorem rests_ite (p : Prop) [Decidable p] (t : State) :
    (if p then s else t).rests = if p then s.rests else t.rests := apply_ite State.rests p s t

@[simp] theorem modLink_spared (l : Link) (f : LinkState → LinkState) : (s.modLink l f).spared = s.spared := by cases l <;> rfl
@[simp] theorem modLink_rests (l : Link) (f : LinkState → LinkState) : (s.modLink l f).rests = s.rests := by cases l <;> rfl
@[simp] theorem modLine_spared (ln : Line) (f : LineStats → LineStats) : (s.modLine ln f).spared = s.spared := by cases ln <;> rfl
@[simp] theorem modLine_rests (ln : Line) (f : LineStats → LineStats) : (s.modLine ln f).rests = s.rests := by cases ln <;> rfl
@[simp] theorem notice_spared (l : Link) (x : NoticeFlag) : (s.notice l x).spared = s.spared := modLink_spared ..
@[simp] theorem notice_rests (l : Link) (x : NoticeFlag) : (s.notice l x).rests = s.rests := modLink_rests ..
@[simp] theorem noticeBoth_spared (x : NoticeFlag) : (s.noticeBoth x).spared = s.spared := by simp [State.noticeBoth]
@[simp] theorem noticeBoth_rests (x : NoticeFlag) : (s.noticeBoth x).rests = s.rests := by simp [State.noticeBoth]
@[simp] theorem report_spared (l : Link) (f : Frame) : (s.report l f).spared = s.spared := by simp [State.report]
@[simp] theorem report_rests (l : Link) (f : Frame) : (s.report l f).rests = s.rests := by simp [State.report]
@[simp] theorem displayNotices_spared (old : State) : (displayNotices old s).spared = s.spared := by simp [displayNotices]
@[simp] theorem displayNotices_rests (old : State) : (displayNotices old s).rests = s.rests := by simp [displayNotices]

@[simp] theorem modStn_spared (i : Stn) (f : Station → Station) : (s.modStn i f).spared = s.spared := rfl
@[simp] theorem modCab_spared (i : Stn) (f : Cabinet → Cabinet) : (s.modCab i f).spared = s.spared := rfl
@[simp] theorem modCab_rests (i : Stn) (f : Cabinet → Cabinet) : (s.modCab i f).rests = s.rests := rfl
@[simp] theorem modMotionGrant_spared (i : Stn) (f : Grant → Grant) : (s.modMotionGrant i f).spared = s.spared := rfl
@[simp] theorem modMotionGrant_rests (i : Stn) (f : Grant → Grant) : (s.modMotionGrant i f).rests = s.rests := rfl
@[simp] theorem modStnStats_spared (i : Stn) (f : StnStats → StnStats) : (s.modStnStats i f).spared = s.spared := rfl
@[simp] theorem modStnStats_rests (i : Stn) (f : StnStats → StnStats) : (s.modStnStats i f).rests = s.rests := rfl
@[simp] theorem setIdle_spared (i : Stn) (t : Option Nat) : (s.setIdle i t).spared = s.spared := rfl
@[simp] theorem leaveMotion_spared (i : Stn) : (s.leaveMotion i).spared = s.spared := rfl
@[simp] theorem leaveMotion_rests (i : Stn) : (s.leaveMotion i).rests = s.rests := rfl
@[simp] theorem modGroup_spared (n : Nat) (f : Group → Group) : (s.modGroup n f).spared = s.spared := rfl
@[simp] theorem modGroup_rests (n : Nat) (f : Group → Group) : (s.modGroup n f).rests = s.rests := rfl
@[simp] theorem modSteer_spared (n : Nat) (f : Steer → Steer) : (s.modSteer n f).spared = s.spared := rfl
@[simp] theorem modSteer_rests (n : Nat) (f : Steer → Steer) : (s.modSteer n f).rests = s.rests := rfl

@[simp] theorem setMotion_spared (i : Stn) (m : Motion) : (s.setMotion i m).spared = s.spared := by simp [State.setMotion]

@[simp] theorem placeMotion_spared (i : Stn) (c : MotionCmd) : (s.placeMotion i c).spared = s.spared := by simp [State.placeMotion]
@[simp] theorem placeMotion_rests (i : Stn) (c : MotionCmd) : (s.placeMotion i c).rests = s.rests := by simp [State.placeMotion]

/-- The owner of a station is written, and nothing that the rests show. -/
@[simp] theorem setOwner_rests (i : Stn) (w : Option Owner) : (s.modStn i fun r => { r with owner := w }).rests = s.rests := by
  funext j
  by_cases h : j = i
  · subst h
    exact congrArg (·, _) (by rw [modStn_stn_same])
  · exact congrArg (·, _) (by rw [modStn_stn_ne _ _ h])

/-- Another station's motion state and idle expiry stay when a motion state is set. -/
theorem setMotion_rests_ne {i j : Stn} (m : Motion) (h : j ≠ i) : (s.setMotion i m).rests j = s.rests j := by
  have idle (t : State) (x : Option Nat) : (t.setIdle i x).rests j = t.rests j := by
    simp [State.rests, State.setIdle, State.stn, State.modStn, upd_get_ne _ _ h]
  have moved (f : Station → Station) : (s.modStn i f).rests j = s.rests j := by
    simp [State.rests, modStn_stn_ne _ _ h]
  unfold State.setMotion
  dsimp only
  split
  next => rfl
  next => simp [ite_apply, idle, moved]

/-- What a group or a steer gets as outcome stands in its own queue. -/
theorem giveOutcome_of_ordinary {s : State} {i : Stn} {w : Owner} (hw : (s.stn i).owner = some w) (ord : w.isOrdinary = true)
    (o : MoveOutcome) :
    (s.giveOutcome i o).spared = s.spared ∧ (s.giveOutcome i o).rests = s.rests ∧ (s.giveOutcome i o).numbers = s.numbers := by
  have group (t : State) (n : Nat) : (t.modGroup n fun g => g.record i o).numbers = t.numbers := by
    simp [State.numbers, State.modGroup, Function.comp_def, apply_ite Group.number, Group.record]
  have steer (t : State) (n : Nat) : (t.modSteer n fun t => t.record o).numbers = t.numbers := by
    simp [State.numbers, State.modSteer, Function.comp_def, apply_ite Steer.number, Steer.record]
  unfold State.giveOutcome
  rw [hw]
  cases w with
  | group n => exact ⟨by simp, by simp, by rw [group]; rfl⟩
  | steer n => exact ⟨by simp, by simp, by rw [steer]; rfl⟩
  | stow => cases ord
  | snow => cases ord

end Spared

/-- CLEAR leaves a state's records, the numbers of its queues, and the idle expiry of every station but one that ended a motion. -/
structure Spares (s t : State) : Prop where
  spared : t.spared = s.spared
  numbers : t.numbers = s.numbers
  idle : ∀ i, t.rests i = s.rests i ∨ ((s.rests i).1.isOwned = true ∧ (t.rests i).1.isOwned = false)

theorem Spares.refl (s : State) : Spares s s := ⟨rfl, rfl, fun _ => .inl rfl⟩

/-- A motion that has ended stays ended. -/
theorem Spares.trans {s t u : State} (h : Spares s t) (k : Spares t u) : Spares s u where
  spared := k.spared.trans h.spared
  numbers := k.numbers.trans h.numbers
  idle i := by
    obtain same | ⟨owned, ended⟩ := h.idle i
    · rw [← same]; exact k.idle i
    · obtain same' | ⟨owned', -⟩ := k.idle i
      · exact .inr ⟨owned, by rwa [same']⟩
      · rw [ended] at owned'; cases owned'

theorem Spares.of_eq {s t : State} (h : t.spared = s.spared) (k : t.numbers = s.numbers) (r : t.rests = s.rests) : Spares s t :=
  ⟨h, k, fun i => .inl (congrFun r i)⟩

theorem foldl_spares {α : Type} {f : State → α → State} (h : ∀ (s : State) (a : α), Spares s (f s a)) (l : List α) (s : State) :
    Spares s (l.foldl f s) := by
  induction l generalizing s with
  | nil => exact .refl s
  | cons a l ih => exact (h s a).trans (ih (f s a))

/-- A motion ends in a state that is not owned. -/
theorem setMotion_spares {s : State} {i : Stn} {m : Motion} (h : (s.stn i).motion.isOwned = true) (hm : m.isOwned = false) :
    Spares s (s.setMotion i m) where
  spared := setMotion_spared s i m
  numbers := by
    obtain ⟨-, -, -, -, hsched, hoper, -⟩ := setMotion_rest s i m
    simp [State.numbers, hsched, hoper]
  idle j := by
    by_cases hj : j = i
    · subst hj
      exact .inr ⟨h, by rw [State.rests, (setMotion_stn s j m).1]; exact hm⟩
    · exact .inl (setMotion_rests_ne s m hj)

theorem placeMotion_numbers (s : State) (i : Stn) (c : MotionCmd) : (s.placeMotion i c).numbers = s.numbers := by
  unfold State.placeMotion
  dsimp only
  split <;> rfl

/-- A motion of a group or a steer that CLEAR withdraws or stops. -/
theorem endOwned_spares {w : Owner} (ord : w.isOrdinary = true) (o : MoveOutcome) (s : State) (i : Stn) :
    Spares s (State.endOwned w o s i) := by
  unfold State.endOwned
  split
  case isFalse => exact .refl s
  case isTrue hw =>
    split
    case h_1 hm =>
      obtain ⟨hspared, hrests, hnumbers⟩ := giveOutcome_of_ordinary (s := s.leaveMotion i) hw ord o
      have owned : (((s.leaveMotion i).giveOutcome i o).stn i).motion.isOwned = true := by
        rw [giveOutcome_motion]
        exact congrArg Motion.isOwned hm
      have resting (p : Posture) : p.motion.isOwned = false := by cases p <;> rfl
      have given : Spares s ((s.leaveMotion i).giveOutcome i o) := .of_eq hspared hnumbers hrests
      exact given.trans (setMotion_spares owned (resting ((s.stn i).posture.getD .held)))
    case h_2 hm =>
      obtain ⟨hspared, hrests, hnumbers⟩ := giveOutcome_of_ordinary hw ord o
      have owned : (((s.giveOutcome i o).placeMotion i .stop).stn i).motion.isOwned = true := by
        rw [stn_of_stns (placeMotion_stns ..), giveOutcome_motion, hm]; rfl
      have placed : Spares s ((s.giveOutcome i o).placeMotion i .stop) :=
        .of_eq ((placeMotion_spared ..).trans hspared) ((placeMotion_numbers ..).trans hnumbers)
          ((placeMotion_rests ..).trans hrests)
      exact placed.trans (setMotion_spares owned rfl)
    case h_3 => exact .refl s

theorem modGroup_spares (s : State) (n : Nat) {f : Group → Group} (hf : ∀ g, (f g).number = g.number) : Spares s (s.modGroup n f) :=
  .of_eq rfl (by simp [State.numbers, State.modGroup, Function.comp_def, apply_ite Group.number, hf]) rfl

theorem modSteer_spares (s : State) (n : Nat) {f : Steer → Steer} (hf : ∀ t, (f t).number = t.number) : Spares s (s.modSteer n f) :=
  .of_eq rfl (by simp [State.numbers, State.modSteer, Function.comp_def, apply_ite Steer.number, hf]) rfl

theorem endGroup_spares (o : MoveOutcome) (s : State) (g : Group) : Spares s (State.endGroup o s g) :=
  (foldl_spares (endOwned_spares rfl o) g.stations s).trans (modGroup_spares _ _ fun _ => rfl)

theorem clearSteer_spares (s : State) (t : Steer) : Spares s (s.clearSteer t) :=
  (endOwned_spares rfl .cleared s t.station).trans (modSteer_spares _ _ fun _ => rfl)

/-! ### CLEAR (R59, R183) -/

/-- The two queues after CLEAR has given CLEARED to all that stands in them. -/
def State.clearedOutcomes (s : State) : State := s.oper.steers.foldl State.clearSteer (s.sched.groups.foldl (State.endGroup .cleared) s)

theorem clearedOutcomes_spares (s : State) : Spares s s.clearedOutcomes :=
  (foldl_spares (endGroup_spares .cleared) s.sched.groups s).trans (foldl_spares clearSteer_spares s.oper.steers _)

section Complete
variable (s : State)

@[simp] theorem report_sched (l : Link) (f : Frame) : (s.report l f).sched = s.sched := by unfold State.report; split <;> simp
@[simp] theorem report_oper (l : Link) (f : Frame) : (s.report l f).oper = s.oper := by unfold State.report; split <;> simp
@[simp] theorem displayNotices_sched (old : State) : (displayNotices old s).sched = s.sched := by
  unfold displayNotices; split <;> split <;> simp
@[simp] theorem displayNotices_oper (old : State) : (displayNotices old s).oper = s.oper := by
  unfold displayNotices; split <;> split <;> simp

/-- A group that completes leaves its queue. -/
theorem completeGroup_queues (g : Group) (b : Bool) :
    (s.completeGroup g b).sched.groups = s.sched.groups.filter (fun h => decide (h.number ≠ g.number)) ∧
      (s.completeGroup g b).oper = s.oper := by simp [State.completeGroup]

/-- A steer that completes leaves its queue. -/
theorem completeSteer_queues (t : Steer) :
    (s.completeSteer t).oper.steers = s.oper.steers.filter (fun h => decide (h.number ≠ t.number)) ∧
      (s.completeSteer t).sched = s.sched := by simp [State.completeSteer]

theorem completeGroup_kept (g : Group) (b : Bool) : (s.completeGroup g b).spared = s.spared ∧ (s.completeGroup g b).rests = s.rests := by
  unfold State.completeGroup
  dsimp only
  rw [displayNotices_spared, displayNotices_rests, report_spared, report_rests]
  exact ⟨rfl, rfl⟩

theorem completeSteer_kept (t : Steer) : (s.completeSteer t).spared = s.spared ∧ (s.completeSteer t).rests = s.rests := by
  unfold State.completeSteer
  dsimp only
  rw [displayNotices_spared, displayNotices_rests, report_spared, report_rests]
  exact ⟨rfl, rfl⟩

/-- Nothing is filtered out where no member has the number. -/
theorem filter_number_of_find?_none {α : Type} {number : α → Nat} {l : List α} {n : Nat}
    (h : l.find? (fun x => decide (number x = n)) = none) : l.filter (fun x => decide (number x ≠ n)) = l := by
  simpa [List.find?_eq_none] using h

/-- No group stands with a number that CLEAR has completed. -/
theorem clearedGroup_queues (n : Nat) :
    (s.clearedGroup n).sched.groups = s.sched.groups.filter (fun h => decide (h.number ≠ n)) ∧ (s.clearedGroup n).oper = s.oper := by
  unfold State.clearedGroup
  split
  next g hg =>
    have number : g.number = n := by simpa using List.find?_some hg
    rw [← number]
    exact completeGroup_queues s g true
  next hg => exact ⟨(filter_number_of_find?_none hg).symm, rfl⟩

theorem clearedSteer_queues (n : Nat) :
    (s.clearedSteer n).oper.steers = s.oper.steers.filter (fun h => decide (h.number ≠ n)) ∧ (s.clearedSteer n).sched = s.sched := by
  unfold State.clearedSteer
  split
  next t ht =>
    have number : t.number = n := by simpa using List.find?_some ht
    rw [← number]
    exact completeSteer_queues s t
  next ht => exact ⟨(filter_number_of_find?_none ht).symm, rfl⟩

theorem clearedGroup_kept (n : Nat) : (s.clearedGroup n).spared = s.spared ∧ (s.clearedGroup n).rests = s.rests := by
  unfold State.clearedGroup
  split
  next g _ => exact completeGroup_kept s g true
  next => exact ⟨rfl, rfl⟩

theorem clearedSteer_kept (n : Nat) : (s.clearedSteer n).spared = s.spared ∧ (s.clearedSteer n).rests = s.rests := by
  unfold State.clearedSteer
  split
  next t _ => exact completeSteer_kept s t
  next => exact ⟨rfl, rfl⟩

end Complete

/-- A pass over a list keeps what each of its steps keeps. -/
theorem foldl_kept {α β : Type} (p : State → β) {f : State → α → State} (h : ∀ (s : State) (a : α), p (f s a) = p s) (l : List α)
    (s : State) : p (l.foldl f s) = p s := by
  induction l generalizing s with
  | nil => rfl
  | cons a l ih => rw [List.foldl_cons, ih, h]

/-- A pass that takes a number out of a queue at each step leaves nothing whose number it names. -/
theorem foldl_filter_eq_nil {α : Type} {number : α → Nat} (queue : State → List α) {f : State → α → State}
    (h : ∀ (s : State) (a : α), queue (f s a) = (queue s).filter fun x => decide (number x ≠ number a)) :
    ∀ (l : List α) (s : State), (∀ x ∈ queue s, number x ∈ l.map number) → queue (l.foldl f s) = []
  | [], s, hs => List.eq_nil_iff_forall_not_mem.mpr fun x hx => by simpa using hs x hx
  | a :: l, s, hs => foldl_filter_eq_nil queue h l (f s a) fun x hx => by
      rw [h, List.mem_filter, decide_eq_true_eq] at hx
      exact (List.mem_cons.mp (hs x hx.1)).resolve_left hx.2

/-- The state after the queues have been emptied, before the suspended flag is cleared. -/
def State.emptiedQueues (s : State) : State :=
  s.oper.steers.foldl (fun u t => u.clearedSteer t.number)
    (s.sched.groups.foldl (fun u g => u.clearedGroup g.number) s.clearedOutcomes)

theorem clearQueues_eq (s : State) : s.clearQueues =
    displayNotices s.emptiedQueues { s.emptiedQueues with sched := { s.emptiedQueues.sched with suspended := false } } := rfl

/-- Both queues are empty: their members have kept their numbers, and CLEAR completes every number that stood there. -/
theorem emptiedQueues_queues (s : State) : s.emptiedQueues.sched.groups = [] ∧ s.emptiedQueues.oper.steers = [] := by
  have numbers := (clearedOutcomes_spares s).numbers
  simp only [State.numbers, Prod.mk.injEq] at numbers
  obtain ⟨groups, steers⟩ := numbers
  unfold State.emptiedQueues
  constructor
  · rw [foldl_kept (·.sched.groups) fun u (t : Steer) => congrArg (·.groups) (clearedSteer_queues u t.number).2]
    refine foldl_filter_eq_nil (·.sched.groups) (fun u g => (clearedGroup_queues u g.number).1) _ _ fun g hg => ?_
    rw [← groups]
    exact List.mem_map_of_mem hg
  · refine foldl_filter_eq_nil (·.oper.steers) (fun u t => (clearedSteer_queues u t.number).1) _ _ fun t ht => ?_
    rw [foldl_kept (·.oper.steers) fun u (g : Group) => congrArg (·.steers) (clearedGroup_queues u g.number).2] at ht
    rw [← steers]
    exact List.mem_map_of_mem ht

theorem emptiedQueues_kept (s : State) :
    s.emptiedQueues.spared = s.clearedOutcomes.spared ∧ s.emptiedQueues.rests = s.clearedOutcomes.rests := by
  unfold State.emptiedQueues
  constructor
  · rw [foldl_kept State.spared fun u (t : Steer) => (clearedSteer_kept u t.number).1,
      foldl_kept State.spared fun u (g : Group) => (clearedGroup_kept u g.number).1]
  · rw [foldl_kept State.rests fun u (t : Steer) => (clearedSteer_kept u t.number).2,
      foldl_kept State.rests fun u (g : Group) => (clearedGroup_kept u g.number).2]

theorem clearQueues_spared (s : State) : s.clearQueues.spared = s.spared := by
  rw [clearQueues_eq, displayNotices_spared]
  exact (emptiedQueues_kept s).1.trans (clearedOutcomes_spares s).spared

/-- Only a station whose motion CLEAR has ended has another idle expiry. -/
theorem clearQueues_idle (s : State) (i : Stn) (h : (s.clearQueues.stn i).motion = (s.stn i).motion) :
    s.clearQueues.snow.idleExpiry.get i = s.snow.idleExpiry.get i := by
  have kept : s.clearQueues.rests = s.clearedOutcomes.rests := by
    rw [clearQueues_eq, displayNotices_rests]
    exact (emptiedQueues_kept s).2
  obtain same | ⟨owned, ended⟩ := (clearedOutcomes_spares s).idle i
  · exact congrArg Prod.snd ((congrFun kept i).trans same)
  · rw [← kept] at ended
    rw [show (s.clearQueues.rests i).1 = (s.rests i).1 from h, owned] at ended
    cases ended

theorem clearAll_done {s : State} {f : Frame} (h : Ready s .O f 0x1D) (hp : f.payload = []) :
    exec .clearAll s = .next (requestDone s .O f State.clearQueues (u16 s.sched.groups.length ++ u16 s.oper.steers.length)) := by
  have oper : (s.openRequest .O f).oper = s.oper := modLink_oper ..
  refine congrArg Host.Outcome.next (takeRequest_done (g := takeClear) h ?_)
  rw [takeClear, noArgs_nil hp, openRequest_sched, oper]

/-- Two snow records that differ in the idle expiries only. -/
theorem snow_of_spared {a b : Snow} {v : Vector (Option Nat) 32} (h : { a with idleExpiry := v } = { b with idleExpiry := v }) :
    a = { b with idleExpiry := a.idleExpiry } := by
  cases a; cases b
  simp_all

/-- Settles O30. -/
theorem clearEmptiesBothQueues : Obligations.ClearEmptiesBothQueues := by
  refine ⟨fun _ _ => clearAll_done, fun s => ?_⟩
  obtain ⟨groups, steers⟩ := emptiedQueues_queues s
  have spared := clearQueues_spared s
  simp only [State.spared, SparedRecords.mk.injEq] at spared
  obtain ⟨camp, wind, locks, cfg, heat, feedLimit, snow, nextGroup, nextSteer⟩ := spared
  refine ⟨?_, ?_, camp, wind, locks, cfg, heat, feedLimit, ?_, clearQueues_idle s⟩
  · have sched : s.clearQueues.sched = { s.emptiedQueues.sched with suspended := false } := by
      rw [clearQueues_eq, displayNotices_sched]
    rw [sched] at nextGroup ⊢
    simp only [groups, ← nextGroup]
  · have oper : s.clearQueues.oper = s.emptiedQueues.oper := by rw [clearQueues_eq, displayNotices_oper]
    rw [oper] at nextSteer ⊢
    simp only [← steers, ← nextSteer]
  · exact snow_of_spared snow

/-! ### What setting a motion state and placing a command leave -/

/-- A grant awaits its move only while the station moves (R67). -/
theorem setMotion_grants (s : State) (i : Stn) (m : Motion) : (s.setMotion i m).power.motion =
    if (s.stn i).motion.isMoving && !m.isMoving then upd s.power.motion i fun g => { g with awaiting := false }
    else s.power.motion := by
  have notice (t : State) (b : Bool) : (if b then t.noticeBoth .station else t).power = t.power := by cases b <;> simp
  have grant (t : State) (b : Bool) (h : t.power = s.power) :
      (if b then t.modMotionGrant i fun g => { g with awaiting := false } else t).power.motion =
        if b then upd s.power.motion i fun g => { g with awaiting := false } else s.power.motion := by
    cases b <;> simp [h, State.modMotionGrant]
  unfold State.setMotion
  dsimp only
  split
  next same => rw [same]; cases m.isMoving <;> rfl
  next =>
    rw [notice]
    refine grant _ _ ?_
    split <;> [skip; split] <;> rfl

theorem setMotion_grant (s : State) (i : Stn) (m : Motion) : (s.setMotion i m).motionGrant i =
    if (s.stn i).motion.isMoving && !m.isMoving then { s.motionGrant i with awaiting := false } else s.motionGrant i := by
  rw [State.motionGrant, setMotion_grants]
  split
  · exact upd_get_same ..
  · rfl

/-- The park steps are none of a station's motion record. -/
theorem park_of_spared {s t : State} (h : t.spared = s.spared) (i : Stn) : t.park i = s.park i :=
  congrArg (fun r => r.snow.park.get i) h

theorem placeMotion_rest (s : State) (i : Stn) (c : MotionCmd) :
    (s.placeMotion i c).sched = s.sched ∧ (s.placeMotion i c).oper = s.oper ∧ (s.placeMotion i c).camp = s.camp ∧
      (s.placeMotion i c).stats = s.stats ∧ (s.placeMotion i c).snow = s.snow := by
  unfold State.placeMotion
  dsimp only
  split <;> simp

/-! ### Withdrawn commands (R162) -/

section Withdraw
variable (s : State) (i : Stn)

/-- A motion command that satisfies p leaves its slot; another stays. -/
theorem withdrawMotion_motion (p : MotionCmd → Bool) :
    ((s.withdrawMotion i p).cab i).motion = (s.cab i).motion.filter fun c => !p c := by
  unfold State.withdrawMotion
  split
  next c hc =>
    dsimp only
    split
    next hp => simp [hc, hp, Option.filter]
    next hp => simp [hc, hp, Option.filter]
  next hc => simp [hc, Cabinet.overtake]

theorem withdrawMotion_pin (p : MotionCmd → Bool) : ((s.withdrawMotion i p).cab i).pin = (s.cab i).pin := by
  unfold State.withdrawMotion
  split
  next c _ =>
    dsimp only
    split
    next => split <;> simp [Cabinet.overtake]
    next => rfl
  next => simp [Cabinet.overtake]

theorem withdrawPin_motion (c : PinCmd) : ((s.withdrawPin i c).cab i).motion = (s.cab i).motion := by
  unfold State.withdrawPin
  split
  next => split <;> simp [Cabinet.overtake]
  next => simp [Cabinet.overtake]

theorem withdrawPin_pin (c : PinCmd) :
    ((s.withdrawPin i c).cab i).pin = if (s.cab i).pin = some c then none else (s.cab i).pin := by
  unfold State.withdrawPin
  split
  next d hd =>
    by_cases h : d = c
    · simp [h, hd]
    · simp [h, hd]
  next hd => simp [hd, Cabinet.overtake]

/-- Withdrawing a motion command leaves the amount of every grant, and every record but the grants and the cabinets. -/
theorem withdrawMotion_rest (p : MotionCmd → Bool) :
    ((s.withdrawMotion i p).motionGrant i).amount = (s.motionGrant i).amount ∧ (s.withdrawMotion i p).stats = s.stats ∧
      (s.withdrawMotion i p).camp = s.camp := by
  unfold State.withdrawMotion
  split
  next =>
    dsimp only
    split
    next => split <;> simp
    next => simp
  next => simp

theorem withdrawPin_rest (c : PinCmd) :
    (s.withdrawPin i c).motionGrant i = s.motionGrant i ∧ (s.withdrawPin i c).stats = s.stats ∧
      (s.withdrawPin i c).camp = s.camp := by
  unfold State.withdrawPin
  split
  next => split <;> simp
  next => simp

end Withdraw

/-! ### Outcomes by owner (R44, R51, R111, R142) -/

section Outcome
variable {s : State} {i : Stn} (o : MoveOutcome)

/-- The state in which an owner takes its outcome: the station has no owner, and the outcome is counted. -/
def State.disowned (s : State) (i : Stn) (o : MoveOutcome) : State :=
  (s.modStn i fun r => { r with owner := none }).modStnStats i (countOutcome o)

theorem giveOutcome_group {n : Nat} (h : (s.stn i).owner = some (.group n)) :
    s.giveOutcome i o = (s.disowned i o).modGroup n fun g => g.record i o := by simp only [State.giveOutcome, h, State.disowned]
theorem giveOutcome_steer {n : Nat} (h : (s.stn i).owner = some (.steer n)) :
    s.giveOutcome i o = (s.disowned i o).modSteer n fun t => t.record o := by simp only [State.giveOutcome, h, State.disowned]
theorem giveOutcome_stow (h : (s.stn i).owner = some .stow) : s.giveOutcome i o = (s.disowned i o).stowOutcome i o := by
  simp only [State.giveOutcome, h, State.disowned]
theorem giveOutcome_snow (h : (s.stn i).owner = some .snow) : s.giveOutcome i o = (s.disowned i o).snowOutcome i := by
  simp only [State.giveOutcome, h, State.disowned]

theorem disowned_cab (s : State) (i j : Stn) (o : MoveOutcome) : (s.disowned i o).cab j = s.cab j := rfl

theorem disowned_entry? (s : State) (i : Stn) (o : MoveOutcome) : (s.disowned i o).entry? i = s.entry? i := rfl

theorem disowned_stats (s : State) (i : Stn) (o : MoveOutcome) :
    (s.disowned i o).stats.stn.get i = countOutcome o (s.stats.stn.get i) := modStnStats_same ..

/-- The motion command that a stow withdraws: the one that its entry has in hand (R111, R162). -/
theorem stowOutcome_motion (s : State) (i : Stn) (o : MoveOutcome) : ((s.stowOutcome i o).cab i).motion =
    (s.cab i).motion.filter fun c => !((s.rosterStatus? i).any fun st => st.stowCmd c) := by
  unfold State.stowOutcome
  dsimp only
  rw [withdrawPin_motion, withdrawMotion_motion]
  rfl

/-- The pin command that a stow withdraws is its PIN_IN. -/
theorem stowOutcome_pin (s : State) (i : Stn) (o : MoveOutcome) :
    ((s.stowOutcome i o).cab i).pin = if (s.cab i).pin = some .pinIn then none else (s.cab i).pin := by
  unfold State.stowOutcome
  dsimp only
  rw [withdrawPin_pin, withdrawMotion_pin]
  rfl

theorem stowOutcome_entry? (s : State) (i : Stn) (o : MoveOutcome) : (s.stowOutcome i o).entry? i = (s.entry? i).map fun e =>
    { e with status := interruptedStatus o e.status, outcome := some o, noPin := false, stowDur := none } := by
  unfold State.stowOutcome
  dsimp only
  rw [State.entry?, (withdrawPin_rest ..).2.2, (withdrawMotion_rest ..).2.2]
  exact modRoster_entry? s i (by exact fun _ => rfl)

theorem stowOutcome_stats (s : State) (i : Stn) (o : MoveOutcome) : (s.stowOutcome i o).stats = s.stats := by
  unfold State.stowOutcome
  dsimp only
  rw [(withdrawPin_rest ..).2.1, (withdrawMotion_rest ..).2.1]
  rfl

theorem stowOutcome_amount (s : State) (i : Stn) (o : MoveOutcome) :
    ((s.stowOutcome i o).motionGrant i).amount = (s.motionGrant i).amount := by
  unfold State.stowOutcome
  dsimp only
  rw [(withdrawPin_rest ..).1, (withdrawMotion_rest ..).1]
  rfl

/-- SNOW withdraws commands and ends its park step. -/
theorem snowOutcome_rest (s : State) (i : Stn) : (s.snowOutcome i).park i = none ∧ (s.snowOutcome i).stats = s.stats ∧
    ((s.snowOutcome i).motionGrant i).amount = (s.motionGrant i).amount := by
  obtain ⟨amount, stats, -⟩ := withdrawMotion_rest s i MotionCmd.isBrake
  unfold State.snowOutcome
  dsimp only
  refine ⟨setPark_park_same .., ?_, ?_⟩
  · split
    · exact stats
    · rfl
  · split
    · exact amount
    · rfl

/-- An outcome is counted for its station, whoever owned the motion. -/
theorem giveOutcome_stats {w : Owner} (h : (s.stn i).owner = some w) :
    (s.giveOutcome i o).stats.stn.get i = countOutcome o (s.stats.stn.get i) := by
  cases w with
  | group n => rw [giveOutcome_group o h]; exact disowned_stats s i o
  | steer n => rw [giveOutcome_steer o h]; exact disowned_stats s i o
  | stow => rw [giveOutcome_stow o h, stowOutcome_stats]; exact disowned_stats s i o
  | snow => rw [giveOutcome_snow o h, (snowOutcome_rest ..).2.1]; exact disowned_stats s i o

/-- An outcome changes no amount of a grant. -/
theorem giveOutcome_amount (s : State) (i : Stn) : ((s.giveOutcome i o).motionGrant i).amount = (s.motionGrant i).amount := by
  cases h : (s.stn i).owner with
  | none => simp only [State.giveOutcome, h]
  | some w =>
    cases w with
    | group n => rw [giveOutcome_group o h]; rfl
    | steer n => rw [giveOutcome_steer o h]; rfl
    | stow => rw [giveOutcome_stow o h, stowOutcome_amount]; rfl
    | snow => rw [giveOutcome_snow o h, (snowOutcome_rest ..).2.2]; rfl

/-- What each owner records of an outcome. -/
theorem giveOutcome_recorded (w : Owner) (h : (s.stn i).owner = some w) :
    (∀ n, w = .group n → (s.giveOutcome i o).sched.groups =
      s.sched.groups.map fun g => if g.number = n then g.record i o else g) ∧
    (∀ n, w = .steer n → (s.giveOutcome i o).oper.steers =
      s.oper.steers.map fun t => if t.number = n then t.record o else t) ∧
    (w = .snow → (s.giveOutcome i o).park i = none) := by
  refine ⟨?_, ?_, ?_⟩
  · rintro n rfl
    rw [giveOutcome_group o h]; rfl
  · rintro n rfl
    rw [giveOutcome_steer o h]; rfl
  · rintro rfl
    rw [giveOutcome_snow o h]; exact (snowOutcome_rest ..).1

theorem giveOutcome_stow_entry? (h : (s.stn i).owner = some .stow) {e : RosterEntry} (he : s.entry? i = some e) :
    (s.giveOutcome i o).entry? i =
      some { e with status := interruptedStatus o e.status, outcome := some o, noPin := false, stowDur := none } := by
  rw [giveOutcome_stow o h, stowOutcome_entry?, disowned_entry?, he, Option.map_some]

theorem giveOutcome_stow_motion (h : (s.stn i).owner = some .stow) {e : RosterEntry} {c : MotionCmd} (he : s.entry? i = some e)
    (hc : (s.cab i).motion = some c) : ((s.giveOutcome i o).cab i).motion =
      if (e.status = .moving ∧ c.isMove = true) ∨ (e.status = .braking ∧ c = .brake) then none else some c := by
  rw [giveOutcome_stow o h, stowOutcome_motion, disowned_cab, hc, State.rosterStatus?, disowned_entry?, he]
  simp only [Option.filter, Option.map_some, Option.any_some, Bool.not_eq_true', ← stowCmd_iff]
  cases e.status.stowCmd c <;> rfl

theorem giveOutcome_stow_slots (h : (s.stn i).owner = some .stow) :
    ((s.cab i).motion = none → ((s.giveOutcome i o).cab i).motion = none) ∧
      ((s.giveOutcome i o).cab i).pin = if (s.cab i).pin = some .pinIn then none else (s.cab i).pin := by
  rw [giveOutcome_stow o h, stowOutcome_motion, stowOutcome_pin, disowned_cab]
  exact ⟨fun hc => by rw [hc]; rfl, rfl⟩

theorem withdrawMotion_leaveMotion (s : State) (i : Stn) (p : MotionCmd → Bool) :
    (s.leaveMotion i).withdrawMotion i p = (s.withdrawMotion i p).leaveMotion i := by
  have cab : (s.leaveMotion i).cab i = s.cab i := rfl
  unfold State.withdrawMotion
  rw [cab]
  split
  next =>
    dsimp only
    split <;> [split; skip] <;> rfl
  next => rfl

theorem withdrawPin_leaveMotion (s : State) (i : Stn) (c : PinCmd) :
    (s.leaveMotion i).withdrawPin i c = (s.withdrawPin i c).leaveMotion i := by
  have cab : (s.leaveMotion i).cab i = s.cab i := rfl
  unfold State.withdrawPin
  rw [cab]
  split
  next => split <;> rfl
  next => rfl

theorem stowOutcome_leaveMotion (s : State) (i : Stn) (o : MoveOutcome) :
    (s.leaveMotion i).stowOutcome i o = (s.stowOutcome i o).leaveMotion i := by
  have roster (t : State) (f : RosterEntry → RosterEntry) : (t.leaveMotion i).modRoster i f = (t.modRoster i f).leaveMotion i := rfl
  unfold State.stowOutcome
  dsimp only
  rw [roster, withdrawMotion_leaveMotion, withdrawPin_leaveMotion]
  rfl

theorem snowOutcome_leaveMotion (s : State) (i : Stn) : (s.leaveMotion i).snowOutcome i = (s.snowOutcome i).leaveMotion i := by
  have park : (s.leaveMotion i).park i = s.park i := rfl
  unfold State.snowOutcome
  rw [park]
  dsimp only
  split
  · rw [withdrawMotion_leaveMotion]; rfl
  · rfl

/-- The list and the outcome of a motion do not touch each other. -/
theorem giveOutcome_leaveMotion (s : State) (i : Stn) :
    (s.leaveMotion i).giveOutcome i o = (s.giveOutcome i o).leaveMotion i := by
  cases h : (s.stn i).owner with
  | none =>
    have h' : ((s.leaveMotion i).stn i).owner = none := h
    simp only [State.giveOutcome, h, h']
  | some w =>
    have h' : ((s.leaveMotion i).stn i).owner = some w := h
    cases w with
    | group n => rw [giveOutcome_group o h, giveOutcome_group o h']; rfl
    | steer n => rw [giveOutcome_steer o h, giveOutcome_steer o h']; rfl
    | stow =>
      rw [giveOutcome_stow o h, giveOutcome_stow o h', ← stowOutcome_leaveMotion]; rfl
    | snow =>
      rw [giveOutcome_snow o h, giveOutcome_snow o h', ← snowOutcome_leaveMotion]; rfl

end Outcome

/-! ### Motions that end (R4, R5, R7, R16, R43, R111, R141) -/

section Ended
variable (s : State) (i : Stn) (o : MoveOutcome)

/-- Entering a state in which the station does not move ends its targets (R7). -/
theorem setMotion_targets {s : State} {i : Stn} {m : Motion} (h : (s.stn i).motion ≠ m) (hm : m.isMoving = false) :
    ((s.setMotion i m).stn i).az.target = none ∧ ((s.setMotion i m).stn i).el.target = none ∧
      ((s.setMotion i m).stn i).posture = none := by
  obtain ⟨t, record⟩ := setMotion_record h
  rw [record]
  simp [Motion.axis, hm]

/-- The state in which an ended motion's STOP or BRAKE stands in the motion slot. -/
def State.halted (s : State) (i : Stn) (o : MoveOutcome) (c : MotionCmd) : State :=
  ((s.giveOutcome i o).placeMotion i c).setMotion i .stopping

/-- A motion that ends with STOP or BRAKE leaves its station STOPPING, without owner or targets. -/
theorem halted_stn (c : MotionCmd) (h : (s.stn i).motion ≠ .stopping) :
    ((s.halted i o c).stn i).motion = .stopping ∧ ((s.halted i o c).stn i).owner = none ∧
      ((s.halted i o c).stn i).az.target = none ∧ ((s.halted i o c).stn i).el.target = none := by
  have placed : ((s.giveOutcome i o).placeMotion i c).stn i = (s.giveOutcome i o).stn i := stn_of_stns (placeMotion_stns ..) i
  obtain ⟨hmotion, howner, -⟩ := setMotion_stn ((s.giveOutcome i o).placeMotion i c) i .stopping
  obtain ⟨haz, hel, -⟩ := setMotion_targets (s := (s.giveOutcome i o).placeMotion i c) (i := i) (m := .stopping)
    (by rwa [placed, giveOutcome_motion]) rfl
  exact ⟨hmotion, howner.trans (by rw [placed, giveOutcome_owner]), haz, hel⟩

theorem halted_slot (c : MotionCmd) : ((s.halted i o c).cab i).motion = some c := by
  rw [State.halted, State.cab, (setMotion_rest ..).1]
  exact placeMotion_motion ..

/-- The grant of a stopped motion keeps its amount and awaits no move (R67). -/
theorem halted_grant (c : MotionCmd) (h : (s.stn i).motion.isMoving = true) :
    ((s.halted i o c).motionGrant i).amount = (s.motionGrant i).amount ∧
      ((s.halted i o c).motionGrant i).awaiting = false := by
  have moving : (((s.giveOutcome i o).placeMotion i c).stn i).motion.isMoving = true := by
    rwa [stn_of_stns (placeMotion_stns ..), giveOutcome_motion]
  rw [State.halted, setMotion_grant, moving]
  exact ⟨(placeMotion_amount ..).trans (giveOutcome_amount ..), rfl⟩

/-- A waiting motion of a group that is withdrawn leaves the slots, the grants and the other stations as they stand. -/
theorem withdrawWaiting_group {p : Posture} {n : Nat} (hm : (s.stn i).motion = .admitting) (hp : (s.stn i).posture = some p)
    (hw : (s.stn i).owner = some (.group n)) :
    ((s.withdrawWaiting i o).stn i).motion = p.motion ∧ ((s.withdrawWaiting i o).stn i).owner = none ∧
      ((s.withdrawWaiting i o).stn i).posture = none ∧ (s.withdrawWaiting i o).bus = s.bus ∧
      (s.withdrawWaiting i o).power.list = (s.leaveMotion i).power.list ∧
      (s.withdrawWaiting i o).power.motion = s.power.motion := by
  have hw' : ((s.leaveMotion i).stn i).owner = some (.group n) := hw
  have given : (s.leaveMotion i).giveOutcome i o = ((s.leaveMotion i).disowned i o).modGroup n fun g => g.record i o :=
    giveOutcome_group o hw'
  have motion : (((s.leaveMotion i).giveOutcome i o).stn i).motion = .admitting := (giveOutcome_motion ..).trans hm
  have other : (((s.leaveMotion i).giveOutcome i o).stn i).motion ≠ p.motion := by
    rw [motion]; cases p <;> exact nofun
  have resting : p.motion.isMoving = false := by cases p <;> rfl
  have eq : s.withdrawWaiting i o = ((s.leaveMotion i).giveOutcome i o).setMotion i p.motion := by
    simp only [State.withdrawWaiting, hp, Option.getD_some]
  obtain ⟨hmotion, howner, -⟩ := setMotion_stn ((s.leaveMotion i).giveOutcome i o) i p.motion
  obtain ⟨-, -, hposture⟩ := setMotion_targets other resting
  obtain ⟨hbus, -, -, -, -, -, -, -, -, -, hlist, -⟩ := setMotion_rest ((s.leaveMotion i).giveOutcome i o) i p.motion
  have hgrants : (((s.leaveMotion i).giveOutcome i o).setMotion i p.motion).power.motion =
      ((s.leaveMotion i).giveOutcome i o).power.motion := by rw [setMotion_grants, motion]; rfl
  rw [eq]
  refine ⟨hmotion, howner.trans (giveOutcome_owner ..), hposture, hbus.trans ?_, hlist.trans ?_, hgrants.trans ?_⟩
  all_goals rw [given]; rfl

/-- A consumer that leaves the admission list stands in none of its entries (R71). -/
theorem leaveMotion_absent (e : Entry) (he : e ∈ (s.leaveMotion i).power.list) (g : Bool) (ps : List Plan)
    (hb : e.body = .motion g ps) (q : Plan) (hq : q ∈ ps) : q.station ≠ i := by
  obtain ⟨x, -, hx⟩ := List.mem_filterMap.mp he
  unfold Entry.lessMotion at hx
  split at hx
  next h qs _ =>
    split at hx
    next => cases hx
    next r rs hrs =>
      obtain rfl := Option.some.inj hx
      obtain ⟨rfl, rfl⟩ := Waiting.motion.inj hb
      rw [← hrs, List.mem_filter] at hq
      simpa using hq.2
  next j hj =>
    obtain rfl := Option.some.inj hx
    rw [hj] at hb
    cases hb

/-- Stopping or withdrawing a motion records its outcome as the outcome alone does, in the queues, the roster, the counters and the park
step. -/
theorem ended_records : ∀ t ∈ [s.stopMoving i o, s.withdrawWaiting i o],
    t.sched = (s.giveOutcome i o).sched ∧ t.oper = (s.giveOutcome i o).oper ∧ t.camp = (s.giveOutcome i o).camp ∧
      t.stats = (s.giveOutcome i o).stats ∧ t.park i = (s.giveOutcome i o).park i := by
  have set (u : State) (m : Motion) : (u.setMotion i m).sched = u.sched ∧ (u.setMotion i m).oper = u.oper ∧
      (u.setMotion i m).camp = u.camp ∧ (u.setMotion i m).stats = u.stats ∧ (u.setMotion i m).park i = u.park i := by
    obtain ⟨-, -, -, -, hsched, hoper, hcamp, -, hstats, -⟩ := setMotion_rest u i m
    exact ⟨hsched, hoper, hcamp, hstats, park_of_spared (setMotion_spared u i m) i⟩
  intro t ht
  obtain rfl | rfl : t = s.stopMoving i o ∨ t = s.withdrawWaiting i o := by simpa using ht
  · obtain ⟨hsched, hoper, hcamp, hstats, hpark⟩ := set ((s.giveOutcome i o).placeMotion i .stop) .stopping
    obtain ⟨ksched, koper, kcamp, kstats, ksnow⟩ := placeMotion_rest (s.giveOutcome i o) i .stop
    exact ⟨hsched.trans ksched, hoper.trans koper, hcamp.trans kcamp, hstats.trans kstats,
      hpark.trans (congrArg (·.park.get i) ksnow)⟩
  · rw [State.withdrawWaiting, giveOutcome_leaveMotion]
    exact set ((s.giveOutcome i o).leaveMotion i) _

end Ended

/-! ### Outcomes recorded once (R44, R51) -/

/-- A group records an outcome for a member that has none, and leaves the others. -/
theorem record_members (g : Group) (i : Stn) (o : MoveOutcome) : ∀ m ∈ g.members,
    if m.1 = i ∧ m.2 = none then (i, some o) ∈ (g.record i o).members else m ∈ (g.record i o).members := by
  intro m hm
  have recorded := List.mem_map_of_mem (f := fun m : Stn × Option MoveOutcome => if m.1 = i ∧ m.2 = none then (i, some o) else m) hm
  split
  next h => rwa [if_pos h] at recorded
  next h => rwa [if_neg h] at recorded

theorem steer_record_outcome (t : Steer) (o : MoveOutcome) : (t.record o).outcome = some (t.outcome.getD o) := by
  unfold Steer.record
  cases t.outcome <;> rfl

theorem countOutcome_eq (o : MoveOutcome) (t : StnStats) : countOutcome o t =
    if o = .arrived ∨ o = .short then { t with arrivals := bump t.arrivals } else { t with otherEndings := bump t.otherEndings } := by
  cases o <;> rfl

/-! ### Arrival (R16) -/

section Arrival
variable {s : State} {i : Stn} {st : CabStatus}

/-- A slew of a group or a steer is judged only after its MOVE was accepted. -/
theorem stationRemote_slewing {tk : TakenFlags} {a : Answer} {mark : Bool} {w : Owner} (hm : (s.stn i).motion = .slewing)
    (hw : (s.stn i).owner = some w) (ord : ∃ n, w = .group n ∨ w = .steer n) (hr : refusedMove a mark = none) :
    s.stationRemote i st tk a mark = if tk.motion then s.judgeArrival i st else s := by
  have ordinary : w.isOrdinary = true := by
    obtain ⟨n, rfl | rfl⟩ := ord <;> rfl
  simp only [State.stationRemote, hm, hr, hw, ordinary, Bool.true_and]

/-- The axes that a move is judged by are those with a target. -/
theorem mem_movedAxes (r : Station) (st : CabStatus) (t : Int) (x : AxisStatus) :
    (t, x) ∈ movedAxes r st ↔ (r.az.target = some t ∧ x = st.az) ∨ (r.el.target = some t ∧ x = st.el) := by
  simp [movedAxes, eq_comm (a := x)]

theorem judgeArrival_moving (h : ∃ x ∈ movedAxes (s.stn i) st, x.2.phase.moving = true) : s.judgeArrival i st = s := by
  obtain ⟨x, hx, hm⟩ := h
  have unsettled : ((movedAxes (s.stn i) st).all fun x => x.2.phase.still) = false :=
    List.all_eq_false.mpr ⟨x, hx, by simp [Phase.still, hm]⟩
  simp only [State.judgeArrival, unsettled, Bool.false_eq_true, if_false]

theorem judgeArrival_holding (h : ∀ x ∈ movedAxes (s.stn i) st, x.2.phase = .holding) :
    s.judgeArrival i st = (s.giveOutcome i
      (if ∀ x ∈ movedAxes (s.stn i) st, (x.2.pos - x.1).natAbs ≤ s.cfg.arriveTol then .arrived else .short)).setMotion i .pointed := by
  have still : ((movedAxes (s.stn i) st).all fun x => x.2.phase.still) = true :=
    List.all_eq_true.mpr fun x hx => by rw [h x hx]; rfl
  have unbraked : ((movedAxes (s.stn i) st).any fun x => decide (x.2.phase = .braked)) = false :=
    List.any_eq_false.mpr fun x hx => by simp [h x hx]
  simp only [State.judgeArrival, still, unbraked, if_true, Bool.false_eq_true, if_false, List.all_eq_true, nearTarget,
    decide_eq_true_eq]

theorem judgeArrival_braked (h : ∀ x ∈ movedAxes (s.stn i) st, x.2.phase.moving = false)
    (hb : ∃ x ∈ movedAxes (s.stn i) st, x.2.phase = .braked) : s.judgeArrival i st = s.halted i .short .brake := by
  obtain ⟨x, hx, braked⟩ := hb
  have still : ((movedAxes (s.stn i) st).all fun x => x.2.phase.still) = true :=
    List.all_eq_true.mpr fun x hx => by simp [Phase.still, h x hx]
  have some_braked : ((movedAxes (s.stn i) st).any fun x => decide (x.2.phase = .braked)) = true :=
    List.any_eq_true.mpr ⟨x, hx, by simp [braked]⟩
  simp only [State.judgeArrival, still, some_braked, if_true, State.halted]

/-- A motion that ends where the dish comes to rest leaves its station without owner or targets. -/
theorem rested_stn {m : Motion} (o : MoveOutcome) (h : (s.stn i).motion ≠ m) (hm : m.isMoving = false) :
    (((s.giveOutcome i o).setMotion i m).stn i).motion = m ∧ (((s.giveOutcome i o).setMotion i m).stn i).owner = none ∧
      (((s.giveOutcome i o).setMotion i m).stn i).az.target = none ∧
      (((s.giveOutcome i o).setMotion i m).stn i).el.target = none := by
  obtain ⟨hmotion, howner, -⟩ := setMotion_stn (s.giveOutcome i o) i m
  obtain ⟨haz, hel, -⟩ := setMotion_targets (s := s.giveOutcome i o) (i := i) (m := m) (by rwa [giveOutcome_motion]) hm
  exact ⟨hmotion, howner.trans (giveOutcome_owner ..), haz, hel⟩

/-- An axis that does not move and is not braked holds. -/
theorem Phase.holding_of_still {p : Phase} (still : p.moving = false) (unbraked : p ≠ .braked) : p = .holding := by
  cases p <;> simp_all [Phase.moving]

/-- A slew that is judged ends: POINTED where no axis is braked, STOPPING where one is. -/
theorem judgeArrival_ended (hm : (s.stn i).motion = .slewing) (h : ∀ x ∈ movedAxes (s.stn i) st, x.2.phase.moving = false) :
    ((s.judgeArrival i st).stn i).owner = none ∧ ((s.judgeArrival i st).stn i).az.target = none ∧
      ((s.judgeArrival i st).stn i).el.target = none := by
  by_cases hb : ∃ x ∈ movedAxes (s.stn i) st, x.2.phase = .braked
  · rw [judgeArrival_braked h hb]
    exact (halted_stn s i .short .brake (by rw [hm]; exact nofun)).2
  · have holding : ∀ x ∈ movedAxes (s.stn i) st, x.2.phase = .holding := fun x hx => by
      exact Phase.holding_of_still (h x hx) fun e => hb ⟨x, hx, e⟩
    rw [judgeArrival_holding holding]
    exact (rested_stn _ (by rw [hm]; exact nofun) rfl).2

/-- The three ways that a judged slew goes on: it still moves, it arrives, or a braked axis stops it. -/
theorem judgeArrival_cases (hm : (s.stn i).motion = .slewing) :
    ((∃ x ∈ movedAxes (s.stn i) st, x.2.phase.moving = true) → s.judgeArrival i st = s) ∧
    ((∀ x ∈ movedAxes (s.stn i) st, x.2.phase = .holding) →
      s.judgeArrival i st = (s.giveOutcome i
        (if ∀ x ∈ movedAxes (s.stn i) st, (x.2.pos - x.1).natAbs ≤ s.cfg.arriveTol then .arrived else .short)).setMotion
          i .pointed ∧
      ((s.judgeArrival i st).stn i).motion = .pointed) ∧
    ((∀ x ∈ movedAxes (s.stn i) st, x.2.phase = .holding ∨ x.2.phase = .braked) →
      (∃ x ∈ movedAxes (s.stn i) st, x.2.phase = .braked) →
      s.judgeArrival i st = ((s.giveOutcome i .short).placeMotion i .brake).setMotion i .stopping ∧
      ((s.judgeArrival i st).stn i).motion = .stopping ∧ ((s.judgeArrival i st).cab i).motion = some .brake) := by
  refine ⟨judgeArrival_moving, fun h => ?_, fun h hb => ?_⟩
  · have arrived := judgeArrival_holding h
    exact ⟨arrived, by rw [arrived]; exact (rested_stn _ (by rw [hm]; exact nofun) rfl).1⟩
  · have still : ∀ x ∈ movedAxes (s.stn i) st, x.2.phase.moving = false := fun x hx => by
      obtain e | e := h x hx <;> rw [e] <;> rfl
    have braked := judgeArrival_braked still hb
    refine ⟨braked, ?_⟩
    rw [braked]
    exact ⟨(halted_stn s i .short .brake (by rw [hm]; exact nofun)).1, halted_slot ..⟩

end Arrival

/-! ### Parking (R141) -/

section Park
variable {s : State} {i : Stn} {st : CabStatus} {tk : TakenFlags}

theorem parkReply_untaken (h : tk.motion = false) : s.parkReply i st tk = s := by simp [State.parkReply, h]

/-- A park whose elevation is still brakes. -/
theorem parkReply_moving (hm : (s.stn i).motion = .slewing) (hw : (s.stn i).owner = some .snow) (hk : tk.motion = true)
    (hp : s.park i = some .moving) : s.parkReply i st tk =
      if st.el.phase.moving then s else (s.placeMotion i .brake).setPark i (some .braking) := by
  simp only [State.parkReply, hm, hw, hk, hp, and_self, if_true, Phase.still]
  by_cases h : st.el.phase.moving = true <;> simp [h]

/-- A park whose axes are both braked ends PARKED, arrived or short by the elevation. -/
theorem parkReply_braking (hm : (s.stn i).motion = .slewing) (hw : (s.stn i).owner = some .snow) (hk : tk.motion = true)
    (hp : s.park i = some .braking) : s.parkReply i st tk =
      if st.braked then (s.giveOutcome i (if (s.stn i).el.target.all fun t => nearTarget s.cfg.arriveTol (t, st.el)
        then .arrived else .short)).setMotion i .parked else s := by
  simp only [State.parkReply, hm, hw, hk, hp, and_self, if_true]
  cases (s.stn i).el.target <;> rfl

/-- A brake that the park places leaves the station record. -/
theorem parkBrake_effect : (((s.placeMotion i .brake).setPark i (some .braking)).cab i).motion = some .brake ∧
    ((s.placeMotion i .brake).setPark i (some .braking)).park i = some .braking ∧
    ((s.placeMotion i .brake).setPark i (some .braking)).stn i = s.stn i :=
  ⟨placeMotion_motion s i .brake, setPark_park_same .., stn_of_stns (placeMotion_stns s i .brake) i⟩

/-- An arrival of a park, near or short, counts as one and ends the park step. -/
theorem parked_effect {o : MoveOutcome} (ho : o.isArrival = true) (hm : (s.stn i).motion = .slewing)
    (hw : (s.stn i).owner = some .snow) :
    (((s.giveOutcome i o).setMotion i .parked).stn i).motion = .parked ∧
      (((s.giveOutcome i o).setMotion i .parked).stn i).owner = none ∧
      (((s.giveOutcome i o).setMotion i .parked).stn i).el.target = none ∧
      ((s.giveOutcome i o).setMotion i .parked).park i = none ∧
      ((s.giveOutcome i o).setMotion i .parked).stats.stn.get i =
        { s.stats.stn.get i with arrivals := bump (s.stats.stn.get i).arrivals } := by
  obtain ⟨hmotion, howner, -, hel⟩ := rested_stn (s := s) (i := i) (m := .parked) o (by rw [hm]; exact nofun) rfl
  obtain ⟨-, -, hpark⟩ := giveOutcome_recorded o .snow hw
  obtain ⟨-, -, -, -, -, -, -, -, hstats, -⟩ := setMotion_rest (s.giveOutcome i o) i .parked
  refine ⟨hmotion, howner, hel, (park_of_spared (setMotion_spared ..) i).trans (hpark rfl), ?_⟩
  rw [hstats, giveOutcome_stats o hw, countOutcome, if_pos ho]

theorem parkReply_cases (hm : (s.stn i).motion = .slewing) (hw : (s.stn i).owner = some .snow) :
    (tk.motion = false → s.parkReply i st tk = s) ∧
    (tk.motion = true → s.park i = some .moving →
      (st.el.phase.moving = true → s.parkReply i st tk = s) ∧
      (st.el.phase.moving = false → ((s.parkReply i st tk).cab i).motion = some .brake ∧
        (s.parkReply i st tk).park i = some .braking ∧ (s.parkReply i st tk).stn i = s.stn i)) ∧
    (tk.motion = true → s.park i = some .braking →
      (st.braked = false → s.parkReply i st tk = s) ∧
      (st.braked = true → ((s.parkReply i st tk).stn i).motion = .parked ∧
        ((s.parkReply i st tk).stn i).owner = none ∧ ((s.parkReply i st tk).stn i).el.target = none ∧
        (s.parkReply i st tk).park i = none ∧
        (s.parkReply i st tk).stats.stn.get i =
          { s.stats.stn.get i with arrivals := bump (s.stats.stn.get i).arrivals })) := by
  refine ⟨parkReply_untaken, fun hk hp => ?_, fun hk hp => ?_⟩
  · rw [parkReply_moving hm hw hk hp]
    refine ⟨fun moving => if_pos moving, fun still => ?_⟩
    simp only [still, Bool.false_eq_true, if_false]
    exact parkBrake_effect
  · rw [parkReply_braking hm hw hk hp]
    refine ⟨fun unbraked => by simp only [unbraked, Bool.false_eq_true, if_false], fun braked => ?_⟩
    rw [if_pos braked]
    exact parked_effect (by split <;> rfl) hm hw

end Park

/-! ### The whole (R4, R5, R16, R111, R141) -/

/-- A motion under way that is stopped. -/
theorem stopMoving_effect (s : State) (i : Stn) (o : MoveOutcome) (h : (s.stn i).motion = .slewing ∨ (s.stn i).motion = .stowing) :
    ((s.stopMoving i o).stn i).motion = .stopping ∧ ((s.stopMoving i o).stn i).owner = none ∧
    ((s.stopMoving i o).stn i).az.target = none ∧ ((s.stopMoving i o).stn i).el.target = none ∧
    ((s.stopMoving i o).cab i).motion = some .stop ∧
    ((s.stopMoving i o).motionGrant i).amount = (s.motionGrant i).amount ∧
    ((s.stopMoving i o).motionGrant i).awaiting = false ∧
    (∀ j, j ≠ i → (s.stopMoving i o).stn j = s.stn j ∧ (s.stopMoving i o).cab j = s.cab j) := by
  have moving : (s.stn i).motion.isMoving = true := by obtain h | h := h <;> rw [h] <;> rfl
  have other : (s.stn i).motion ≠ .stopping := by obtain h | h := h <;> rw [h] <;> exact nofun
  obtain ⟨hmotion, howner, haz, hel⟩ := halted_stn s i o .stop other
  obtain ⟨hamount, hawaiting⟩ := halted_grant s i o .stop moving
  exact ⟨hmotion, howner, haz, hel, halted_slot s i o .stop, hamount, hawaiting,
    fun j hj => others_of_view (stopMoving_view s i o) hj⟩

/-- A waiting motion of a group that is withdrawn. -/
theorem withdrawWaiting_effect (s : State) (i : Stn) (o : MoveOutcome) (p : Posture) (n : Nat) (hm : (s.stn i).motion = .admitting)
    (hp : (s.stn i).posture = some p) (hw : (s.stn i).owner = some (.group n)) :
    ((s.withdrawWaiting i o).stn i).motion = p.motion ∧ ((s.withdrawWaiting i o).stn i).owner = none ∧
    ((s.withdrawWaiting i o).stn i).posture = none ∧ (s.withdrawWaiting i o).bus = s.bus ∧
    (∀ e ∈ (s.withdrawWaiting i o).power.list, ∀ g ps, e.body = .motion g ps → ∀ q ∈ ps, q.station ≠ i) ∧
    (s.withdrawWaiting i o).power.motion = s.power.motion ∧
    (∀ j, j ≠ i → (s.withdrawWaiting i o).stn j = s.stn j) := by
  obtain ⟨hmotion, howner, hposture, hbus, hlist, hgrants⟩ := withdrawWaiting_group s i o hm hp hw
  exact ⟨hmotion, howner, hposture, hbus, hlist ▸ leaveMotion_absent s i, hgrants,
    fun j hj => (others_of_view (withdrawWaiting_view s i o) hj).1⟩

/-- What an outcome leaves with its owner and its counter. -/
theorem giveOutcome_effect (s : State) (i : Stn) (o : MoveOutcome) (w : Owner) (h : (s.stn i).owner = some w) :
    (s.giveOutcome i o).stats.stn.get i = countOutcome o (s.stats.stn.get i) ∧
    (∀ n, w = .group n → (s.giveOutcome i o).sched.groups =
      s.sched.groups.map fun g => if g.number = n then g.record i o else g) ∧
    (∀ n, w = .steer n → (s.giveOutcome i o).oper.steers =
      s.oper.steers.map fun t => if t.number = n then t.record o else t) ∧
    (w = .stow → ∀ e, s.entry? i = some e → (s.giveOutcome i o).entry? i =
      some { e with status := interruptedStatus o e.status, outcome := some o, noPin := false, stowDur := none }) ∧
    (w = .stow → ∀ e c, s.entry? i = some e → (s.cab i).motion = some c →
      ((s.giveOutcome i o).cab i).motion =
        if (e.status = .moving ∧ c.isMove = true) ∨ (e.status = .braking ∧ c = .brake) then none else some c) ∧
    (w = .stow → ((s.cab i).motion = none → ((s.giveOutcome i o).cab i).motion = none) ∧
      ((s.giveOutcome i o).cab i).pin = if (s.cab i).pin = some .pinIn then none else (s.cab i).pin) ∧
    (w = .snow → (s.giveOutcome i o).park i = none) := by
  obtain ⟨group, steer, snow⟩ := giveOutcome_recorded o w h
  refine ⟨giveOutcome_stats o h, group, steer, ?_, ?_, ?_, snow⟩
  · rintro rfl e he
    exact giveOutcome_stow_entry? o h he
  · rintro rfl e c he hc
    exact giveOutcome_stow_motion o h he hc
  · rintro rfl
    exact giveOutcome_stow_slots o h

/-- Settles O29, an ended motion at a time: stopped, withdrawn, its outcome recorded and counted, arrived, parked. -/
theorem endedMotionsComeToRest : Obligations.EndedMotionsComeToRest := by
  refine ⟨stopMoving_effect, withdrawWaiting_effect, ended_records, giveOutcome_effect, record_members, steer_record_outcome,
    countOutcome_eq, fun _ _ _ _ _ _ _ => stationRemote_slewing, fun s i => mem_movedAxes (s.stn i), fun s i st hm => ?_,
    fun _ _ _ _ => parkReply_cases⟩
  obtain ⟨moving, holding, braked⟩ := judgeArrival_cases (st := st) hm
  exact ⟨moving, holding, braked, judgeArrival_ended hm⟩

end Sys2Proof.Machine

/-! # The slew planner (O22, O23) -/

namespace Sys2Proof.Machine

/-! ### The integer square root -/

/-- Each bit of the search halves the interval that holds the root. -/
theorem sqrtFrom_spec {n b r : Nat} (low : r * r ≤ n) (high : n < (r + 2 ^ (b + 1)) * (r + 2 ^ (b + 1))) :
    sqrtFrom n b r * sqrtFrom n b r ≤ n ∧ n < (sqrtFrom n b r + 1) * (sqrtFrom n b r + 1) := by
  induction b generalizing r with
  | zero =>
    unfold sqrtFrom
    split
    next taken => exact ⟨taken, high⟩
    next left => exact ⟨low, Nat.lt_of_not_le left⟩
  | succ b ih =>
    unfold sqrtFrom
    dsimp only
    split
    next taken => exact ih taken (by rwa [Nat.add_assoc, ← Nat.two_mul, ← Nat.pow_succ'])
    next left => exact ih low (Nat.lt_of_not_le left)

/-- The search starts above the root: the square of the first bit exceeds every number of that many bits. -/
theorem lt_sq_of_log2 (n : Nat) : n < 2 ^ (n.log2 / 2 + 1 + 1) * 2 ^ (n.log2 / 2 + 1 + 1) :=
  calc n < 2 ^ (n.log2 + 1) := Nat.lt_log2_self
    _ ≤ 2 ^ (n.log2 / 2 + 1 + 1 + (n.log2 / 2 + 1 + 1)) := Nat.pow_le_pow_right (by decide) (by omega)
    _ = _ := Nat.pow_add ..

/-- The rounded root is the least number whose square covers n. -/
theorem ceilSqrt_le_iff (n t : Nat) : ceilSqrt n ≤ t ↔ n ≤ t * t := by
  have floor := sqrtFrom_spec (n := n) (b := n.log2 / 2 + 1) (r := 0) (Nat.zero_le n)
    (by simpa only [Nat.zero_add] using lt_sq_of_log2 n)
  unfold ceilSqrt
  generalize sqrtFrom n (n.log2 / 2 + 1) 0 = r at floor ⊢
  obtain ⟨low, high⟩ := floor
  dsimp only
  split
  next short =>
    refine ⟨fun h => (Nat.le_of_lt high).trans (Nat.mul_self_le_mul_self h), fun h => ?_⟩
    exact Nat.mul_self_lt_mul_self_iff.mp (short.trans_le h)
  next covers =>
    obtain rfl : r * r = n := Nat.le_antisymm low (Nat.le_of_not_lt covers)
    exact Nat.mul_self_le_mul_self_iff.symm

/-! ### Durations (R29, R32) -/

theorem duration_trapezoid {d v a : Nat} (hv : 0 < v) (ha : 0 < a) (h : v * v ≤ d * a) (t : Nat) :
    duration d v a ≤ t ↔ 1000 * (d * a + v * v) ≤ t * (v * a) := by
  rw [duration, if_pos h, ceilDiv_le_iff (Nat.mul_pos hv ha)]

theorem duration_triangle {d v a : Nat} (ha : 0 < a) (h : d * a < v * v) (t : Nat) :
    duration d v a ≤ t ↔ 4000000 * d ≤ t * t * a := by
  rw [duration, if_neg (Nat.not_le_of_lt h), ceilSqrt_le_iff, ceilDiv_le_iff ha]

/-- An axis at its target is not moved (R29). -/
theorem planAxis_rest (c : Params) (x : Axis) (g : Stage) (cap : Option Nat) (p : Int) :
    planAxis c x g cap p p = { start := p, dist := 0, move := none } := by
  simp only [planAxis, Int.sub_self, Int.natAbs_zero, if_true]

/-- A moved axis (R31 to R33). -/
theorem planAxis_move (c : Params) (x : Axis) (g : Stage) (cap : Option Nat) {p q : Int} (h : p ≠ q) :
    planAxis c x g cap p q =
      { start := p, dist := (q - p).natAbs,
        move := some { target := q, vel := velocity (c.vmax x) cap (c.derate.at g), acc := c.amax x,
                       dur := duration (q - p).natAbs (velocity (c.vmax x) cap (c.derate.at g)) (c.amax x),
                       prices := pricesOf c.phaseP x (c.surcharge.at g) } } :=
  if_neg (by omega)

theorem planAxis_dur (c : Params) (x : Axis) (g : Stage) (cap : Option Nat) (p q : Int) :
    (planAxis c x g cap p q).dur =
      if p = q then 0 else duration (q - p).natAbs (velocity (c.vmax x) cap (c.derate.at g)) (c.amax x) := by
  split
  next h => rw [h, planAxis_rest]; rfl
  next h => rw [planAxis_move c x g cap h]; rfl

theorem stowDur_motion {e : Entry} {g : Bool} {p : Plan} {ps : List Plan} (h : e.body = .motion g (p :: ps)) :
    e.stowDur = p.duration := by
  simp only [Entry.stowDur, Entry.firstPlan, h, List.head?_cons]

/-- Settles O22: a rounded quotient and a rounded root are each the least that covers the profile. -/
theorem durationIsLeastWholeTime : Obligations.DurationIsLeastWholeTime :=
  ⟨fun _ _ _ _ hv ha => ⟨duration_trapezoid hv ha, duration_triangle ha⟩, fun _ _ _ _ _ _ _ _ _ _ => rfl,
    planAxis_dur, fun _ _ _ _ => stowDur_motion⟩

/-! ### The wrap of a sky azimuth (R28) -/

/-- The order of R28 on candidates: distance from the start, then magnitude, then sign. -/
theorem wrapBefore_iff (start a b : Int) : wrapBefore start a b = true ↔
    (a - start).natAbs ≤ (b - start).natAbs ∧
      ((a - start).natAbs = (b - start).natAbs → a.natAbs ≤ b.natAbs ∧ (a.natAbs = b.natAbs → b ≤ a)) := by
  unfold wrapBefore
  dsimp only
  split
  next apart => rw [decide_eq_true_iff]; omega
  next level =>
    split
    next larger => rw [decide_eq_true_iff]; omega
    next equal => rw [decide_eq_true_iff]; omega

theorem wrapBefore_refl (start a : Int) : wrapBefore start a a = true := by
  rw [wrapBefore_iff]; omega

theorem wrapBefore_total {start a b : Int} (h : ¬ wrapBefore start a b = true) : wrapBefore start b a = true := by
  rw [wrapBefore_iff] at *; omega

/-- Two turns suffice: within limits of at most 270 degrees either way no other turn of a sky azimuth lies (R22, R25). -/
theorem mem_wrapCandidates {c : Params} {sky : Int} (h0 : 0 ≤ sky) (h1 : sky ≤ 359999) (hmin : -270000 ≤ c.azMin)
    (hmax : c.azMax ≤ 270000) (a : Int) :
    a ∈ wrapCandidates c sky ↔ (∃ k : Int, a = sky + k * 360000) ∧ c.azMin ≤ a ∧ a ≤ c.azMax := by
  simp only [wrapCandidates, List.mem_filter, List.mem_cons, List.not_mem_nil, or_false, Bool.and_eq_true, decide_eq_true_iff]
  refine and_congr_left fun ⟨low, high⟩ => ⟨?_, ?_⟩
  · rintro (rfl | rfl)
    · exact ⟨0, by omega⟩
    · exact ⟨-1, by omega⟩
  · rintro ⟨k, rfl⟩
    omega

theorem chooseWrap_eq_none {c : Params} {start sky : Int} : chooseWrap c start sky = none ↔ wrapCandidates c sky = [] := by
  unfold chooseWrap
  split <;> simp_all

/-- The choice is a candidate that comes before every other. -/
theorem chooseWrap_first {c : Params} {start sky a : Int} (h : chooseWrap c start sky = some a) :
    a ∈ wrapCandidates c sky ∧ ∀ b ∈ wrapCandidates c sky, wrapBefore start a b = true := by
  have two : (wrapCandidates c sky).length ≤ 2 := List.length_filter_le ..
  unfold chooseWrap at h
  split at h
  case h_1 => cases h
  case h_2 one =>
    cases h
    simp only [one, List.mem_singleton, forall_eq, wrapBefore_refl, and_self]
  case h_3 x y rest cands =>
    obtain rfl : rest = [] := by simpa [cands] using two
    obtain rfl := Option.some.inj h
    rw [cands]
    split
    next first => simp [first, wrapBefore_refl]
    next second => simp [wrapBefore_total second, wrapBefore_refl]

theorem targetAz_nearest {c : Params} {t : Target} (h : t.wrap = .nearest) (start : Int) :
    targetAz c start t = chooseWrap c start t.az := by
  simp only [targetAz, h]

/-! ### What a re-plan keeps (R36) -/

theorem planOrdinary_none {c : Params} {start : Int} {t : Target} (h : targetAz c start t = none) (i : Stn) (g : Stage)
    (el : Int) (cap : Option Nat) : planOrdinary c i g start el t cap = none := by
  unfold planOrdinary
  split
  next => rw [h, Option.map_none]
  next => rfl

theorem planOrdinary_some {c : Params} {start a : Int} {t : Target} (h : targetAz c start t = some a) (low : c.elLo ≤ t.el)
    (high : t.el ≤ c.elHi) (i : Stn) (g : Stage) (el : Int) (cap : Option Nat) :
    planOrdinary c i g start el t cap = some (makePlan c i .ordinary (some t.wrap) cap g start a el t.el) := by
  rw [planOrdinary, if_pos ⟨low, high⟩, h, Option.map_some]

theorem planAxis_ends (c : Params) (x : Axis) (g : Stage) (cap : Option Nat) (p q : Int) :
    (planAxis c x g cap p q).start = p ∧ (planAxis c x g cap p q).dist = (q - p).natAbs ∧
      (q ≠ p → (planAxis c x g cap p q).move.map (·.target) = some q) := by
  by_cases h : p = q
  · subst h
    rw [planAxis_rest]
    exact ⟨rfl, by simp, absurd rfl⟩
  · rw [planAxis_move c x g cap h]
    exact ⟨rfl, rfl, fun _ => rfl⟩

theorem replanAxis_keeps (c : Params) (x : Axis) (g : Stage) (cap : Option Nat) (a : AxisPlan) :
    (replanAxis c x g cap a).move.map (·.target) = a.move.map (·.target) ∧ (replanAxis c x g cap a).start = a.start ∧
      (replanAxis c x g cap a).dist = a.dist := by
  unfold replanAxis
  split
  next => exact ⟨rfl, rfl, rfl⟩
  next m moved => exact ⟨by rw [moved]; rfl, rfl, rfl⟩

/-- Settles O23: the choice is the first candidate by R28, and the candidates are the turns within the limits. -/
theorem nearestWrapIsChosenOnce : Obligations.NearestWrapIsChosenOnce := by
  unfold Obligations.NearestWrapIsChosenOnce
  intro c start t nearest h0 h1 hmin hmax
  have candidate := mem_wrapCandidates h0 h1 hmin hmax
  refine ⟨?_, fun a ha => ?_, fun i g el cap h => planOrdinary_none h i g el cap, fun i g el cap a ha low high => ?_⟩
  · rw [targetAz_nearest nearest, chooseWrap_eq_none, List.eq_nil_iff_forall_not_mem]
    refine ⟨fun h k within => h _ ((candidate _).mpr ⟨⟨k, rfl⟩, within⟩), fun h b hb => ?_⟩
    obtain ⟨⟨k, rfl⟩, within⟩ := (candidate b).mp hb
    exact h k within
  · rw [targetAz_nearest nearest] at ha
    obtain ⟨chosen, first⟩ := chooseWrap_first ha
    obtain ⟨turn, low, high⟩ := (candidate a).mp chosen
    exact ⟨turn, low, high, fun k klow khigh =>
      (wrapBefore_iff ..).mp (first _ ((candidate _).mpr ⟨⟨k, rfl⟩, klow, khigh⟩))⟩
  · obtain ⟨hstart, hdist, htarget⟩ := planAxis_ends c .az g cap start a
    exact ⟨_, planOrdinary_some ha low high i g el cap, hstart, hdist, htarget, fun c' g' => replanAxis_keeps c' .az g' cap _⟩

end Sys2Proof.Machine

/-! # Replies lower grants (O35) -/

namespace Sys2Proof.Machine

/-! ### Amounts and prices (R33, R63) -/

theorem setAmount_zero_cls (g : Grant) : (g.setAmount 0).cls = none := rfl

theorem setAmount_of_ne_zero (g : Grant) {n : Nat} (h : n ≠ 0) : g.setAmount n = { g with amount := n } := if_neg h

/-- A dish braked on both axes costs nothing. -/
theorem phaseSum_braked (q : PhaseParams) (u : Nat) : phaseSum q u .braked .braked = 0 := by
  simp [phaseSum, phasePrice, PhaseParams.of, ceilDiv]

/-! ### The fall of a motion grant (R66) -/

/-- The grants that no reply lowers (R66, R67, R80). -/
def Grant.exempt (g : Grant) : Prop := g.hold = .frozen ∨ g.localRes = true ∨ g.awaiting = true

section Lower
variable {s : State} {i : Stn} {st : CabStatus}

theorem lowerMotion_exempt (h : (s.motionGrant i).exempt) : (s.lowerMotion i st).motionGrant i = s.motionGrant i := by
  rw [State.lowerMotion, modMotionGrant_motionGrant_same]
  exact if_pos h

theorem lowerMotion_lowers (h : ¬ (s.motionGrant i).exempt) :
    (s.lowerMotion i st).motionGrant i = (s.motionGrant i).setAmount (min (s.motionGrant i).amount
      (phaseSum ((s.motionGrant i).pricedFrom s.cfg) ((s.motionGrant i).surcharge.getD s.surchargeNow) st.az.phase st.el.phase)) := by
  rw [State.lowerMotion, modMotionGrant_motionGrant_same]
  exact if_neg h

/-- What a reply can do to a motion grant: nothing, or set a lower amount. -/
theorem lowerMotion_cases : (s.lowerMotion i st).motionGrant i = s.motionGrant i ∨
    ∃ n ≤ (s.motionGrant i).amount, (s.lowerMotion i st).motionGrant i = (s.motionGrant i).setAmount n := by
  by_cases h : (s.motionGrant i).exempt
  · exact .inl (lowerMotion_exempt h)
  · exact .inr ⟨_, Nat.min_le_left .., lowerMotion_lowers h⟩

theorem lowerMotion_amount_le : ((s.lowerMotion i st).motionGrant i).amount ≤ (s.motionGrant i).amount := by
  obtain same | ⟨n, hn, lowered⟩ := lowerMotion_cases (s := s) (i := i) (st := st)
  · rw [same]
  · rwa [lowered, setAmount_amount]

theorem lowerMotion_keeps_prices (h : ((s.lowerMotion i st).motionGrant i).amount ≠ 0) :
    ((s.lowerMotion i st).motionGrant i).phaseP = (s.motionGrant i).phaseP ∧
      ((s.lowerMotion i st).motionGrant i).surcharge = (s.motionGrant i).surcharge := by
  obtain same | ⟨n, -, lowered⟩ := lowerMotion_cases (s := s) (i := i) (st := st)
  · rw [same]
    exact ⟨rfl, rfl⟩
  · rw [lowered, setAmount_amount] at h
    rw [lowered, setAmount_of_ne_zero _ h]
    exact ⟨rfl, rfl⟩

theorem lowerMotion_braked (b : st.braked = true) (h : ¬ (s.motionGrant i).exempt) :
    ((s.lowerMotion i st).motionGrant i).amount = 0 ∧ ((s.lowerMotion i st).motionGrant i).cls = none := by
  obtain ⟨haz, hel⟩ := (braked_iff st).mp b
  rw [lowerMotion_lowers h, haz, hel, phaseSum_braked, Nat.min_zero]
  exact ⟨setAmount_amount .., setAmount_zero_cls _⟩

end Lower

/-- Settles O35, from what a reply does to a grant that is exempt and to one that is not. -/
theorem repliesLowerGrants : Obligations.RepliesLowerGrants := by
  refine ⟨fun s i st => ⟨lowerMotion_amount_le, lowerMotion_exempt, fun h => ⟨fun u hu => ?_, lowerMotion_keeps_prices⟩,
      lowerMotion_braked, fun j hj => modMotionGrant_motionGrant_ne s _ hj⟩,
    fun c i k w cap v a0 a1 e0 e1 g cl q c' h => admitted_pricedFrom g cl q _ c' h, fun g c => ⟨fun q hq => ?_, fun hq => ?_⟩,
    fun _ _ _ _ => rfl⟩
  · rw [lowerMotion_lowers h, setAmount_amount, hu, Option.getD_some]
  · rw [Grant.pricedFrom, hq, Option.getD_some]
  · rw [Grant.pricedFrom, hq, Option.getD_none]

end Sys2Proof.Machine

/-! # SET and GET (O54)

A SET writes one place of the configuration table, and R190 names each place by a number and an index. So the table is read here as
rows of values, by number and then by index: a write rewrites one value of one row, and the other parameters stand elsewhere. -/

namespace Sys2Proof.Machine

/-! ### The places of the table (R182, R190) -/

/-- The index that names a parameter beside its number (R190). -/
def Param.index : Param → Nat
  | .derate g | .surcharge g | .floor g => g.ctorIdx
  | .riseMean u | .riseGust u | .fallMean u | .fallGust u | .dwell u => u.ctorIdx + 1
  | .dutyBase k => k.ctorIdx
  | _ => 0

/-- Parameters are numbered from 1 in the order of the gathered table. -/
theorem itemOf_place (p : Param) : itemOf (p.ctorIdx + 1) p.index = some (.param p) := by
  cases p with
  | derate g | surcharge g | floor g => cases g <;> rfl
  | riseMean u | riseGust u | fallMean u | fallGust u | dwell u => cases u <;> rfl
  | dutyBase k => cases k <;> rfl
  | _ => rfl

theorem eq_of_place {p q : Param} (number : p.ctorIdx = q.ctorIdx) (index : p.index = q.index) : p = q := by
  have named := itemOf_place p
  rw [number, index, itemOf_place q, Option.some_inj, Item.param.injEq] at named
  exact named.symm

/-- The row of a parameter that has one value. -/
def plainRow (v : Int) : List Int := [v]

/-- The values for the wind stages. -/
def ByStage.row (v : ByStage) : List Int := [v.calm, v.breezy, v.high, v.stow]

/-- The values for the upper stages, which index 0 does not name. -/
def Levels.row (v : Levels) : List Int := [0, v.breezy, v.high, v.stow]

/-- The values for the precipitation classes. -/
def ByClass.row (v : ByClass) : List Int := [v.dry, v.light, v.moderate, v.heavy]

/-- The values of the table by number, each row by index. -/
def Params.rows (c : Params) : List (List Int) :=
  [plainRow c.arriveTol, plainRow c.azMin, plainRow c.azMax, plainRow c.elLo, plainRow c.elHi, plainRow c.azVmax,
    plainRow c.elVmax, plainRow c.azAmax, plainRow c.elAmax, plainRow c.snowEl, c.derate.row, c.surcharge.row,
    plainRow c.azAccelP, plainRow c.azRunP, plainRow c.azHoldP, plainRow c.elAccelP, plainRow c.elRunP, plainRow c.elHoldP,
    plainRow c.feedCap, plainRow c.stowReserve, plainRow c.heatFloor, plainRow c.localP, plainRow c.heatPriority,
    c.floor.row, c.riseMean.row, c.riseGust.row, c.fallMean.row, c.fallGust.row, c.dwell.row, plainRow c.meanSpan,
    plainRow c.gustSpan, plainRow c.mastSilence, plainRow c.minMasts, plainRow c.mastEnable.toNat, plainRow c.stowDeadline,
    plainRow (if c.autoSnow then 1 else 0), plainRow c.snowClass, plainRow c.snowTemp, plainRow c.snowClear,
    plainRow c.surfSet, plainRow c.heatGain, c.dutyBase.row, plainRow c.stowedBonus, plainRow c.dutyMin, plainRow c.dutyMax,
    plainRow c.heatPeriod, plainRow c.heaterP, plainRow c.snowIdle, plainRow c.panelSilence, plainRow c.warnTime,
    plainRow c.replyTimeout, plainRow c.missLimit, plainRow c.pauseAt, plainRow c.goAt, plainRow c.maskS.toNat,
    plainRow c.maskO.toNat]

theorem get_eq_rows (c : Params) (p : Param) : c.get p = ((c.rows[p.ctorIdx]?).bind (·[p.index]?)).getD 0 := by
  cases p with
  | derate g | surcharge g | floor g => cases g <;> rfl
  | riseMean u | riseGust u | fallMean u | fallGust u | dwell u => cases u <;> rfl
  | dutyBase k => cases k <;> rfl
  | _ => rfl

/-- A write rewrites the value at the place of its parameter. -/
theorem rows_put (c : Params) (p : Param) (v : Int) :
    (c.put p v).rows = c.rows.modify p.ctorIdx (·.set p.index ((c.put p v).get p)) := by
  unfold Params.put
  cases p with
  | derate g | surcharge g | floor g => cases g <;> dsimp only <;> rfl
  | riseMean u | riseGust u | fallMean u | fallGust u | dwell u => cases u <;> dsimp only <;> rfl
  | dutyBase k => cases k <;> dsimp only <;> rfl
  | _ => dsimp only; rfl

theorem get_put_ne (c : Params) {p q : Param} (v : Int) (h : q ≠ p) : (c.put p v).get q = c.get q := by
  rw [get_eq_rows, get_eq_rows, rows_put, List.getElem?_modify]
  by_cases number : p.ctorIdx = q.ctorIdx
  · have index : p.index ≠ q.index := fun index => h (eq_of_place number index).symm
    simp [number, Option.bind_map, List.getElem?_set_ne index]
  · simp [number]

/-! ### Values in range (R181, R182) -/

/-- The value lies in the range of the parameter. -/
def Param.admits (p : Param) (v : Int) : Prop := p.range.1 ≤ v ∧ v ≤ p.range.2

theorem ByStage.at_put_same (v : ByStage) (n : Nat) (g : Stage) : (v.put n g).at g = n := by cases g <;> rfl
theorem Levels.at_put_same (v : Levels) (n : Nat) (u : UpStage) : (v.put n u).at u = n := by cases u <;> rfl
theorem ByClass.at_put_same (v : ByClass) (n : Nat) (k : PrecipClass) : (v.put n k).at k = n := by cases k <;> rfl

/-- A parameter reads the value written, if that lies in its range. -/
theorem get_put_same (c : Params) {p : Param} {v : Int} (h : p.admits v) : (c.put p v).get p = v := by
  obtain ⟨low, high⟩ := h
  cases p with
  | azMin | azMax | elLo | elHi | snowEl | snowTemp | surfSet => rfl
  | derate g | surcharge g | floor g =>
    exact (congrArg Nat.cast (ByStage.at_put_same ..)).trans (Int.toNat_of_nonneg (by simp only [Param.range] at low; omega))
  | riseMean u | riseGust u | fallMean u | fallGust u | dwell u =>
    exact (congrArg Nat.cast (Levels.at_put_same ..)).trans (Int.toNat_of_nonneg (by simp only [Param.range] at low; omega))
  | dutyBase k => exact (congrArg Nat.cast (ByClass.at_put_same ..)).trans (Int.toNat_of_nonneg low)
  | mastEnable | maskS | maskO =>
    simp only [Param.range] at low high
    simp only [Params.put, Params.get, BitVec.toNat_ofNat]
    omega
  | autoSnow =>
    simp only [Param.range] at low high
    obtain rfl | rfl : v = 0 ∨ v = 1 := by omega
    · rfl
    · rfl
  | _ => exact Int.toNat_of_nonneg (le_trans (by decide) low)

theorem clampInt_mem {r : Int × Int} (h : r.1 ≤ r.2) (v : Int) : r.1 ≤ clampInt r v ∧ clampInt r v ≤ r.2 :=
  ⟨le_max_left .., max_le h (min_le_left ..)⟩

theorem clampInt_admits (p : Param) (v : Int) : p.admits (clampInt p.range v) := by
  obtain ⟨low, high⟩ := default_inRange p
  exact clampInt_mem (low.trans high) v

/-- A SET takes a value in range; the two dependent ends lie in range with the parameters they depend on. -/
theorem taken_admits {c : Params} (h : ∀ p : Param, p.admits (c.get p)) (p : Param) (v : Int) : p.admits (c.taken p v) := by
  unfold Params.taken
  split
  case h_1 | h_2 | h_3 => simp only [Param.admits, Param.range]; omega
  case h_4 => split <;> exact ⟨by decide, by decide⟩
  case h_5 =>
    have pause := h .pauseAt
    simp only [Param.admits, Param.range, Params.get] at pause ⊢
    obtain ⟨low, high⟩ := clampInt_mem (r := (0, (c.pauseAt : Int) - 1)) (by simp only; omega) v
    exact ⟨low, high.trans (by simp only; omega)⟩
  case h_6 u =>
    have rise := h (.riseMean u)
    obtain ⟨low, high⟩ := clampInt_admits (.fallMean u) v
    simp only [Param.admits, Param.range, Params.get] at rise low high ⊢
    omega
  case h_7 u =>
    have rise := h (.riseGust u)
    obtain ⟨low, high⟩ := clampInt_admits (.fallGust u) v
    simp only [Param.admits, Param.range, Params.get] at rise low high ⊢
    omega
  case h_8 => exact clampInt_admits ..

/-! ### The dependent parameter (R99, R181) -/

/-- The pairs of a parameter and the one that a SET of it may lower. -/
def Param.lowers (p q : Param) : Prop :=
  (p = .pauseAt ∧ q = .goAt) ∨ (∃ u, p = .riseMean u ∧ q = .fallMean u) ∨ ∃ u, p = .riseGust u ∧ q = .fallGust u

theorem dependent_iff (p : Param) (t : Int) (q : Param) (top : Int) :
    p.dependent t = some (q, top) ↔ top = t - 1 ∧ p.lowers q := by
  unfold Param.dependent Param.lowers
  split <;> simp_all [eq_comm, and_comm]

theorem lowered_iff_dependent (c : Params) (p : Param) (t : Int) (q : Param) (low : Int) :
    c.lowered p t = some (q, low) ↔ p.dependent t = some (q, low) ∧ low < c.get q := by
  unfold Params.lowered
  cases p.dependent t with
  | none => simp
  | some x =>
    obtain ⟨r, top⟩ := x
    dsimp only
    split
    next less =>
      refine ⟨fun e => ?_, And.left⟩
      cases e
      exact ⟨rfl, less⟩
    next enough =>
      refine ⟨nofun, fun ⟨e, less⟩ => ?_⟩
      cases e
      exact absurd less enough

theorem lowered_iff (c : Params) (p : Param) (t : Int) (q : Param) (low : Int) :
    c.lowered p t = some (q, low) ↔ low = t - 1 ∧ low < c.get q ∧ p.lowers q := by
  rw [lowered_iff_dependent, dependent_iff, and_assoc, and_comm (a := p.lowers q)]

theorem Param.lowers.ne {p q : Param} (h : p.lowers q) : p ≠ q := by
  obtain ⟨rfl, rfl⟩ | ⟨u, rfl, rfl⟩ | ⟨u, rfl, rfl⟩ := h <;> exact nofun

/-- What lies one below a value in range lies in range of the dependent parameter. -/
theorem Param.lowers.admits {p q : Param} (h : p.lowers q) {t : Int} (ht : p.admits t) : q.admits (t - 1) := by
  obtain ⟨rfl, rfl⟩ | ⟨u, rfl, rfl⟩ | ⟨u, rfl, rfl⟩ := h <;> simp only [Param.admits, Param.range] at ht ⊢ <;> omega

/-! ### The table that a SET leaves (R181) -/

section Assign
variable {c : Params} {p q : Param} {t low : Int}

theorem assign_lowered (h : c.lowered p t = some (q, low)) : c.assign p t = (c.put p t).put q low := by
  simp only [Params.assign, h]

theorem assign_alone (h : c.lowered p t = none) : c.assign p t = c.put p t := by
  simp only [Params.assign, h]

/-- The parameter reads the value taken: its dependent one is another. -/
theorem assign_get_same (ht : p.admits t) : (c.assign p t).get p = t := by
  cases h : c.lowered p t with
  | none => rw [assign_alone h, get_put_same c ht]
  | some x =>
    obtain ⟨q, low⟩ := x
    obtain ⟨-, -, pair⟩ := (lowered_iff ..).mp h
    rw [assign_lowered h, get_put_ne _ _ pair.ne, get_put_same c ht]

theorem assign_get_lowered (ht : p.admits t) (h : c.lowered p t = some (q, low)) : (c.assign p t).get q = low := by
  obtain ⟨rfl, -, pair⟩ := (lowered_iff ..).mp h
  rw [assign_lowered h, get_put_same _ (pair.admits ht)]

theorem assign_get_ne (hp : q ≠ p) (hq : ∀ low, c.lowered p t ≠ some (q, low)) : (c.assign p t).get q = c.get q := by
  cases h : c.lowered p t with
  | none => rw [assign_alone h, get_put_ne c t hp]
  | some x =>
    obtain ⟨r, low⟩ := x
    have other : q ≠ r := by
      rintro rfl
      exact hq low h
    rw [assign_lowered h, get_put_ne _ _ other, get_put_ne c t hp]

end Assign

/-! ### SET (R22, R87, R181) -/

@[simp] theorem openRequest_cfg (s : State) (l : Link) (f : Frame) : (s.openRequest l f).cfg = s.cfg := modLink_cfg ..

@[simp] theorem openRequest_anyBusy (s : State) (l : Link) (f : Frame) : (s.openRequest l f).anyBusy = s.anyBusy := by
  simp only [State.anyBusy, openRequest_stn]

section Handler
variable {s : State} {b : List Byte} {num idx : Nat} {v : Int} {p : Param}

theorem takeSet_taken (ha : setParamArgs b = some (num, idx, v)) (hi : itemOf num idx = some (.param p))
    (free : p.isLimit = false ∨ s.anyBusy = false) (masts : p ≠ .mastEnable ∨ s.cfg.taken p v ≠ 0) :
    takeSet s b = s.setTaken num idx p (s.cfg.taken p v) := by
  simp only [takeSet, ha, hi]
  rw [if_neg (by simpa only [Bool.and_eq_true, not_and_or, Bool.not_eq_true] using free), if_neg (not_and_or.mpr masts)]

theorem takeSet_busy (ha : setParamArgs b = some (num, idx, v)) (hi : itemOf num idx = some (.param p)) (limit : p.isLimit = true)
    (busy : s.anyBusy = true) : takeSet s b = s.refuse .state := by
  simp only [takeSet, ha, hi, limit, busy, Bool.and_self, if_true]

theorem takeSet_noMast (ha : setParamArgs b = some (num, idx, v)) (hi : itemOf num idx = some (.param .mastEnable))
    (empty : s.cfg.taken .mastEnable v = 0) : takeSet s b = s.refuse .badArg := by
  simp only [takeSet, ha, hi, empty, Param.isLimit, Bool.false_and, Bool.false_eq_true, if_false, and_self, if_true]

/-- A SET names a parameter, not a read-only item and not an unknown name. -/
theorem takeSet_noParam (ha : setParamArgs b = some (num, idx, v)) (hi : ∀ p, itemOf num idx ≠ some (.param p)) :
    takeSet s b = s.refuse .badArg := by
  rw [takeSet, ha]
  dsimp only
  split
  next q hq => exact absurd hq (hi q)
  next => rfl

theorem takeSet_malformed (ha : setParamArgs b = none) : takeSet s b = s.refuse .badArg := by
  simp only [takeSet, ha]

theorem setTaken_code (s : State) (num idx : Nat) (p : Param) (t : Int) :
    (s.setTaken num idx p t).code = .done ∧ (s.setTaken num idx p t).force = p.reconsiders := ⟨rfl, rfl⟩

/-- The configuration after the owning rule has applied the parameter is the one that SET wrote. -/
theorem setTaken_cfg (s : State) (num idx : Nat) (p : Param) (t : Int) :
    (s.setTaken num idx p t).state.cfg = s.cfg.assign p t :=
  congrArg OwnedRecords.cfg (applyParam_owned ..)

end Handler

section SetCommand
variable {s : State} {f : Frame} {num idx : Nat} {v : Int} {p : Param}

theorem setParam_refused {c : Code} (h : Ready s .O f 0x1B) (hc : c ≠ .done)
    (refused : takeSet (s.openRequest .O f) f.payload = (s.openRequest .O f).refuse c) :
    exec .setParam s = .next (requestAnswered s .O f c []) := by
  refine congrArg Host.Outcome.next ((takeRequest_ready h takeSet).trans ?_)
  rw [refused]
  exact congrArg (fun t : State => t.answer .O f.kind c []) (if_neg hc)

theorem setParam_taken (h : Ready s .O f 0x1B) (ha : setParamArgs f.payload = some (num, idx, v))
    (hi : itemOf num idx = some (.param p)) (free : p.isLimit = false ∨ s.anyBusy = false)
    (masts : p ≠ .mastEnable ∨ s.cfg.taken p v ≠ 0) :
    exec .setParam s = .next ((settle p.reconsiders (s.openRequest .O f)
        ((s.openRequest .O f).setTaken num idx p (s.cfg.taken p v)).state).answer .O f.kind .done
      ((s.openRequest .O f).setTaken num idx p (s.cfg.taken p v)).data) := by
  have taken := takeSet_taken (s := s.openRequest .O f) ha hi (by rwa [openRequest_anyBusy]) (by rwa [openRequest_cfg])
  rw [openRequest_cfg] at taken
  obtain ⟨code, force⟩ := setTaken_code (s.openRequest .O f) num idx p (s.cfg.taken p v)
  refine congrArg Host.Outcome.next ((takeRequest_ready h takeSet).trans ?_)
  rw [taken, code, force, if_pos rfl]

/-- What follows a SET, and its reply, keep the configuration that it wrote. -/
theorem setParam_cfg (force : Bool) (kind : Byte) (c : Code) (d : List Byte) (t : Int) :
    ((settle force (s.openRequest .O f) ((s.openRequest .O f).setTaken num idx p t).state).answer .O kind c d).cfg =
      s.cfg.assign p t := by
  have kept : ((settle force (s.openRequest .O f) ((s.openRequest .O f).setTaken num idx p t).state).answer .O kind c d).owned =
      ((s.openRequest .O f).setTaken num idx p t).state.owned := by rw [answer_owned, settle_owned]
  have cfg := congrArg OwnedRecords.cfg kept
  simp only [State.owned, setTaken_cfg, openRequest_cfg] at cfg
  exact cfg

end SetCommand

/-! ### GET (R182) -/

@[simp] theorem itemValue_modLink (s : State) (l : Link) (g : LinkState → LinkState) (x : Item) :
    (s.modLink l g).itemValue x = s.itemValue x := by cases l <;> rfl

theorem answerGet_readsPastLinks : ReadsPastLinks answerGet := fun s l g b => by simp only [answerGet, itemValue_modLink]

theorem answerGet_three (s : State) (a b c : Byte) : answerGet s [a, b, c] =
    (itemOf (rd16 a b) c.toNat).elim (.badArg, []) fun x => (.done, s.itemValue x) := by
  unfold answerGet
  dsimp only
  cases itemOf (rd16 a b) c.toNat <;> rfl

theorem answerGet_malformed (s : State) {b : List Byte} (h : b.length ≠ 3) : answerGet s b = (.badArg, []) := by
  unfold answerGet
  split
  next => exact absurd rfl h
  next => rfl

section GetCommand
variable {s : State} {f : Frame} {a b c : Byte}

theorem getParam_answered {r : Code} {d : List Byte} (h : Ready s .O f 0x1C) (hr : answerGet s f.payload = (r, d)) :
    exec .getParam s = .next (requestAnswered s .O f r d) :=
  congrArg Host.Outcome.next (takeQuery_answered answerGet_readsPastLinks h hr)

theorem getParam_item {x : Item} (h : Ready s .O f 0x1C) (hp : f.payload = [a, b, c])
    (hx : itemOf (rd16 a b) c.toNat = some x) : exec .getParam s = .next (requestAnswered s .O f .done (s.itemValue x)) :=
  getParam_answered h (by rw [hp, answerGet_three, hx, Option.elim_some])

theorem getParam_unknown (h : Ready s .O f 0x1C) (hp : f.payload = [a, b, c]) (hx : itemOf (rd16 a b) c.toNat = none) :
    exec .getParam s = .next (requestAnswered s .O f .badArg []) :=
  getParam_answered h (by rw [hp, answerGet_three, hx, Option.elim_none])

end GetCommand

/-- Settles O54: SET is taken, or refused in one of four ways; GET is answered from the state before it. -/
theorem setAndGetParameters : Obligations.SetAndGetParameters := by
  unfold Obligations.SetAndGetParameters
  refine ⟨fun s f num idx v p h ha hi free masts => ?taken, lowered_iff,
    fun s f num idx v p h ha hi limit busy =>
      setParam_refused h nofun (takeSet_busy ha hi limit (by rwa [openRequest_anyBusy])),
    fun s f num idx v h ha hi empty => setParam_refused h nofun (takeSet_noMast ha hi (by rwa [openRequest_cfg])),
    fun s f num idx v h ha hi => setParam_refused h nofun (takeSet_noParam ha hi),
    fun s f h ha => setParam_refused h nofun (takeSet_malformed ha),
    fun s f a b c h hp => ⟨fun p => getParam_item h hp, getParam_item h hp, getParam_item h hp, getParam_item h hp,
      getParam_item h hp, getParam_unknown h hp⟩,
    fun s f h hl => getParam_answered h (answerGet_malformed s hl)⟩
  case taken =>
    have done := setParam_taken h ha hi free masts
    refine ⟨_, rfl, done, rfl, (setTaken_cfg ..).trans (by rw [openRequest_cfg]), _, done, setParam_cfg .., ?_⟩
    rw [setParam_cfg]
    refine ⟨fun ⟨inRange, _⟩ => ?_, fun q => assign_get_ne⟩
    have admitted := taken_admits inRange p v
    exact ⟨assign_get_same admitted, fun q low => assign_get_lowered admitted⟩

end Sys2Proof.Machine

/-! # The places of the queues (O5)

What the rules on places read of a state is its `Places`: the two control links, how many groups and steers stand in the queues, how many
samples in each ring, and the stations of the roster in its order. An operation that writes none of these leaves the places, which is an
equation that `simp` uses; one that writes them keeps both rules, which is said by `InPlaces`, in the order of the model's files. -/

namespace Sys2Proof.Machine

/-! ### One control link (R174 to R179) -/

/-- The rule of one control link: its FIFO and its report queue have their places, and at an idle transmitter nothing waits. -/
def LinkState.Ruled (k : LinkState) : Prop :=
  k.fifo.length ≤ fifoPlaces ∧ k.reportCount ≤ reportPlaces ∧ (k.sending = none → k.order = [])

theorem linkRule_iff (s : State) : LinkRule s ↔ s.linkS.Ruled ∧ s.linkO.Ruled :=
  ⟨fun h => ⟨h .S, h .O⟩, fun ⟨hS, hO⟩ l => match l with
    | .S => hS
    | .O => hO⟩

theorem LinkState.reportCount_eq (k : LinkState) :
    k.reportCount = k.sending.toList.countP (·.isReport) + k.order.countP (·.isReport) := List.countP_append

/-- A frame takes one place of the report queue where it is a report, whether it waits or begins at once. -/
theorem LinkState.placeTail_reportCount (k : LinkState) (f : Frame) :
    (k.placeTail f).reportCount = k.reportCount + [f].countP (·.isReport) := by
  cases hs : k.sending with
  | none => simp [LinkState.reportCount_eq, LinkState.placeTail, hs, add_comm]
  | some g => simp [LinkState.reportCount_eq, LinkState.placeTail, hs, add_assoc]

theorem LinkState.placeHead_reportCount (k : LinkState) (f : Frame) :
    (k.placeHead f).reportCount = k.reportCount + [f].countP (·.isReport) := by
  cases hs : k.sending with
  | none => simp [LinkState.reportCount_eq, LinkState.placeHead, hs, add_comm]
  | some g => simp [LinkState.reportCount_eq, LinkState.placeHead, hs, List.countP_cons, add_assoc]

@[simp] theorem LinkState.placeHead_fifo (k : LinkState) (f : Frame) : (k.placeHead f).fifo = k.fifo := by
  unfold LinkState.placeHead; split <;> rfl

/-- A placed frame is sent or waits behind one that is. -/
theorem LinkState.placeTail_busy (k : LinkState) (f : Frame) : (k.placeTail f).sending ≠ none := by
  unfold LinkState.placeTail; split <;> simp_all

theorem LinkState.placeHead_busy (k : LinkState) (f : Frame) : (k.placeHead f).sending ≠ none := by
  unfold LinkState.placeHead; split <;> simp_all

namespace LinkState.Ruled
variable {k : LinkState} {f : Frame}

/-- A frame goes to the tail where, with it, the reports have their places (R177, R178). -/
theorem placeTail (h : k.Ruled) (room : k.reportCount + [f].countP (·.isReport) ≤ reportPlaces) : (k.placeTail f).Ruled :=
  ⟨by simpa using h.1, k.placeTail_reportCount f ▸ room, fun e => absurd e (k.placeTail_busy f)⟩

/-- A frame other than a report needs no place. -/
theorem placeTail_other (h : k.Ruled) (other : f.isReport = false) : (k.placeTail f).Ruled :=
  h.placeTail (by simpa [other] using h.2.1)

theorem placeHead_other (h : k.Ruled) (other : f.isReport = false) : (k.placeHead f).Ruled :=
  ⟨by simpa using h.1, by rw [k.placeHead_reportCount]; simpa [other] using h.2.1, fun e => absurd e (k.placeHead_busy f)⟩

/-- What is taken out of the transmit order makes room. -/
theorem filterOrder (h : k.Ruled) (p : Frame → Bool) (b : Bool) : LinkState.Ruled { k with paused := b, order := k.order.filter p } := by
  obtain ⟨fifo, reports, idle⟩ := h
  refine ⟨fifo, le_trans ?_ reports, fun e => by simp [idle e]⟩
  rw [reportCount_eq, reportCount_eq]
  exact Nat.add_le_add_left (List.filter_sublist.countP_le) _

/-- Frames that are rewritten in place take the places that they took, where each stays what it was. -/
theorem mapFrames {g g' : Frame → Frame} (h : k.Ruled) (hg : ∀ f, (g f).isReport = f.isReport)
    (hg' : ∀ f, (g' f).isReport = f.isReport) : LinkState.Ruled { k with order := k.order.map g, sending := k.sending.map g' } := by
  obtain ⟨fifo, reports, idle⟩ := h
  refine ⟨fifo, le_of_eq_of_le ?_ reports, fun e => by simp [idle (Option.map_eq_none_iff.mp e)]⟩
  rw [reportCount_eq, reportCount_eq, List.countP_map]
  congr 1
  · cases k.sending <;> simp [hg', List.countP_cons]
  · exact List.countP_congr fun f _ => by simp [hg]

/-- The frame being sent ends (R177). -/
theorem endFrame (h : k.Ruled) : k.endFrame.Ruled := by
  obtain ⟨fifo, reports, -⟩ := h
  rw [reportCount_eq] at reports
  unfold LinkState.endFrame
  split
  next hk => exact ⟨fifo, by simp [reportCount_eq, hk], fun _ => hk⟩
  next g rest hk =>
    refine ⟨fifo, le_trans ?_ reports, nofun⟩
    rw [reportCount_eq, hk]
    simp [List.countP_cons, add_comm]

/-- PAUSE, GO and NOTICE are no reports, so that they need no place (R175, R179). -/
theorem judgePause (h : k.Ruled) (n : Nat) : (k.judgePause n).Ruled := by
  unfold LinkState.judgePause
  split
  · exact (h.filterOrder _ true).placeHead_other rfl
  · exact h

theorem judgeGo (h : k.Ruled) (n : Nat) : (k.judgeGo n).Ruled := by
  unfold LinkState.judgeGo
  split
  · split
    · exact h.filterOrder _ false
    · exact placeHead_other (k := { k with paused := false }) h rfl
  · exact h

theorem produceNotice (h : k.Ruled) (now : Nat) : (k.produceNotice now).Ruled := by
  unfold LinkState.produceNotice
  dsimp only
  split
  · have same (f : Frame) : (if f.isNotice then noticeFrame k.flags now else f).isReport = f.isReport := by
      split
      next hf => simp [Frame.isReport, eq_of_beq hf, noticeFrame, kindNotice]
      next => rfl
    simpa using h.mapFrames (g' := id) same fun _ => rfl
  · exact h.placeTail_other rfl

theorem raiseFlag (h : k.Ruled) (mask : BitVec 10) (now : Nat) (x : NoticeFlag) : (k.raiseFlag mask now x).Ruled := by
  unfold LinkState.raiseFlag
  dsimp only
  split
  · exact h
  · split
    · exact produceNotice (k := { k with flags := k.flags ||| (1 <<< x.bit.val) }) h now
    · exact h

/-- A reply is filled where it stands (R176). -/
theorem fillReply (h : k.Ruled) (p : List Byte) : (k.fillReply p).Ruled := by
  have same (f : Frame) : (fillFrame p f).isReport = f.isReport := by unfold fillFrame; split <;> rfl
  exact h.mapFrames same same

/-- A request leaves the FIFO and its reply takes a place of the transmit order (R175, R176). -/
theorem openRequest (h : k.Ruled) (goAt : Nat) (tag : Byte) :
    ((LinkState.judgeGo { k with fifo := k.fifo.tail } goAt).placeTail { kind := kindReply, tag, payload := [] }).Ruled := by
  have left : LinkState.Ruled { k with fifo := k.fifo.tail } := ⟨(List.tail_sublist _).length_le.trans h.1, h.2⟩
  exact (left.judgeGo goAt).placeTail_other rfl

end LinkState.Ruled

/-! ### The two rules together -/

/-- What the rules on places read of a state. -/
structure Places where
  linkS : LinkState
  linkO : LinkState
  groups : Nat
  steers : Nat
  rings : MastNo → Nat
  roster : List Stn

def State.places (s : State) : Places where
  linkS := s.linkS
  linkO := s.linkO
  groups := s.sched.groups.length
  steers := s.oper.steers.length
  rings := fun m => (s.wind.masts.get m).ring.length
  roster := s.camp.roster.map (·.station)

theorem linkRule_iff_places (s : State) : LinkRule s ↔ s.places.linkS.Ruled ∧ s.places.linkO.Ruled := linkRule_iff s

theorem sizeRule_iff_places (s : State) : SizeRule s ↔ s.places.groups ≤ groupPlaces ∧ s.places.steers ≤ steerPlaces ∧
    (∀ m, s.places.rings m ≤ ringPlaces) ∧ s.places.roster.Pairwise (fun i j => i.val < j.val) := by
  simp only [SizeRule, State.places, List.pairwise_map]

/-- Each of the two rules holds of a state on a ground of its own. An operation that leads from such a state to such a state, whatever
the grounds are, keeps either rule by itself: the ground is then that the rule held before. -/
structure InPlaces (links sizes : Prop) (s : State) : Prop where
  links : links → LinkRule s
  sizes : sizes → SizeRule s

section Neutral
variable (s : State)

/-! ### What leaves the places -/

@[simp] theorem places_ite (p : Prop) [Decidable p] (t : State) :
    (if p then s else t).places = if p then s.places else t.places := apply_ite State.places p s t

@[simp] theorem modLine_places (ln : Line) (f : LineStats → LineStats) : (s.modLine ln f).places = s.places := by cases ln <;> rfl
@[simp] theorem modStnStats_places (i : Stn) (f : StnStats → StnStats) : (s.modStnStats i f).places = s.places := rfl
@[simp] theorem modStn_places (i : Stn) (f : Station → Station) : (s.modStn i f).places = s.places := rfl
@[simp] theorem modCab_places (i : Stn) (f : Cabinet → Cabinet) : (s.modCab i f).places = s.places := rfl
@[simp] theorem modChan_places (i : Stn) (f : Channel → Channel) : (s.modChan i f).places = s.places := rfl
@[simp] theorem setPark_places (i : Stn) (p : Option ParkStep) : (s.setPark i p).places = s.places := rfl
@[simp] theorem modLock_places (i : Stn) (f : LockRec → LockRec) : (s.modLock i f).places = s.places := rfl
@[simp] theorem modMotionGrant_places (i : Stn) (f : Grant → Grant) : (s.modMotionGrant i f).places = s.places := rfl
@[simp] theorem modHeatGrant_places (i : Stn) (f : Grant → Grant) : (s.modHeatGrant i f).places = s.places := rfl
@[simp] theorem setIdle_places (i : Stn) (t : Option Nat) : (s.setIdle i t).places = s.places := rfl
@[simp] theorem leaveMotion_places (i : Stn) : (s.leaveMotion i).places = s.places := rfl
@[simp] theorem leaveHeat_places (i : Stn) : (s.leaveHeat i).places = s.places := rfl
@[simp] theorem joinList_places (b : Waiting) (c : GrantClass) (n : Nat) : (s.joinList b c n).places = s.places := rfl
@[simp] theorem setChan_places (i : Stn) (x : HeaterState) : (s.setChan i x).places = s.places := rfl
@[simp] theorem offPhase_places (i : Stn) (n : Nat) : (s.offPhase i n).places = s.places := rfl
@[simp] theorem placePin_places (i : Stn) (c : PinCmd) : (s.placePin i c).places = s.places := rfl
@[simp] theorem placeHeat_places (i : Stn) (c : HeatCmd) : (s.placeHeat i c).places = s.places := rfl
@[simp] theorem emptySlots_places (i : Stn) : (s.emptySlots i).places = s.places := rfl
@[simp] theorem withdrawHeat_places (i : Stn) : (s.withdrawHeat i).places = s.places := rfl
@[simp] theorem endHeatGrant_places (i : Stn) : (s.endHeatGrant i).places = s.places := rfl
@[simp] theorem allocReply_places (i : Stn) (st : CabStatus) : (s.allocReply i st).places = s.places := rfl
@[simp] theorem setTargets_places (p : Plan) : (s.setTargets p).places = s.places := rfl
@[simp] theorem stopHeat_places (i : Stn) (a : AfterStop) : (s.stopHeat i a).places = s.places := rfl
@[simp] theorem loseHeat_places (i : Stn) : (s.loseHeat i).places = s.places := rfl
@[simp] theorem joinSlot_places (i : Stn) (k : Fin 6) (n : Nat) (q : LockKind) : (s.joinSlot i k n q).places = s.places := rfl
@[simp] theorem emptySlot_places (i : Stn) (k : Fin 6) : (s.emptySlot i k).places = s.places := rfl
@[simp] theorem voidVisits_places (i : Stn) : (s.voidVisits i).places = s.places := rfl
@[simp] theorem countArrival_places (i : Stn) : (s.countArrival i).places = s.places := rfl

/-- A group that is rewritten keeps its place. -/
@[simp] theorem modGroup_places (n : Nat) (f : Group → Group) : (s.modGroup n f).places = s.places := by
  simp [State.places, State.modGroup]

@[simp] theorem modSteer_places (n : Nat) (f : Steer → Steer) : (s.modSteer n f).places = s.places := by
  simp [State.places, State.modSteer]

/-- A roster entry that is rewritten keeps its place where it keeps its station. -/
theorem modRoster_places (i : Stn) {f : RosterEntry → RosterEntry} (hf : ∀ e, (f e).station = e.station) :
    (s.modRoster i f).places = s.places := by
  simp [State.places, State.modRoster, Function.comp_def, apply_ite RosterEntry.station, hf]

@[simp] theorem setRoster_places (i : Stn) (st : RosterStatus) : (s.setRoster i st).places = s.places :=
  modRoster_places s i fun _ => rfl

@[simp] theorem placeMotion_places (i : Stn) (c : MotionCmd) : (s.placeMotion i c).places = s.places := by
  simp [State.placeMotion]

@[simp] theorem withdrawMotion_places (i : Stn) (p : MotionCmd → Bool) : (s.withdrawMotion i p).places = s.places := by
  unfold State.withdrawMotion
  split <;> simp

@[simp] theorem withdrawPin_places (i : Stn) (c : PinCmd) : (s.withdrawPin i c).places = s.places := by
  unfold State.withdrawPin
  split <;> simp

@[simp] theorem stowOutcome_places (i : Stn) (o : MoveOutcome) : (s.stowOutcome i o).places = s.places := by
  simp [State.stowOutcome, modRoster_places]

@[simp] theorem snowOutcome_places (i : Stn) : (s.snowOutcome i).places = s.places := by simp [State.snowOutcome]

@[simp] theorem giveOutcome_places (i : Stn) (o : MoveOutcome) : (s.giveOutcome i o).places = s.places := by
  unfold State.giveOutcome
  cases (s.stn i).owner with
  | none => rfl
  | some w => cases w <;> simp

@[simp] theorem leaveStowed_places (i : Stn) (r : Reason) : (s.leaveStowed i r).places = s.places := by
  simp [State.leaveStowed, modRoster_places]

@[simp] theorem admitHeat_places (seq : BitVec 32) (i : Stn) : (s.admitHeat seq i).places = s.places := rfl

@[simp] theorem startCycleAs_places (i : Stn) (b : Bool) : (s.startCycleAs i b).places = s.places := by simp [State.startCycleAs]

@[simp] theorem startCycle_places (i : Stn) : (s.startCycle i).places = s.places := startCycleAs_places ..

@[simp] theorem enterOffPhase_places (i : Stn) (b : Bool) : (s.enterOffPhase i b).places = s.places := by
  unfold State.enterOffPhase
  split <;> simp

@[simp] theorem confirmStop_places (i : Stn) (b : Bool) : (s.confirmStop i b).places = s.places := by
  unfold State.confirmStop
  dsimp only
  split
  next => simp
  next => split <;> [skip; split] <;> simp

@[simp] theorem barRise_places (i : Stn) : (s.barRise i).places = s.places := by
  unfold State.barRise
  split <;> simp

@[simp] theorem barFall_places (i : Stn) (b : Bool) : (s.barFall i b).places = s.places := by simp [State.barFall]

@[simp] theorem judgeBarAs_places (i : Stn) (b : Bool) : (s.judgeBarAs i b).places = s.places := by simp [State.judgeBarAs]

@[simp] theorem judgeBar_places (i : Stn) : (s.judgeBar i).places = s.places := judgeBarAs_places ..

@[simp] theorem settleHeatFirst_places (i : Stn) (closed : Bool) : (s.settleHeatFirst i closed).places = s.places := by
  simp [State.settleHeatFirst]

@[simp] theorem askHeatOff_places (i : Stn) : (s.askHeatOff i).places = s.places := by simp [State.askHeatOff]

@[simp] theorem heatReply_places (i : Stn) (closed taken : Bool) (a : Answer) (b : Bool) :
    (s.heatReply i closed taken a b).places = s.places := by
  unfold State.heatReply
  split <;> simp

@[simp] theorem heatTakes_places (i : Stn) (st : CabStatus) (first : Bool) (tk : TakenFlags) (a : Answer) (was : Bool) :
    (s.heatTakes i st first tk a was).places = s.places := by simp [State.heatTakes]

@[simp] theorem chanModeOn_places (i : Stn) : (s.chanModeOn i).places = s.places := by simp [State.chanModeOn]

@[simp] theorem chanModeOff_places (i : Stn) : (s.chanModeOff i).places = s.places := by
  unfold State.chanModeOff
  split <;> simp

@[simp] theorem compareSlot_places (i : Stn) (x : Fin 6 × Option (Nat × LockKind)) :
    (State.compareSlot i s x).places = s.places := by
  unfold State.compareSlot
  split <;> simp

@[simp] theorem lockReply_places (i : Stn) (st : CabStatus) (a : Answer) : (s.lockReply i st a).places = s.places := by
  simp [State.lockReply]

@[simp] theorem preemptWaitingSteers_places : s.preemptWaitingSteers.places = s.places := by
  simp [State.places, State.preemptWaitingSteers]

@[simp] theorem restartEntry_places (e : RosterEntry) : (s.restartEntry e).places = s.places := by simp [State.restartEntry]

@[simp] theorem beginPinning_places (i : Stn) : (s.beginPinning i).places = s.places := by simp [State.beginPinning]

@[simp] theorem beginStowBrake_places (i : Stn) (noPin : Bool) : (s.beginStowBrake i noPin).places = s.places := by
  simp [State.beginStowBrake, modRoster_places]

@[simp] theorem pinStuck_places (i : Stn) : (s.pinStuck i).places = s.places := by simp [State.pinStuck]

/-- A re-plan moves stow durations, and no entry of the roster (R36). -/
@[simp] theorem replanAll_places : s.replanAll.places = s.places := by
  simp [State.places, State.replanAll, Function.comp_def, apply_ite RosterEntry.station]

@[simp] theorem allocFirst_places (i : Stn) (st : CabStatus) (first : Bool) (a : Answer) :
    (s.allocFirst i st first a).places = s.places := by simp [State.allocFirst]

@[simp] theorem returnRejected_places (i : Stn) (st : CabStatus) (a : Answer) : (s.returnRejected i st a).places = s.places := by
  unfold State.returnRejected
  split <;> simp

@[simp] theorem moveIdle_places : s.moveIdle.places = s.places := by simp [State.places, State.moveIdle]

@[simp] theorem dropOutstanding_places (i : Stn) : (s.dropOutstanding i).places = s.places := rfl

@[simp] theorem nextVisit_places (after : Option Stn) : (s.nextVisit after).places = s.places := by
  unfold State.nextVisit
  split <;> rfl

@[simp] theorem nextPanel_places (after : Option Stn) : (s.nextPanel after).places = s.places := rfl

@[simp] theorem endVisit_places (v : BusVisit) : (s.endVisit v).places = s.places := nextVisit_places ..

@[simp] theorem wakeLines_places : s.wakeLines.places = s.places := by
  unfold State.wakeLines
  cases s.bus.visit <;> dsimp only <;> split <;> simp

/-- A pass over a list leaves the places where each of its steps does. -/
@[simp] theorem foldl_places {α : Type} {f : State → α → State} (h : ∀ s a, (f s a).places = s.places) (l : List α) :
    (l.foldl f s).places = s.places := foldl_kept State.places h l s

end Neutral

/-! ### Rings (R89, R94) -/

/-- A full ring loses its oldest sample for a new one, so that a ring has its places after every sample. -/
theorem pushSample_length (ring : List Sample) (x : Sample) : (pushSample ring x).length ≤ ringPlaces := by
  unfold pushSample
  rw [List.length_append, List.length_singleton]
  split
  next full =>
    rw [List.length_drop]
    unfold ringPlaces at full ⊢
    omega
  next => omega

theorem Mast.hear_ring {m : Mast} (readings : List (Option Nat)) (silence now : Nat) (h : m.ring.length ≤ ringPlaces) :
    (m.hear readings silence now).ring.length ≤ ringPlaces := by
  have taken : (m.take readings now).ring.length ≤ ringPlaces := by
    unfold Mast.take
    dsimp only
    split
    · exact pushSample_length ..
    · exact h
  unfold Mast.hear
  dsimp only
  split <;> exact taken

@[simp] theorem Mast.moveSilence_ring (m : Mast) (silence now : Nat) : (m.moveSilence silence now).ring = m.ring := by
  unfold Mast.moveSilence
  split
  · rfl
  · dsimp only
    split_ifs <;> rfl

@[simp] theorem Mast.evaluate_ring (m : Mast) (on : Bool) (c : Params) (now : Nat) : (m.evaluate on c now).ring = m.ring := by
  unfold Mast.evaluate; split <;> rfl

@[simp] theorem Wind.feedCheck_masts (w : Wind) (c : Params) : (w.feedCheck c).masts = w.masts := by
  unfold Wind.feedCheck; dsimp only; split <;> rfl

@[simp] theorem Wind.holdCheck_masts (w : Wind) (c : Params) : (w.holdCheck c).masts = w.masts := by
  unfold Wind.holdCheck; split <;> rfl

@[simp] theorem Wind.riseCheck_masts (w : Wind) (c : Params) : (w.riseCheck c).masts = w.masts := by
  unfold Wind.riseCheck; dsimp only; split <;> rfl

@[simp] theorem Wind.dwellStep_masts (w : Wind) (c : Params) (now : Nat) : (w.dwellStep c now).masts = w.masts := by
  unfold Wind.dwellStep
  split
  · rfl
  · split
    · split <;> rfl
    · rfl

@[simp] theorem Wind.fallCheck_masts (w : Wind) (c : Params) (now : Nat) (b : Bool) : (w.fallCheck c now b).masts = w.masts := by
  unfold Wind.fallCheck
  split
  · rfl
  · split <;> simp

/-- Of the steps of an evaluation only the figures write the masts. -/
theorem Wind.evaluate_masts (w : Wind) (c : Params) (now : Nat) (b : Bool) :
    (w.evaluate c now b).masts = (w.figures c now).masts := by
  unfold Wind.evaluate Wind.judge
  dsimp only
  split <;> simp

/-- An evaluation leaves every sample (R90). -/
theorem Wind.evaluate_ring (w : Wind) (c : Params) (now : Nat) (b : Bool) (m : MastNo) :
    ((w.evaluate c now b).masts.get m).ring = (w.masts.get m).ring := by
  rw [Wind.evaluate_masts]
  simp [Wind.figures, Vector.get_eq_getElem]

/-! ### Sorted rosters (R102, R105) -/

/-- The roster is in ascending station number (R102). -/
def Ascending (l : List RosterEntry) : Prop := l.Pairwise fun a b => a.station.val < b.station.val

/-- An entry goes before the first of a higher station, where none has its own. -/
theorem insertBy_ascending (e : RosterEntry) {l : List RosterEntry} (h : Ascending l) (other : ∀ x ∈ l, x.station ≠ e.station) :
    Ascending (insertBy (fun a b => decide (a.station.val < b.station.val)) e l) := by
  induction l with
  | nil => simp [insertBy, Ascending]
  | cons y l ih =>
    obtain ⟨hy, hl⟩ := List.pairwise_cons.mp h
    unfold insertBy
    split
    next lt =>
      have below : e.station.val < y.station.val := of_decide_eq_true lt
      refine List.pairwise_cons.mpr ⟨fun x hx => ?_, h⟩
      obtain rfl | hx := List.mem_cons.mp hx
      · exact below
      · exact below.trans (hy x hx)
    next ge =>
      have ne := Fin.val_ne_of_ne (other y List.mem_cons_self)
      have above : y.station.val < e.station.val := lt_of_le_of_ne (not_lt.mp (by simpa using ge)) ne
      refine List.pairwise_cons.mpr ⟨fun x hx => ?_, ih hl fun x hx => other x (List.mem_cons_of_mem _ hx)⟩
      obtain rfl | hx := (mem_insertBy ..).mp hx
      · exact above
      · exact hy x hx

theorem insertEntry_ascending (e : RosterEntry) {l : List RosterEntry} (h : Ascending l) : Ascending (insertEntry e l) :=
  insertBy_ascending e (h.filter _) fun x hx => by simpa using (List.mem_filter.mp hx).2

namespace InPlaces
variable {links sizes : Prop} {s : State} (h : InPlaces links sizes s)
include h

/-! ### Using the rules -/

/-- What leaves the places keeps the rules. -/
theorem same {t : State} (e : t.places = s.places) : InPlaces links sizes t where
  links l := by rw [linkRule_iff_places, e, ← linkRule_iff_places]; exact h.links l
  sizes z := by rw [sizeRule_iff_places, e, ← sizeRule_iff_places]; exact h.sizes z

/-- An operation that keeps the rules keeps them where it is taken on a condition. -/
theorem ite (p : Prop) [Decidable p] {t : State} (k : InPlaces links sizes t) : InPlaces links sizes (if p then s else t) := by
  split
  · exact h
  · exact k

/-- A pass over a list that carries a state keeps the rules where every step keeps them. -/
theorem foldl {α : Type} {f : State → α → State} (hf : ∀ {s}, InPlaces links sizes s → ∀ a, InPlaces links sizes (f s a))
    (l : List α) : InPlaces links sizes (l.foldl f s) := by
  induction l generalizing s with
  | nil => exact h
  | cons a l ih => exact ih (hf h a)

omit h in
theorem foldl_of {α β : Type} (st : β → State) {f : β → α → β}
    (hf : ∀ x, InPlaces links sizes (st x) → ∀ a, InPlaces links sizes (st (f x a))) (l : List α) {x : β}
    (h : InPlaces links sizes (st x)) : InPlaces links sizes (st (l.foldl f x)) := by
  induction l generalizing x with
  | nil => exact h
  | cons a l ih => exact ih (hf x h a)

/-- A control link is rewritten in a way that keeps its rule. -/
theorem modLink (l : Link) {f : LinkState → LinkState} (hf : (s.link l).Ruled → (f (s.link l)).Ruled) :
    InPlaces links sizes (s.modLink l f) where
  links hl := by
    obtain ⟨hS, hO⟩ := (linkRule_iff s).mp (h.links hl)
    rw [linkRule_iff]
    cases l with
    | S => exact ⟨hf hS, hO⟩
    | O => exact ⟨hS, hf hO⟩
  sizes hz := by
    have sizes := h.sizes hz
    cases l <;> exact sizes

/-- Where the links stay, the rule on the capacities is what is left to keep. -/
theorem resize {t : State} (hS : t.linkS = s.linkS) (hO : t.linkO = s.linkO) (hz : SizeRule s → SizeRule t) :
    InPlaces links sizes t where
  links l := by rw [linkRule_iff, hS, hO, ← linkRule_iff]; exact h.links l
  sizes z := hz (h.sizes z)

/-- The roster is rewritten in ascending station number. -/
theorem reroster (c : Campaign) (hc : Ascending s.camp.roster → Ascending c.roster) :
    InPlaces links sizes { s with camp := c } :=
  h.resize rfl rfl fun ⟨groups, steers, rings, roster⟩ => ⟨groups, steers, rings, hc roster⟩

/-- The wind monitor is rewritten with rings that have their places. -/
theorem rewind (w : Wind) (hw : ∀ m, (s.wind.masts.get m).ring.length ≤ ringPlaces → (w.masts.get m).ring.length ≤ ringPlaces) :
    InPlaces links sizes { s with wind := w } :=
  h.resize rfl rfl fun ⟨groups, steers, rings, roster⟩ => ⟨groups, steers, fun m => hw m (rings m), roster⟩

/-! ### Links, lines and notices -/

theorem notice (l : Link) (x : NoticeFlag) : InPlaces links sizes (s.notice l x) := h.modLink l fun k => k.raiseFlag _ _ x

theorem noticeBoth (x : NoticeFlag) : InPlaces links sizes (s.noticeBoth x) := (h.notice .S x).notice .O x

/-- A report has a place, or is dropped (R178). -/
theorem report (l : Link) (f : Frame) : InPlaces links sizes (s.report l f) := by
  unfold State.report
  split
  next => exact (h.same (modLine_places ..)).notice l _
  next room =>
    refine h.modLink l fun k => k.placeTail ?_
    have one : [f].countP (·.isReport) ≤ 1 := List.countP_le_length
    omega

/-! ### Motion states and stops -/

theorem setMotion (i : Stn) (m : Motion) : InPlaces links sizes (s.setMotion i m) := by
  unfold State.setMotion
  dsimp only
  split
  · exact h
  · have moved {t : State} (e : t.places = s.places) (b : Bool) : InPlaces links sizes (if b then t.noticeBoth .station else t) :=
      ((h.same e).noticeBoth _).ite _ (h.same e)
    exact moved (by simp) _

theorem withdrawWaiting (i : Stn) (o : MoveOutcome) : InPlaces links sizes (s.withdrawWaiting i o) :=
  (h.same (t := (s.leaveMotion i).giveOutcome i o) (by simp)).setMotion i _

theorem stopMoving (i : Stn) (o : MoveOutcome) : InPlaces links sizes (s.stopMoving i o) :=
  (h.same (t := (s.giveOutcome i o).placeMotion i .stop) (by simp)).setMotion i _

theorem brakePointed (i : Stn) : InPlaces links sizes (s.brakePointed i) := (h.same (placeMotion_places ..)).setMotion i _

theorem beginAdmitting (i : Stn) (w : Owner) : InPlaces links sizes (s.beginAdmitting i w) :=
  (h.setMotion i .admitting).same (modStn_places ..)

/-! ### The power allocator -/

theorem admitMotion (c : GrantClass) (seq : BitVec 32) (p : Plan) : InPlaces links sizes (s.admitMotion c seq p) := by
  unfold State.admitMotion
  dsimp only
  split
  next =>
    have moved := (h.same (modMotionGrant_places s p.station fun g => g.admitted c seq p)).setMotion p.station
      (if c = .stow then .stowing else .slewing)
    split
    next => exact moved.same (by simp [modRoster_places])
    next => exact moved.same (by simp)
    next => exact moved.same (by simp)
  next => exact h

theorem admitEntry (e : Entry) : InPlaces links sizes (s.admitEntry e) := by
  unfold State.admitEntry
  dsimp only
  split
  next ps _ => exact foldl (h.same (by rfl)) (fun k p => k.admitMotion e.cls s.power.admission p) ps
  next => exact h.same rfl

theorem cutHeater (i : Stn) : InPlaces links sizes (s.cutHeater i) := h.same rfl

theorem reconsiderN (n : Nat) : InPlaces links sizes (State.reconsiderN n s) := by
  induction n generalizing s with
  | zero => exact h
  | succ n ih =>
    unfold State.reconsiderN
    split
    · exact h
    · exact h.ite _ ((ih (h.admitEntry _)).ite _ (h.foldl (fun k i => k.cutHeater i) _))

theorem reconsider : InPlaces links sizes s.reconsider := h.reconsiderN _

theorem markShed (i : Stn) : InPlaces links sizes (s.markShed i) := h.same rfl

theorem deficitActs (n : Nat) : InPlaces links sizes (State.deficitActs n s) := by
  induction n generalizing s with
  | zero => exact h
  | succ n ih =>
    unfold State.deficitActs
    split
    · exact h
    · split
      · exact ih (h.cutHeater _)
      · split
        · exact ih ((h.stopMoving _ _).markShed _)
        · split
          · exact ih ((h.brakePointed _).markShed _)
          · exact h

theorem setDeficit (b : Bool) : InPlaces links sizes (s.setDeficit b) :=
  (h.same (t := { s with power := { s.power with deficit := b } }) rfl).noticeBoth _

theorem enterDeficit : InPlaces links sizes s.enterDeficit := by
  unfold State.enterDeficit
  exact h.ite _ ((h.setDeficit true).same rfl)

theorem judgeDeficit : InPlaces links sizes s.judgeDeficit := by
  unfold State.judgeDeficit
  exact (h.enterDeficit.deficitActs _).ite _ h

theorem judgePower (force : Bool) (old : State) : InPlaces links sizes (judgePower force old s) := by
  unfold Machine.judgePower
  exact h.judgeDeficit.ite _ ((h.setDeficit false).reconsider.ite _ (h.reconsider.ite _ h))

omit h in
/-- A join that keeps the rules keeps them also as an event of its own. -/
theorem ownJoin {join : State → State} (hj : ∀ {s}, InPlaces links sizes s → InPlaces links sizes (join s)) {x : State × State}
    (h : InPlaces links sizes x.2) : InPlaces links sizes (ownJoin join x).2 := by
  unfold Machine.ownJoin
  split
  · exact hj h
  · exact (hj (h.judgePower ..)).judgePower ..

/-! ### Snow mode and idle parks -/

theorem judgePark (i : Stn) : InPlaces links sizes (s.judgePark i) := by
  unfold State.judgePark
  dsimp only
  split
  · exact (h.setMotion i .parked).ite _ ((h.beginAdmitting i .snow).same (by simp))
  · exact h

theorem judgeParks : InPlaces links sizes s.judgeParks := h.foldl (fun k i => k.judgePark i) _

theorem snowTurnOn (src : SnowSource) : InPlaces links sizes (s.snowTurnOn src) := by
  unfold State.snowTurnOn
  split
  · exact h.same rfl
  · have noticed := (h.same (t := { s with snow := { s.snow with mode := .on, source := some src } }) rfl).noticeBoth .snow
    exact (noticed.foldl (fun k i => k.same (chanModeOn_places _ i)) _).judgeParks

theorem snowTurnOff : InPlaces links sizes s.snowTurnOff := by
  unfold State.snowTurnOff
  split
  · exact h
  · have noticed := (h.same (t := { s with snow := { s.snow with mode := .off, source := none } }) rfl).noticeBoth .snow
    exact noticed.foldl (fun k i => k.same (chanModeOff_places _ i)) _

theorem judgeAuto (before : Bool) : InPlaces links sizes (s.judgeAuto before) := by
  have judged : InPlaces links sizes { s with snow := { s.snow with auto := s.autoMet } } := h.same rfl
  unfold State.judgeAuto
  exact (judged.snowTurnOn .auto).ite _ judged

theorem takePrecip (c : PrecipClass) (air : Option Int) : InPlaces links sizes (s.takePrecip c air) :=
  (h.same (t := State.clearStep { s with snow := { s.snow with cls := some c, air := air } } c) rfl).judgeAuto _

/-! ### The lockout manager -/

theorem lockTakesEffect (i : Stn) : InPlaces links sizes (s.lockTakesEffect i) := by
  unfold State.lockTakesEffect
  split
  · exact h.withdrawWaiting i _
  · exact h.stopMoving i _
  · exact h.stopMoving i _
  · exact h.brakePointed i
  · exact (h.same (by simp)).ite _ h
  · exact h

theorem setLockStatus (i : Stn) (new : LockStatus) : InPlaces links sizes (s.setLockStatus i new) := by
  unfold State.setLockStatus
  dsimp only
  split
  · exact h
  · have noticed := (h.same (modLock_places s i fun r => { r with status := new })).noticeBoth .lockout
    have taken (b : Bool) := (noticed.lockTakesEffect i).ite (b = true) noticed
    exact ((taken _).judgePark i).ite _ (taken _)

theorem judgeLock (i : Stn) : InPlaces links sizes (s.judgeLock i) := (h.same (modLock_places ..)).setLockStatus i _

theorem judgeRests : InPlaces links sizes s.judgeRests := h.foldl (fun k i => (k.judgeLock i).ite _ k) _

theorem judgeLockBar (i : Stn) : InPlaces links sizes (s.judgeLockBar i) := (h.judgeLock i).same (judgeBar_places ..)

theorem warningEnd (i : Stn) : InPlaces links sizes (s.warningEnd i) := by
  have ended {f : LockRec → LockRec} : InPlaces links sizes (s.modLock i f) := h.same (modLock_places ..)
  exact (((ended.same (setIdle_places ..)).ite _ ended).setLockStatus i .free).same (judgeBar_places ..)

theorem takeKeys (i : Stn) (keys : List (Option (Nat × LockKind))) : InPlaces links sizes (s.takeKeys i keys) :=
  ((h.same (modLock_places ..)).foldl (fun k x => k.same (compareSlot_places _ i x)) _).judgeLockBar i

theorem panelSilent (i : Stn) : InPlaces links sizes (s.panelSilent i) := (h.same (modLock_places ..)).judgeLockBar i

theorem moveSilence (i : Stn) : InPlaces links sizes (s.moveSilence i) := by
  unfold State.moveSilence
  dsimp only
  split
  · split
    · have moved {f : LockRec → LockRec} : InPlaces links sizes (s.modLock i f) := h.same (modLock_places ..)
      exact (moved.panelSilent i).ite _ moved
    · exact h
  · exact h

/-! ### The stow sequencer -/

theorem displayNotices (old : State) : InPlaces links sizes (displayNotices old s) := by
  unfold Machine.displayNotices
  dsimp only
  have sched := (h.notice .S .queue).ite (s.schedDisplay ≠ old.schedDisplay) h
  exact (sched.notice .O .queue).ite _ sched

/-- A change of the campaign's records that leaves the roster. -/
theorem recamp {c : Campaign} (hc : c.roster = s.camp.roster) : InPlaces links sizes { s with camp := c } :=
  h.reroster c fun sorted => hc ▸ sorted

theorem setCamp (st : CampState) : InPlaces links sizes (s.setCamp st) := by
  unfold State.setCamp
  dsimp only
  split
  · exact h
  · have changed := h.recamp (c := { s.camp with state := st }) rfl
    exact (((changed.report .S _).report .O _).noticeBoth .campaign).displayNotices s

theorem giveEntry (i : Stn) (st : RosterStatus) : InPlaces links sizes (s.giveEntry i st) := h.reroster _ (insertEntry_ascending _)

theorem dropEntry (i : Stn) : InPlaces links sizes (s.dropEntry i) := h.reroster _ fun sorted => sorted.filter _

theorem joinCampaign (i : Stn) : InPlaces links sizes (s.joinCampaign i) := by
  unfold State.joinCampaign
  dsimp only
  split
  · exact (h.setMotion i .stowing).same (by simp [modRoster_places])
  · exact (h.beginAdmitting i .stow).same (by simp [modRoster_places])

theorem buildEntry (i : Stn) : InPlaces links sizes (s.buildEntry i) := by
  have locked := h.giveEntry i (.excluded .lockout)
  unfold State.buildEntry
  split
  case h_1 | h_10 => exact h
  case h_2 | h_3 | h_4 | h_5 | h_6 => exact h.giveEntry i _
  case h_7 => exact (h.ite _ (((h.withdrawWaiting i _).giveEntry i _).joinCampaign i)).ite _ locked
  case h_8 => exact ((h.stopMoving i _).giveEntry i _).ite _ locked
  case h_9 => exact (h.giveEntry i _).ite _ locked
  case h_11 | h_12 | h_13 => exact ((h.giveEntry i _).joinCampaign i).ite _ locked

omit h in
theorem addCause_roster (c : Campaign) (x : CampCause) : (c.addCause x).roster = c.roster := by
  unfold Campaign.addCause
  split
  · rfl
  · split <;> rfl

theorem startCampaign (c : CampCause) (kept : List Stn) : InPlaces links sizes (s.startCampaign c kept) := by
  unfold State.startCampaign
  dsimp only
  have begun {camp : Campaign} (e : camp.roster = s.camp.roster.filter fun e => kept.contains e.station) :
      InPlaces links sizes ({ s with camp } : State).preemptWaitingSteers :=
    (h.reroster camp fun sorted => e ▸ sorted.filter _).same (preemptWaitingSteers_places _)
  exact (((((begun rfl).foldl (fun k i => k.buildEntry i) _).report .S _).report .O _).noticeBoth _).displayNotices s

theorem startOrRestart (c : CampCause) : InPlaces links sizes (s.startOrRestart c) :=
  (h.foldl (fun k e => k.same (restartEntry_places _ e)) _).startCampaign c _

theorem judgeRejoin (i : Stn) : InPlaces links sizes (s.judgeRejoin i) := by
  have joined := (h.joinCampaign i).ite (s.isFree i) h
  unfold State.judgeRejoin
  split
  · exact h
  · split
    · split
      case h_1 => exact h.same (setRoster_places ..)
      case h_5 => exact h
      all_goals exact joined
    · exact h

theorem judgeWaitRest (i : Stn) : InPlaces links sizes (s.judgeWaitRest i) := by
  unfold State.judgeWaitRest
  split
  · split
    case h_1 => exact (h.joinCampaign i).ite _ (h.same (setRoster_places ..))
    case h_5 => exact h
    all_goals exact h.same (setRoster_places ..)
  · exact h

theorem rosterStep (old : State) (i : Stn) : InPlaces links sizes (rosterStep old i s) :=
  ((h.judgeWaitRest i).judgeRejoin i).ite _ (h.judgeWaitRest i)

omit h in
theorem rosterPass (old : State) {x : State × State} (h : InPlaces links sizes x.2) :
    InPlaces links sizes (rosterPass old x).2 :=
  foldl_of Prod.snd (fun _ k i => k.ownJoin fun k => k.rosterStep old i) _ h

theorem endCampaign : InPlaces links sizes s.endCampaign := (h.reroster _ fun _ => by exact .nil).setCamp .none

theorem judgeCampaign : InPlaces links sizes s.judgeCampaign := by
  unfold State.judgeCampaign
  split
  · exact ((h.setCamp _).ite _ (h.setCamp _)).ite _ h
  · exact h.ite _ (h.setCamp _)
  · exact h.endCampaign.ite _ h
  · exact h
  · exact h

theorem rejoinAll (old : State) : InPlaces links sizes (s.rejoinAll old) :=
  foldl_of Prod.snd (x := (old, s)) (fun _ k i => k.ownJoin fun k => k.judgeRejoin i) _ h

theorem resumeCampaign : InPlaces links sizes s.resumeCampaign := (h.setCamp _).ite _ (h.setCamp _)

theorem addCause (c : CampCause) : InPlaces links sizes (s.addCause c) := h.recamp (addCause_roster ..)

theorem stowTakesStage (old : State) : InPlaces links sizes (s.stowTakesStage old) := by
  unfold State.stowTakesStage
  dsimp only
  split
  · split
    · exact h.ite _ (h.startOrRestart _)
    · exact h.ite _ (h.startOrRestart _)
    · exact h.addCause _
    · exact h.addCause _
    · exact h.ite _ ((h.addCause _).rejoinAll old).resumeCampaign
  · exact (h.setCamp _).ite _ h

theorem completeStow (i : Stn) (noPin : Bool) : InPlaces links sizes (s.completeStow i noPin) := by
  unfold State.completeStow
  dsimp only
  exact ((h.same (t := s.modStn i fun r => { r with owner := none }) rfl).setMotion i .stowed).same (by simp [modRoster_places])

theorem pinDrawn (i : Stn) : InPlaces links sizes (s.pinDrawn i) := by
  have held := h.setMotion i .held
  exact (held.same (setRoster_places ..)).ite _ ((held.joinCampaign i).ite _ (held.same (setRoster_places ..)))

theorem stowReply (i : Stn) (st : CabStatus) (tk : TakenFlags) (a : Answer) : InPlaces links sizes (s.stowReply i st tk a) := by
  have braked (b : Bool) : InPlaces links sizes (s.beginStowBrake i b) := h.same (beginStowBrake_places ..)
  have stuck : InPlaces links sizes (s.pinStuck i) := h.same (pinStuck_places ..)
  unfold State.stowReply
  split
  · exact h
  · split
    · exact (h.same (beginPinning_places ..)).ite _ h
    · refine (braked true).ite _ ?_
      split
      · split
        · exact braked false
        · exact braked true
        · exact h
        · exact h
      · exact h
    · exact (h.completeStow i _).ite _ h
    · refine stuck.ite _ ?_
      split
      · split
        · exact h.pinDrawn i
        · exact stuck
        · exact h
        · exact h
      · exact h
    · exact h

theorem unstowEntry (i : Stn) : InPlaces links sizes (s.unstowEntry i) :=
  (((h.giveEntry i .unpinning).same (placePin_places ..)).ite _ ((h.giveEntry i .unpinned).setMotion i .held)).ite _
    (h.giveEntry i .locked)

theorem beginEnding : InPlaces links sizes s.beginEnding :=
  ((h.reroster _ fun _ => by exact .nil).foldl (fun k i => k.unstowEntry i) _).setCamp .ending

theorem stowAll : InPlaces links sizes s.stowAll := by
  have rejoined := ((((h.addCause .operator).foldl (fun k i => k.buildEntry i)
    ((s.addCause .operator).enabledStns.filter (s.addCause .operator).stowAllBuilds)).rejoinAll s)).resumeCampaign
  unfold State.stowAll
  split
  · exact h.startOrRestart _
  · exact h.startOrRestart _
  all_goals exact rejoined

/-! ### The motion queues (R38 to R59) -/

/-- A group or a steer that leaves its queue makes room. -/
theorem completeGroup (g : Group) (b : Bool) : InPlaces links sizes (s.completeGroup g b) := by
  unfold State.completeGroup
  dsimp only
  refine (report (h.resize ?_ ?_ fun ⟨groups, steers, rings, roster⟩ => ?_) _ _).displayNotices s
  · rfl
  · rfl
  · exact ⟨(List.length_filter_le ..).trans groups, steers, rings, roster⟩

theorem completeSteer (t : Steer) : InPlaces links sizes (s.completeSteer t) := by
  unfold State.completeSteer
  dsimp only
  refine (report (h.resize ?_ ?_ fun ⟨groups, steers, rings, roster⟩ => ?_) _ _).displayNotices s
  · rfl
  · rfl
  · exact ⟨groups, (List.length_filter_le ..).trans steers, rings, roster⟩

omit h in
theorem dispatchMember (g : Group) {x : State × List Plan} (h : InPlaces links sizes x.1) (i : Stn) :
    InPlaces links sizes (State.dispatchMember g x i).1 := by
  unfold State.dispatchMember
  dsimp only
  split
  · exact h.same (modGroup_places ..)
  · split
    · exact h
    · split
      · exact h.same (modGroup_places ..)
      · split
        · exact h.same (by simp)
        · exact h.beginAdmitting i _

theorem dispatchGroup (g : Group) : InPlaces links sizes (s.dispatchGroup g) := by
  have members := foldl_of Prod.fst (fun _ k i => k.dispatchMember g i) g.stations
    (x := (s.modGroup g.number fun h => { h with state := .active }, [])) (h.same (modGroup_places ..))
  unfold State.dispatchGroup
  dsimp only
  split
  · exact members.foldl (fun k p => k.same (joinList_places ..)) _
  · exact members.ite _ (members.same (joinList_places ..))

theorem planSteer (t : Steer) : InPlaces links sizes (s.planSteer t) := by
  have recorded {f : Steer → Steer} : InPlaces links sizes (s.modSteer t.number f) := h.same (modSteer_places ..)
  unfold State.planSteer
  dsimp only
  split
  · split
    · exact recorded
    · split
      · exact recorded.same (countArrival_places ..)
      · exact (recorded.beginAdmitting t.station _).same (joinList_places ..)
  · exact recorded

theorem steerWaits (t : Steer) : InPlaces links sizes (s.steerWaits t) := h.same (modSteer_places ..)

theorem dispatchSteer (t : Steer) : InPlaces links sizes (s.dispatchSteer t) := by
  unfold State.dispatchSteer
  dsimp only
  split
  case h_1 | h_2 | h_3 => exact h.planSteer t
  case h_4 => exact (h.withdrawWaiting _ _).planSteer t
  case h_5 => exact (h.stopMoving _ _).steerWaits t
  case h_6 | h_7 => exact h.steerWaits t
  all_goals exact h.same (modSteer_places ..)

theorem endWait (t : Steer) : InPlaces links sizes (s.endWait t) := by
  unfold State.endWait
  split
  case h_1 => exact h.planSteer t
  case h_5 => exact h
  all_goals exact h.same (modSteer_places ..)

theorem takeAct (a : QueueAct) : InPlaces links sizes (s.takeAct a) := by
  cases a with
  | groupDone g => exact h.completeGroup g false
  | steerDone t => exact h.completeSteer t
  | waitEnd t => exact h.endWait t
  | steerGo t => exact h.dispatchSteer t
  | groupGo g => exact h.dispatchGroup g

theorem queuePass (n : Nat) : InPlaces links sizes (State.queuePass n s) := by
  induction n generalizing s with
  | zero => exact h
  | succ n ih =>
    unfold State.queuePass
    split
    · exact h
    · exact ih (h.takeAct _)

theorem endOwned (w : Owner) (o : MoveOutcome) (i : Stn) : InPlaces links sizes (State.endOwned w o s i) := by
  unfold State.endOwned
  split
  · split
    · exact h.withdrawWaiting i o
    · exact h.stopMoving i o
    · exact h
  · exact h

theorem endGroup (o : MoveOutcome) (g : Group) : InPlaces links sizes (State.endGroup o s g) :=
  (h.foldl (fun k i => k.endOwned _ o i) _).same (modGroup_places ..)

theorem clearSteer (t : Steer) : InPlaces links sizes (s.clearSteer t) := (h.endOwned _ .cleared _).same (modSteer_places ..)

theorem clearedGroup (n : Nat) : InPlaces links sizes (s.clearedGroup n) := by
  unfold State.clearedGroup
  split
  · exact h.completeGroup _ true
  · exact h

theorem clearedSteer (n : Nat) : InPlaces links sizes (s.clearedSteer n) := by
  unfold State.clearedSteer
  split
  · exact h.completeSteer _
  · exact h

/-- The suspended flag takes no place. -/
theorem suspend (b : Bool) : InPlaces links sizes { s with sched := { s.sched with suspended := b } } := h.same rfl

theorem clearQueues : InPlaces links sizes s.clearQueues := by
  have outcomes : InPlaces links sizes s.clearedOutcomes :=
    (h.foldl (fun k g => k.endGroup .cleared g) _).foldl (fun k t => k.clearSteer t) _
  have emptied : InPlaces links sizes s.emptiedQueues :=
    (outcomes.foldl (fun k g => k.clearedGroup g.number) _).foldl (fun k t => k.clearedSteer t.number) _
  rw [clearQueues_eq]
  exact (emptied.suspend false).displayNotices _

theorem haltStation (i : Stn) : InPlaces links sizes (s.haltStation i) := by
  unfold State.haltStation
  split
  · exact h.withdrawWaiting i _
  · exact h.stopMoving i _
  · exact h.stopMoving i _
  · exact h.same (by simp [State.places])

/-- An accepted SLEW takes a place that is free (R38, R39). -/
theorem addGroup (a : SlewArgs) (room : s.sched.groups.length < groupPlaces) : InPlaces links sizes (s.addGroup a) := by
  unfold State.addGroup
  dsimp only
  refine (displayNotices (h.resize ?_ ?_ fun ⟨_, steers, rings, roster⟩ => ?_) s)
  · rfl
  · rfl
  · exact ⟨by simpa using room, steers, rings, roster⟩

theorem addSteer (a : SteerArgs) (room : s.oper.steers.length < steerPlaces) : InPlaces links sizes (s.addSteer a) := by
  unfold State.addSteer
  dsimp only
  refine (displayNotices (h.resize ?_ ?_ fun ⟨groups, _, rings, roster⟩ => ?_) s)
  · rfl
  · rfl
  · exact ⟨groups, by simpa using room, rings, roster⟩

/-! ### What follows an event -/

theorem parksAfterCampaign (acted : State) : InPlaces links sizes (parksAfterCampaign acted s) := h.judgeParks.ite _ h

theorem settleOnce (force : Bool) (old : State) : InPlaces links sizes (settleOnce force old s) := by
  have first : InPlaces links sizes (Machine.rosterPass old (old, s.judgeDeficit)).2 := rosterPass old h.judgeDeficit
  have second := rosterPass old (x := ((Machine.rosterPass old (old, s.judgeDeficit)).1, _)) first.judgeCampaign
  exact (((second.judgeCampaign.queuePass queueFuel).parksAfterCampaign s).judgePower force _).judgeRests

theorem settleMore (n : Nat) : InPlaces links sizes (settleMore n s) := by
  induction n generalizing s with
  | zero => exact h
  | succ n ih =>
    unfold Machine.settleMore
    split
    · exact ih (h.settleOnce false s)
    · exact h

theorem settle (force : Bool) (old : State) : InPlaces links sizes (settle force old s) := (h.settleOnce force old).settleMore _

/-! ### The wind monitor (R86 to R100) -/

theorem handStage (old : State) : InPlaces links sizes (s.handStage old) := by
  unfold State.handStage
  dsimp only
  split
  · exact h
  · have stamped : InPlaces links sizes { s with wind := { s.wind with changed := s.clock } } := h.same rfl
    exact ((stamped.ite _ (stamped.same (replanAll_places _))).noticeBoth .stage).stowTakesStage old

theorem evaluate (expiry : Bool) : InPlaces links sizes (s.evaluate expiry) :=
  (h.rewind _ fun m room => (Wind.evaluate_ring s.wind s.cfg s.clock expiry m).symm ▸ room).handStage s

/-- A mast record is rewritten with a ring that has its places. -/
theorem remast (i : MastNo) {f : Mast → Mast} (hf : ∀ m : Mast, m.ring.length ≤ ringPlaces → (f m).ring.length ≤ ringPlaces) :
    InPlaces links sizes { s with wind := { s.wind with masts := upd s.wind.masts i f } } :=
  h.rewind _ fun m room => by
    rw [upd_get]
    split
    · exact hf _ room
    · exact room

theorem takeMast (n : Nat) (readings : List (Option Nat)) : InPlaces links sizes (s.takeMast n readings) := by
  unfold State.takeMast
  split
  · exact ((h.remast _ fun m room => m.hear_ring readings _ _ room).evaluate false).ite _ h
  · exact h

theorem silenceEnd (i : MastNo) : InPlaces links sizes (s.silenceEnd i) := by
  unfold State.silenceEnd
  exact (h.remast i (f := fun m => { m with silence := none }) fun _ room => room).evaluate false

theorem enableMasts (before : Params) : InPlaces links sizes (s.enableMasts before) :=
  h.rewind _ fun m room => by
    simp only [Vector.get_eq_getElem, Vector.getElem_ofFn] at room ⊢
    split
    · exact room
    · exact Nat.zero_le _

theorem moveMastSilence : InPlaces links sizes s.moveMastSilence :=
  h.rewind _ fun m room => by simpa [Vector.get_eq_getElem] using room

/-! ### The drive bus and the panel line (R10 to R16, R159 to R172) -/

theorem lose (i : Stn) : InPlaces links sizes (s.lose i) := by
  unfold State.lose
  exact ((h.same (by simp)).setMotion i .lost).judgeLock i

theorem stopAfresh (i : Stn) : InPlaces links sizes (s.stopAfresh i) := (h.same (placeMotion_places ..)).setMotion i _

theorem resolveFirst (i : Stn) (st : CabStatus) : InPlaces links sizes (s.resolveFirst i st) := by
  rw [resolveFirst_eq]
  exact (h.stopAfresh i).ite _ (h.setMotion i _)

theorem takenAway (i : Stn) (m : Motion) (r : Reason) (o : MoveOutcome) : InPlaces links sizes (s.takenAway i m r o) := by
  unfold State.takenAway
  exact (h.same (by simp)).setMotion i m

theorem judgeArrival (i : Stn) (st : CabStatus) : InPlaces links sizes (s.judgeArrival i st) := by
  unfold State.judgeArrival
  dsimp only
  split
  · split
    · exact (h.same (by simp)).setMotion i _
    · exact (h.same (by simp)).setMotion i _
  · exact h

theorem moveRefused (i : Stn) (st : CabStatus) (p : Posture) (v : Verdict) : InPlaces links sizes (s.moveRefused i st p v) := by
  have refused := h.same (giveOutcome_places s i (refusedOutcome v))
  unfold State.moveRefused
  dsimp only
  split
  · exact refused.stopAfresh i
  · split
    · exact refused.setMotion i _
    · exact (refused.same (placeMotion_places ..)).setMotion i _

theorem stationRemote (i : Stn) (st : CabStatus) (tk : TakenFlags) (a : Answer) (mark : Bool) :
    InPlaces links sizes (s.stationRemote i st tk a mark) := by
  unfold State.stationRemote
  split
  · exact h.stopAfresh i
  · exact (h.setMotion i _).ite _ (h.stopAfresh i)
  · exact (h.setMotion i _).ite _ h
  · split
    · exact h.moveRefused i st _ _
    · split
      · exact (h.judgeArrival i st).ite _ h
      · exact h
  · split
    · exact h.moveRefused i st _ _
    · exact h
  · exact h

theorem stationReply (i : Stn) (st : CabStatus) (first : Bool) (tk : TakenFlags) (a : Answer) (mark : Bool) :
    InPlaces links sizes (s.stationReply i st first tk a mark) := by
  unfold State.stationReply
  split
  · exact h.resolveFirst i st
  · split
    · exact h.ite _ (h.takenAway i ..)
    · split
      · exact h.ite _ (h.takenAway i ..)
      · exact h.stationRemote i st tk a mark

theorem parkReply (i : Stn) (st : CabStatus) (tk : TakenFlags) : InPlaces links sizes (s.parkReply i st tk) := by
  unfold State.parkReply
  split
  · split
    · exact (h.same (by simp)).ite _ h
    · split
      · exact (h.same (giveOutcome_places ..)).setMotion i _
      · exact h
    · exact h
  · exact h

theorem lockAndStation (i : Stn) (st : CabStatus) (first : Bool) (tk : TakenFlags) (a : Answer) (mark : Bool) :
    InPlaces links sizes (s.lockAndStation i st first tk a mark) := by
  have lockFirst := (((h.same (lockReply_places s i st a)).judgeLock i).stationReply i st first tk a mark).judgeLock i
  have stationFirst := (h.stationReply i st first tk a mark).same (lockReply_places _ i st a)
  exact lockFirst.ite _ (stationFirst.judgeLock i)

theorem heatTakes (i : Stn) (st : CabStatus) (first : Bool) (tk : TakenFlags) (a : Answer) (was : Bool) :
    InPlaces links sizes (s.heatTakes i st first tk a was) := h.same (heatTakes_places ..)

theorem returnRejected (i : Stn) (st : CabStatus) (a : Answer) : InPlaces links sizes (s.returnRejected i st a) :=
  h.same (returnRejected_places ..)

theorem countChoice (n : Nat) : InPlaces links sizes { s with choices := n } := h.same rfl

/-- Every block takes a good reply (R165). -/
theorem takeReply (i : Stn) (st : CabStatus) (a : Answer) : InPlaces links sizes (s.takeReply i st a) := by
  unfold State.takeReply State.jobsReply
  dsimp only
  refine countChoice (judgeLock (returnRejected (heatTakes (parkReply (stowReply (lockAndStation (h.same ?_) ..) ..) ..) ..) ..) i) _
  simp

theorem judgeLoss (i : Stn) : InPlaces links sizes (s.judgeLoss i) := (h.lose i).ite _ h

theorem miss (i : Stn) : InPlaces links sizes (s.miss i) := by
  unfold State.miss
  exact (h.same (by simp)).judgeLoss i

/-! ### The requests that act (R8, R9, R17, R39 to R59, R84, R116 to R118, R125, R150, R181 to R183) -/

theorem enableStation (i : Stn) : InPlaces links sizes (s.enableStation i) := by
  have judged {f : Station → Station} {g : Cabinet → Cabinet} {k : LockRec → LockRec} :
      InPlaces links sizes (((((s.modStn i f).setMotion i .unknown).modCab i g).modLock i k).judgeLockBar i) :=
    (((h.same (modStn_places s i f)).setMotion i .unknown).same (by simp)).judgeLockBar i
  unfold State.enableStation
  dsimp only
  split
  case h_4 => exact judged
  all_goals exact judged.giveEntry i _

theorem takenOut (i : Stn) : InPlaces links sizes (s.takenOut i) := by
  have emptied : InPlaces links sizes (((s.modCab i fun k =>
      { Cabinet.reset with outstanding := k.outstanding }).voidVisits i).modLock i LockRec.disable) := h.same rfl
  exact (emptied.dropEntry i).same rfl

theorem disableStation (i : Stn) : InPlaces links sizes (s.disableStation i) := by
  have blanked := (h.same (modStn_places s i Station.blank)).setMotion i .disabled
  rw [disableStation_eq]
  exact ((blanked.takenOut i).judgeLock i).same (setChan_places ..)

theorem maskSet (l : Link) (before : BitVec 10) : InPlaces links sizes (s.maskSet l before) :=
  h.ite _ (h.modLink l fun k => k.produceNotice _)

theorem applyParam (p : Param) (before : Params) : InPlaces links sizes (s.applyParam p before) := by
  cases p with
  | heatPriority => exact h.same rfl
  | mastEnable => exact (h.enableMasts before).evaluate false
  | mastSilence => exact h.moveMastSilence.evaluate false
  | minMasts => exact h.evaluate false
  | snowClass | snowTemp | autoSnow => exact h.judgeAuto _
  | snowIdle => exact (h.same (moveIdle_places s)).judgeParks
  | panelSilence => exact h.foldl (fun k i => k.moveSilence i) _
  | missLimit => exact h.foldl (fun k i => k.judgeLoss i) _
  | maskS | maskO => exact h.maskSet _ _
  | _ => exact h

theorem setTaken (num idx : Nat) (p : Param) (v : Int) : InPlaces links sizes (s.setTaken num idx p v).state :=
  (h.same (t := { s with cfg := s.cfg.assign p v }) rfl).applyParam p s.cfg

end InPlaces

/-- A handler of requests keeps the rules on places. -/
def KeepsPlaces (q : State → List Byte → Result) : Prop :=
  ∀ {links sizes : Prop} {s : State}, InPlaces links sizes s → ∀ p, InPlaces links sizes (q s p).state

/-- A request without arguments keeps the rules where what it runs keeps them. -/
theorem InPlaces.noArgs {links sizes : Prop} {s : State} {r : Unit → Result} (h : InPlaces links sizes s)
    (k : InPlaces links sizes (r ()).state) (p : List Byte) : InPlaces links sizes (noArgs p r s).state := by
  unfold Machine.noArgs
  split
  · exact k
  · exact h

theorem takeSlew_keepsPlaces : KeepsPlaces takeSlew := fun h p => by
  unfold takeSlew
  split
  · exact h
  next a _ =>
    split
    next => exact h
    next room => exact h.addGroup a (not_le.mp room)

theorem takeCancel_keepsPlaces : KeepsPlaces takeCancel := fun h p => by
  unfold takeCancel
  split
  · split
    · exact h
    · split
      · exact h
      · exact h.endGroup _ _
  · exact h

theorem takeFlush_keepsPlaces : KeepsPlaces takeFlush := fun h p => h.noArgs (h.foldl (fun k g => k.endGroup _ g) _) p

theorem takeResume_keepsPlaces : KeepsPlaces takeResume := fun {_ _ s} h p => h.noArgs ((h.suspend false).displayNotices s) p

theorem takeRest_keepsPlaces : KeepsPlaces takeRest := fun h p => by
  unfold takeRest
  split
  · exact h
  · exact h.foldl (fun k i => k.brakePointed i) _

theorem takeSteer_keepsPlaces : KeepsPlaces takeSteer := fun h p => by
  unfold takeSteer
  split
  · exact h
  next a _ =>
    split
    next => exact h
    next room => exact h.addSteer a (not_le.mp room)

theorem takeHalt_keepsPlaces : KeepsPlaces takeHalt := fun h p => by
  unfold takeHalt
  split
  · exact h
  · exact h.foldl (fun k i => k.haltStation i) _

theorem takeStowAll_keepsPlaces : KeepsPlaces takeStowAll := fun h p => h.noArgs h.stowAll p

theorem takeUnstow_keepsPlaces : KeepsPlaces takeUnstow := fun h p => by
  refine h.noArgs ?_ p
  dsimp only
  split
  · exact h.beginEnding
  · split <;> exact h

theorem takeSnowOn_keepsPlaces : KeepsPlaces takeSnowOn := fun h p => h.noArgs (h.snowTurnOn _) p

theorem takeSnowOff_keepsPlaces : KeepsPlaces takeSnowOff := fun h p => h.noArgs h.snowTurnOff p

theorem takeConsoleLock_keepsPlaces : KeepsPlaces takeConsoleLock := fun h p => by
  unfold takeConsoleLock
  split
  · exact h
  · split
    · exact h
    · exact (h.same (joinSlot_places ..)).judgeLockBar _

theorem takeConsoleUnlock_keepsPlaces : KeepsPlaces takeConsoleUnlock := fun h p => by
  unfold takeConsoleUnlock
  split
  · exact h
  · split
    · exact h
    · split
      · exact (h.same (emptySlot_places ..)).judgeLockBar _
      · exact h

theorem takeWriteOff_keepsPlaces : KeepsPlaces takeWriteOff := fun h p => by
  unfold takeWriteOff
  split
  · exact h
  · split
    · exact h.same rfl
    · exact h

theorem takeEnable_keepsPlaces : KeepsPlaces takeEnable := fun h p => by
  unfold takeEnable
  split
  · exact h
  · exact (h.foldl (fun k i => k.enableStation i) _).same (wakeLines_places _)

theorem takeDisable_keepsPlaces : KeepsPlaces takeDisable := fun h p => by
  unfold takeDisable
  split
  · exact h
  · dsimp only
    split
    · exact h.foldl (fun k i => k.disableStation i) _
    · exact h

theorem takeSet_keepsPlaces : KeepsPlaces takeSet := fun h p => by
  unfold takeSet
  split
  · exact h
  · split
    next =>
      split
      · exact h
      · dsimp only
        split
        · exact h
        · exact h.setTaken ..
    next => exact h

theorem takeClear_keepsPlaces : KeepsPlaces takeClear := fun h p => h.noArgs h.clearQueues p

theorem takeAck_keepsPlaces (l : Link) : KeepsPlaces (takeAck l) := fun h p => by
  unfold takeAck
  split
  · exact h.modLink l (f := fun k => k.lowerFlags _) id
  · exact h

theorem takeDump_keepsPlaces : KeepsPlaces takeDump := fun {_ _ s} h p => by
  have cleared (t : Stats) (b : Bool) : InPlaces _ _ (if b then { s with stats := t } else s) :=
    InPlaces.ite (s := { s with stats := t }) (h.same rfl) _ h
  unfold takeDump
  split
  · split
    · exact h
    · split
      · exact cleared _ _
      · split
        · exact cleared _ _
        · exact h
  · exact h

namespace InPlaces
variable {links sizes : Prop} {s : State} (h : InPlaces links sizes s)
include h

/-! ### Receivers and requests (R173 to R176) -/

theorem setRx (ln : Line) (r : Receiver) : InPlaces links sizes (s.setRx ln r) := by
  cases ln with
  | linkS => exact h.modLink .S (f := fun k => { k with rx := r }) id
  | linkO => exact h.modLink .O (f := fun k => { k with rx := r }) id
  | site => exact h.same rfl

theorem gathered (ln : Line) (rest : List Byte) : InPlaces links sizes (s.gathered ln rest) :=
  (h.setRx ln _).same (modLine_places ..)

theorem discard (ln : Line) (held : List Byte) : InPlaces links sizes (s.discard ln held) :=
  ((h.setRx ln _).same (modLine_places ..)).notice _ _

/-- A frame takes a place of the FIFO that is free, or is dropped (R174). -/
theorem joinFifo (l : Link) (f : Frame) : InPlaces links sizes (s.joinFifo l f) := by
  unfold State.joinFifo
  split
  next => exact (h.same (modLine_places ..)).notice l _
  next room =>
    refine h.modLink l fun ⟨_, reports, idle⟩ => ?_
    have joined : LinkState.Ruled { s.link l with fifo := (s.link l).fifo ++ [f] } :=
      ⟨by simpa using not_le.mp room, reports, idle⟩
    exact joined.judgePause _

theorem siteFrame {t : State} {bytes : List Byte} {p : Frame → Bool} {f : Frame}
    (ht : s.siteFrame bytes p = some (f, t)) : InPlaces links sizes t := by
  unfold State.siteFrame at ht
  split at ht
  next g rest _ =>
    split at ht
    · cases ht
      exact h.gathered .site rest
    · cases ht
  next => cases ht

theorem openRequest (l : Link) (f : Frame) : InPlaces links sizes (s.openRequest l f) := by
  unfold State.openRequest
  exact h.modLink l fun k => k.openRequest _ f.tag

theorem answer (l : Link) (kind : Byte) (c : Code) (data : List Byte) : InPlaces links sizes (s.answer l kind c data) :=
  h.modLink l fun k => k.fillReply _

theorem takeQuery (l : Link) (c : Instr) (q : State → List Byte → Code × List Byte) : InPlaces links sizes (s.takeQuery l c q) := by
  unfold State.takeQuery
  split
  · exact h
  · exact (h.openRequest l _).answer l ..

theorem takeUnknown (l : Link) : InPlaces links sizes (s.takeUnknown l) := by
  unfold State.takeUnknown
  split
  · exact h
  · exact (h.openRequest l _).answer l ..

theorem takeRequest {q : State → List Byte → Result} (hq : KeepsPlaces q) (l : Link) (c : Instr) :
    InPlaces links sizes (s.takeRequest l c q) := by
  unfold State.takeRequest
  split
  · exact h
  next f _ =>
    have acted := hq (h.openRequest l f) f.payload
    exact ((acted.settle ..).ite _ acted).answer l ..

theorem takeLocal {q : State → List Byte → Result} (hq : KeepsPlaces q) (l : Link) (c : Instr) :
    InPlaces links sizes (s.takeLocal l c q) := by
  unfold State.takeLocal
  split
  · exact h
  next f _ => exact (hq (h.openRequest l f) f.payload).answer l ..

/-! ### The line events and the expiries -/

theorem linkFrame (l : Link) (bytes : List Byte) : InPlaces links sizes (s.linkFrame l bytes) := by
  unfold State.linkFrame
  split
  · exact (h.gathered _ _).joinFifo l _
  · exact h

theorem badFrame (ln : Line) (bytes : List Byte) : InPlaces links sizes (s.badFrame ln bytes) := by
  unfold State.badFrame
  split
  · exact h.discard ln _
  · exact h

theorem startCollecting (ln : Line) (bytes : List Byte) : InPlaces links sizes (s.startCollecting ln bytes) := by
  unfold State.startCollecting
  split
  · exact h.setRx ln _
  · exact h

theorem mastFrame (bytes : List Byte) : InPlaces links sizes (s.mastFrame bytes) := by
  unfold State.mastFrame
  split
  next => exact h
  next ht =>
    split
    · exact ((h.siteFrame ht).takeMast _ _).settle ..
    · exact h

theorem precipFrame (bytes : List Byte) : InPlaces links sizes (s.precipFrame bytes) := by
  unfold State.precipFrame
  split
  next => exact h
  next ht =>
    split
    · split
      · exact ((h.siteFrame ht).takePrecip _ _).settle ..
      · exact h.siteFrame ht
    · exact h

theorem feederFrame (bytes : List Byte) : InPlaces links sizes (s.feederFrame bytes) := by
  unfold State.feederFrame
  split
  next => exact h
  next t ht =>
    split
    next n _ => exact ((h.siteFrame ht).same (t := t.takeFeeder n) rfl).settle ..
    next => exact h

theorem ignoredFrame (bytes : List Byte) : InPlaces links sizes (s.ignoredFrame bytes) := by
  unfold State.ignoredFrame
  split
  next => exact h
  next ht => exact h.siteFrame ht

theorem dropVisit (v : BusVisit) : InPlaces links sizes ((s.dropOutstanding v.station).endVisit v) := h.same (by simp)

theorem statusReply (bytes : List Byte) : InPlaces links sizes (s.statusReply bytes) := by
  unfold State.statusReply
  split
  · exact h
  · split
    · exact h
    · exact (h.dropVisit _).ite _ (((h.takeReply _ _ _).settle ..).same (endVisit_places ..))

theorem missVisit (v : BusVisit) : InPlaces links sizes (s.missVisit v) :=
  (h.dropVisit v).ite _ (((h.miss _).settle ..).same (endVisit_places ..))

theorem badReply (bytes : List Byte) : InPlaces links sizes (s.badReply bytes) := by
  unfold State.badReply
  split
  · exact h
  · exact h.ite _ (h.missVisit _)

theorem replyTimeout : InPlaces links sizes s.replyTimeout := by
  unfold State.replyTimeout
  split
  · exact h
  · exact (h.missVisit _).ite _ h

theorem keysReply (bytes : List Byte) : InPlaces links sizes (s.keysReply bytes) := by
  unfold State.keysReply
  split
  · exact h
  · split
    · exact h
    · exact (h.ite _ ((h.takeKeys _ _).settle ..)).same (nextPanel_places ..)

theorem panelMissed (bytes : Option (List Byte)) : InPlaces links sizes (s.panelMissed bytes) := by
  have next {v : Option Stn} : InPlaces links sizes (s.nextPanel v) := h.same (nextPanel_places ..)
  unfold State.panelMissed
  split
  · exact h
  · split
    · exact h.ite _ next
    · exact next.ite _ h

theorem deadlineEnd : InPlaces links sizes s.deadlineEnd := by
  have passed := h.recamp (c := { s.camp with deadline := none }) rfl
  exact passed.ite _ ((passed.recamp (c := { s.camp with deadline := none, late := true }) rfl).noticeBoth .late)

theorem clearEnd : InPlaces links sizes s.clearEnd := by
  have stopped : InPlaces links sizes { s with snow := { s.snow with clearTimer := none } } := h.same rfl
  exact stopped.snowTurnOff.ite _ stopped

theorem idleEnd (i : Stn) : InPlaces links sizes (s.idleEnd i) := by
  have judged : InPlaces links sizes { s with snow := { s.snow with idleExpiry := upd s.snow.idleExpiry i fun _ => none } } :=
    h.same rfl
  exact judged.judgePark i

/-! ### Every command -/

omit h in
/-- The next state of an outcome that is written out keeps the rules that are known of it. -/
theorem next {r t : State} (e : (.next r : Out) = .next t) (h : InPlaces links sizes r) : InPlaces links sizes t :=
  Host.Outcome.next.inj e ▸ h

/-- An expiry, due or not, keeps the rules where its event keeps them. -/
theorem expire {t : State} {due : Bool} {f : State → State} (hf : ∀ {s}, InPlaces links sizes s → InPlaces links sizes (f s))
    (e : s.expire due f = .next t) : InPlaces links sizes t := by
  cases due with
  | false => exact next e h
  | true => exact next e ((hf h).settle ..)

omit h in
/-- Reset empties every queue (R186). -/
theorem powerOnReset (n : Nat) (l : List Instr) : InPlaces links sizes { State.reset with choices := n, pending := l } where
  links _ := (linkRule_iff _).mpr ((linkRule_iff _).mp reset_linkRule)
  sizes _ := reset_sizeRule

/-- Every command keeps the rules on places. -/
theorem exec {c : Instr} {t : State} (e : exec c s = .next t) : InPlaces links sizes t := by
  cases c with
  | powerOnReset => exact next e (powerOnReset ..)
  | linkFrameReceived l b => exact next e (h.linkFrame l b)
  | badFrame ln b => exact next e (h.badFrame ln b)
  | collectingStart ln b => exact next e (h.startCollecting ln b)
  | transmitFrameEnd l => exact next e (h.modLink l fun k => k.endFrame)
  | slew => exact next e (h.takeRequest takeSlew_keepsPlaces ..)
  | cancel => exact next e (h.takeRequest takeCancel_keepsPlaces ..)
  | flush => exact next e (h.takeRequest takeFlush_keepsPlaces ..)
  | resume => exact next e (h.takeRequest takeResume_keepsPlaces ..)
  | rest => exact next e (h.takeRequest takeRest_keepsPlaces ..)
  | steer => exact next e (h.takeRequest takeSteer_keepsPlaces ..)
  | halt => exact next e (h.takeRequest takeHalt_keepsPlaces ..)
  | stowAll => exact next e (h.takeRequest takeStowAll_keepsPlaces ..)
  | unstow => exact next e (h.takeRequest takeUnstow_keepsPlaces ..)
  | snowOn => exact next e (h.takeRequest takeSnowOn_keepsPlaces ..)
  | snowOff => exact next e (h.takeRequest takeSnowOff_keepsPlaces ..)
  | consoleLock => exact next e (h.takeRequest takeConsoleLock_keepsPlaces ..)
  | consoleUnlock => exact next e (h.takeRequest takeConsoleUnlock_keepsPlaces ..)
  | writeOff => exact next e (h.takeRequest takeWriteOff_keepsPlaces ..)
  | enable => exact next e (h.takeRequest takeEnable_keepsPlaces ..)
  | disable => exact next e (h.takeRequest takeDisable_keepsPlaces ..)
  | setParam => exact next e (h.takeRequest takeSet_keepsPlaces ..)
  | clearAll => exact next e (h.takeRequest takeClear_keepsPlaces ..)
  | getParam => exact next e (h.takeQuery ..)
  | qStation l | qPower l | qWind l | qCampaign l | qQueue l | qLockout l => exact next e (h.takeQuery ..)
  | ack l => exact next e (h.takeLocal (takeAck_keepsPlaces l) ..)
  | dump l => exact next e (h.takeLocal takeDump_keepsPlaces ..)
  | unknownRequestKind l => exact next e (h.takeUnknown l)
  | mast b => exact next e (h.mastFrame b)
  | precip b => exact next e (h.precipFrame b)
  | feeder b => exact next e (h.feederFrame b)
  | siteFrameIgnored b => exact next e (h.ignoredFrame b)
  | statusReply b => exact next e (h.statusReply b)
  | badReply b => exact next e (h.badReply b)
  | replyTimeoutExpiry => exact next e h.replyTimeout
  | keys b => exact next e (h.keysReply b)
  | panelReplyMissed b => exact next e (h.panelMissed b)
  | panelSilenceExpiry i => exact h.expire (fun k => k.panelSilent i) e
  | warningExpiry i => exact h.expire (fun k => k.warningEnd i) e
  | silenceExpiry m => exact h.expire (fun k => k.silenceEnd m) e
  | dwellExpiry => exact h.expire (fun k => k.evaluate true) e
  | deadlineExpiry => exact h.expire (fun k => k.deadlineEnd) e
  | clearTimerExpiry => exact h.expire (fun k => k.clearEnd) e
  | timerAExpiry i => exact h.expire (fun k => k.same (stopHeat_places ..)) e
  | timerBExpiry i => exact h.expire (fun k => k.same (startCycle_places ..)) e
  | idleExpiry i => exact h.expire (fun k => k.idleEnd i) e

/-- A step takes a command, or only time. -/
theorem step {t : State} (e : step s = .next t) : InPlaces links sizes t := by
  unfold Machine.step idle at e
  split at e
  next c rest _ => exact exec (h.same (t := { s with pending := rest }) rfl) e
  next =>
    split at e
    next => exact h.exec e
    next => exact next e (h.same rfl)

end InPlaces

/-- Settles O5: every command keeps both rules, each on its own ground. -/
theorem stepKeepsQueueBounds : Obligations.StepKeepsQueueBounds :=
  ⟨fun s _ ground e => (InPlaces.step (links := True) (sizes := False) (s := s) ⟨fun _ => ground, nofun⟩ e).links trivial,
    fun s _ ground e => (InPlaces.step (links := False) (sizes := True) (s := s) ⟨nofun, fun _ => ground⟩ e).sizes trivial⟩

end Sys2Proof.Machine

/-! # New groups and steers, CANCEL and HALT (O24 to O26, O28) -/

namespace Sys2Proof.Machine

/-! ### Free numbers (R40, R51) -/

/-- The numbers of an item lie between 1 and 65535 (R40). -/
def NumberLegal (n : Nat) : Prop := 1 ≤ n ∧ n ≤ 65535

theorem NumberLegal.after {n : Nat} (h : NumberLegal n) : NumberLegal (numberAfter n) := by
  obtain ⟨low, high⟩ := h
  unfold numberAfter NumberLegal
  split <;> omega

/-- The number reached after j steps: the legal numbers form one cycle, on which it lies j places further. -/
theorem numberAfter_iterate {n : Nat} (h : NumberLegal n) (j : Nat) : numberAfter^[j] n = (n - 1 + j) % 65535 + 1 := by
  obtain ⟨low, high⟩ := h
  induction j with
  | zero =>
    rw [Function.iterate_zero, id_eq, Nat.mod_eq_of_lt (by omega)]
    omega
  | succ j ih =>
    rw [Function.iterate_succ_apply', ih, numberAfter]
    split <;> omega

/-- Fewer steps than the cycle has places never meet. -/
theorem numberAfter_iterate_inj {n j k : Nat} (h : NumberLegal n) (hj : j < 65535) (hk : k < 65535)
    (e : numberAfter^[j] n = numberAfter^[k] n) : j = k := by
  rw [numberAfter_iterate h, numberAfter_iterate h] at e
  have cycle : n - 1 + j ≡ n - 1 + k [MOD 65535] := Nat.succ_injective e
  exact (Nat.ModEq.add_left_cancel' _ cycle).eq_of_lt_of_lt hj hk

theorem freeNumber_legal (used : List Nat) (k : Nat) {n : Nat} (h : NumberLegal n) : NumberLegal (freeNumber used k n) := by
  induction k generalizing n with
  | zero => exact h
  | succ k ih =>
    unfold freeNumber
    split
    · exact ih h.after
    · exact h

/-- The search ends at a number in use only where every number that it tried is in use. -/
theorem tried_of_freeNumber_mem {used : List Nat} {k n : Nat} (h : freeNumber used k n ∈ used) :
    ∀ j ≤ k, numberAfter^[j] n ∈ used := by
  induction k generalizing n with
  | zero =>
    intro j hj
    obtain rfl : j = 0 := by omega
    exact h
  | succ k ih =>
    unfold freeNumber at h
    split at h
    next taken =>
      intro j hj
      cases j with
      | zero => simpa using taken
      | succ j => exact ih h j (by omega)
    next free => exact absurd h (by simpa using free)

/-- A search that tries more numbers than are in use ends at a free one. -/
theorem freeNumber_not_mem {used : List Nat} {k n : Nat} (h : NumberLegal n) (room : used.length ≤ k) (hk : k < 65535) :
    freeNumber used k n ∉ used := by
  intro mem
  have tried := tried_of_freeNumber_mem mem
  have distinct : ((List.range (k + 1)).map fun j => numberAfter^[j] n).Nodup := by
    refine List.Nodup.map_on (fun i hi j hj e => ?_) List.nodup_range
    rw [List.mem_range] at hi hj
    exact numberAfter_iterate_inj h (by omega) (by omega) e
  have inUse : ((List.range (k + 1)).map fun j => numberAfter^[j] n) ⊆ used := by
    intro m hm
    obtain ⟨j, hj, rfl⟩ := List.mem_map.mp hm
    exact tried j (by rw [List.mem_range] at hj; omega)
  have fewer := (distinct.subperm inUse).length_le
  rw [List.length_map, List.length_range] at fewer
  omega

/-- Settles O24: 17 tries pass over at most 16 numbers. -/
theorem newNumbersAreFree : Obligations.NewNumbersAreFree := by
  have free {used : List Nat} {n : Nat} (few : used.length ≤ 16) (low : 1 ≤ n) (high : n ≤ 65535) :
      1 ≤ freeNumber used 17 n ∧ freeNumber used 17 n ≤ 65535 ∧ freeNumber used 17 n ∉ used := by
    obtain ⟨legalLow, legalHigh⟩ := freeNumber_legal used 17 ⟨low, high⟩
    exact ⟨legalLow, legalHigh, freeNumber_not_mem ⟨low, high⟩ (by omega) (by omega)⟩
  refine ⟨fun q few => free ?_, fun q few => free ?_⟩
  · rwa [List.length_map]
  · rw [List.length_map]; omega

/-! ### SLEW and STEER (R38 to R40, R51) -/

/-- A ready request that its handler refuses is answered with the code and changes nothing. -/
theorem takeRequest_refused {s : State} {l : Link} {f : Frame} {k : Byte} {g : State → List Byte → Result} {c : Code}
    (h : Ready s l f k) (hc : c ≠ .done) (hg : g (s.openRequest l f) f.payload = (s.openRequest l f).refuse c) :
    s.takeRequest l (requestOf l k) g = requestAnswered s l f c [] := by
  rw [takeRequest_ready h, hg]
  exact congrArg (fun t : State => t.answer l f.kind c []) (if_neg hc)

@[simp] theorem openRequest_oper (s : State) (l : Link) (f : Frame) : (s.openRequest l f).oper = s.oper := modLink_oper ..

section Requests
variable {s : State} {f : Frame} {c : Code}

theorem slew_refused (h : Ready s .S f 0x01) (hc : c ≠ .done)
    (refused : takeSlew (s.openRequest .S f) f.payload = (s.openRequest .S f).refuse c) :
    exec .slew s = .next (requestAnswered s .S f c []) :=
  congrArg Host.Outcome.next (takeRequest_refused (g := takeSlew) h hc refused)

theorem steer_refused (h : Ready s .O f 0x10) (hc : c ≠ .done)
    (refused : takeSteer (s.openRequest .O f) f.payload = (s.openRequest .O f).refuse c) :
    exec .steer s = .next (requestAnswered s .O f c []) :=
  congrArg Host.Outcome.next (takeRequest_refused (g := takeSteer) h hc refused)

theorem slew_done {a : SlewArgs} (h : Ready s .S f 0x01) (ha : slewArgs f.payload = some a)
    (room : s.sched.groups.length < groupPlaces) :
    exec .slew s = .next (requestDone s .S f (fun o => o.addGroup a) (u16 s.sched.take)) := by
  refine congrArg Host.Outcome.next (takeRequest_done (g := takeSlew) h ?_)
  simp only [takeSlew, ha, openRequest_sched, if_neg (not_le.mpr room)]

theorem steer_done {a : SteerArgs} (h : Ready s .O f 0x10) (ha : steerArgs f.payload = some a)
    (room : s.oper.steers.length < steerPlaces) :
    exec .steer s = .next (requestDone s .O f (fun o => o.addSteer a) (u16 s.oper.take)) := by
  refine congrArg Host.Outcome.next (takeRequest_done (g := takeSteer) h ?_)
  simp only [takeSteer, ha, openRequest_oper, if_neg (not_le.mpr room)]

end Requests

/-- Settles O25. -/
theorem slewQueuesAGroup : Obligations.SlewQueuesAGroup := by
  refine ⟨fun s f a h ha room => ⟨slew_done h ha room, ?joined⟩, fun s f a h ha full => slew_refused h nofun ?full,
    fun s f h ha => slew_refused h nofun ?malformed⟩
  case joined => rw [State.addGroup, displayNotices_sched]
  case full => simp only [takeSlew, ha, openRequest_sched, groupPlaces, if_pos full]
  case malformed => simp only [takeSlew, ha]

/-! ### Motions that a group or HALT ends (R5, R21, R47, R57) -/

/-- A waiting motion that is withdrawn returns its station to its rest posture, without owner, and leaves the list (R5). -/
theorem withdrawWaiting_returns (s : State) (i : Stn) (o : MoveOutcome) :
    ((s.withdrawWaiting i o).stn i).motion = ((s.stn i).posture.getD .held).motion ∧
      ((s.withdrawWaiting i o).stn i).owner = none ∧ ∀ e ∈ (s.withdrawWaiting i o).power.list, i ∉ e.motionStns := by
  have eq : s.withdrawWaiting i o = ((s.giveOutcome i o).leaveMotion i).setMotion i ((s.stn i).posture.getD .held).motion := by
    rw [State.withdrawWaiting, giveOutcome_leaveMotion]
  obtain ⟨hmotion, howner, -⟩ := setMotion_stn ((s.giveOutcome i o).leaveMotion i) i ((s.stn i).posture.getD .held).motion
  obtain ⟨-, -, -, -, -, -, -, -, -, -, hlist, -⟩ :=
    setMotion_rest ((s.giveOutcome i o).leaveMotion i) i ((s.stn i).posture.getD .held).motion
  rw [eq]
  refine ⟨hmotion, howner.trans (giveOutcome_owner ..), fun e he mem => ?_⟩
  rw [hlist] at he
  unfold Entry.motionStns at mem
  split at mem
  next g ps body =>
    obtain ⟨p, hp, hi⟩ := List.mem_map.mp mem
    exact leaveMotion_absent _ i e he g ps body p hp hi
  next => cases mem

section EndOwned
variable {s : State} {i : Stn} {w : Owner} {o : MoveOutcome}

theorem endOwned_of_ne (h : (s.stn i).owner ≠ some w) : State.endOwned w o s i = s := if_neg h

theorem endOwned_admitting (hw : (s.stn i).owner = some w) (hm : (s.stn i).motion = .admitting) :
    State.endOwned w o s i = s.withdrawWaiting i o := by simp only [State.endOwned, hw, hm, if_true]

theorem endOwned_slewing (hw : (s.stn i).owner = some w) (hm : (s.stn i).motion = .slewing) :
    State.endOwned w o s i = s.stopMoving i o := by simp only [State.endOwned, hw, hm, if_true]

theorem endOwned_view (s : State) (i : Stn) (w : Owner) (o : MoveOutcome) : (State.endOwned w o s i).view i = s.view i := by
  unfold State.endOwned
  split
  · split <;> simp
  · rfl

/-- A pass leaves the records of a station that the owner does not have. -/
theorem foldl_endOwned_others (l : List Stn) (h : i ∉ l ∨ (s.stn i).owner ≠ some w) :
    (l.foldl (State.endOwned w o) s).stn i = s.stn i ∧ (l.foldl (State.endOwned w o) s).cab i = s.cab i := by
  induction l generalizing s with
  | nil => exact ⟨rfl, rfl⟩
  | cons a l ih =>
    have step : (State.endOwned w o s a).stn i = s.stn i ∧ (State.endOwned w o s a).cab i = s.cab i := by
      by_cases e : i = a
      · subst e
        rw [endOwned_of_ne (h.resolve_left (by simp))]
        exact ⟨rfl, rfl⟩
      · exact others_of_view (endOwned_view s a w o) e
    obtain ⟨hstn, hcab⟩ := ih (s := State.endOwned w o s a) (by
      rw [step.1]
      exact h.imp_left fun out mem => out (List.mem_cons_of_mem _ mem))
    exact ⟨hstn.trans step.1, hcab.trans step.2⟩

/-- In a pass over the stations of a group each has its motion ended once, in a state that still shows its record as it was. -/
theorem foldl_endOwned_ends {l : List Stn} (mem : i ∈ l)
    (once : ∀ t : State, t.stn i = s.stn i → ((State.endOwned w o t i).stn i).owner ≠ some w) :
    ∃ t : State, t.stn i = s.stn i ∧ (l.foldl (State.endOwned w o) s).stn i = (State.endOwned w o t i).stn i ∧
      (l.foldl (State.endOwned w o) s).cab i = (State.endOwned w o t i).cab i := by
  induction l generalizing s with
  | nil => cases mem
  | cons a l ih =>
    by_cases e : i = a
    · subst e
      exact ⟨s, rfl, foldl_endOwned_others l (.inr (once s rfl))⟩
    · have same : (State.endOwned w o s a).stn i = s.stn i := (others_of_view (endOwned_view s a w o) e).1
      obtain ⟨t, ht, ended⟩ := ih (s := State.endOwned w o s a) ((List.mem_cons.mp mem).resolve_left e)
        (by rwa [same])
      exact ⟨t, ht.trans same, ended⟩

end EndOwned

/-! ### CANCEL (R44, R47) -/

/-- A group that is ended has an outcome for every member (R44). -/
theorem endGroup_complete {s : State} {o : MoveOutcome} {g h : Group} (mem : h ∈ (s.endGroup o g).sched.groups)
    (number : h.number = g.number) : h.complete = true := by
  obtain ⟨k, -, hk⟩ := List.mem_map.mp mem
  split at hk
  next =>
    subst hk
    simp [Group.complete]
  next other => exact absurd (hk ▸ number) other

section EndGroup
variable {s : State} {i : Stn} {o : MoveOutcome} {g : Group}

/-- A member under way is stopped. -/
theorem endGroup_slewing (mem : i ∈ g.stations) (hw : (s.stn i).owner = some (.group g.number))
    (hm : (s.stn i).motion = .slewing) :
    ((s.endGroup o g).stn i).motion = .stopping ∧ ((s.endGroup o g).stn i).owner = none ∧
      ((s.endGroup o g).cab i).motion = some .stop := by
  have stopped (t : State) (ht : t.stn i = s.stn i) : ((State.endOwned (.group g.number) o t i).stn i).motion = .stopping ∧
      ((State.endOwned (.group g.number) o t i).stn i).owner = none ∧
      ((State.endOwned (.group g.number) o t i).cab i).motion = some .stop := by
    rw [← ht] at hw hm
    rw [endOwned_slewing hw hm]
    obtain ⟨motion, owner, -, -, slot, -⟩ := stopMoving_effect t i o (.inl hm)
    exact ⟨motion, owner, slot⟩
  obtain ⟨t, ht, hstn, hcab⟩ := foldl_endOwned_ends (o := o) mem fun t ht => by
    rw [(stopped t ht).2.1]; exact nofun
  obtain ⟨motion, owner, slot⟩ := stopped t ht
  rw [← hstn] at motion owner
  rw [← hcab] at slot
  exact ⟨motion, owner, slot⟩

/-- A member that waits returns to its rest posture. -/
theorem endGroup_admitting (mem : i ∈ g.stations) (hw : (s.stn i).owner = some (.group g.number))
    (hm : (s.stn i).motion = .admitting) :
    ((s.endGroup o g).stn i).motion = ((s.stn i).posture.getD .held).motion ∧ ((s.endGroup o g).stn i).owner = none := by
  have withdrawn (t : State) (ht : t.stn i = s.stn i) : ((State.endOwned (.group g.number) o t i).stn i).motion =
      ((s.stn i).posture.getD .held).motion ∧ ((State.endOwned (.group g.number) o t i).stn i).owner = none := by
    rw [← ht] at hw hm ⊢
    rw [endOwned_admitting hw hm]
    obtain ⟨motion, owner, -⟩ := withdrawWaiting_returns t i o
    exact ⟨motion, owner⟩
  obtain ⟨t, ht, hstn, -⟩ := foldl_endOwned_ends (o := o) mem fun t ht => by
    rw [(withdrawn t ht).2]; exact nofun
  obtain ⟨motion, owner⟩ := withdrawn t ht
  rw [← hstn] at motion owner
  exact ⟨motion, owner⟩

end EndGroup

section Cancel
variable {s : State} {f : Frame} {a b : Byte}

@[simp] theorem openRequest_group? (s : State) (l : Link) (f : Frame) (n : Nat) : (s.openRequest l f).group? n = s.group? n := by
  simp only [State.group?, openRequest_sched]

theorem cancel_refused {c : Code} (h : Ready s .S f 0x02) (hc : c ≠ .done)
    (refused : takeCancel (s.openRequest .S f) f.payload = (s.openRequest .S f).refuse c) :
    exec .cancel s = .next (requestAnswered s .S f c []) :=
  congrArg Host.Outcome.next (takeRequest_refused (g := takeCancel) h hc refused)

theorem cancel_done {g : Group} (h : Ready s .S f 0x02) (hp : f.payload = [a, b]) (hn : rd16 a b ≠ 0)
    (hg : s.group? (rd16 a b) = some g) :
    exec .cancel s = .next (requestDone s .S f (fun o => o.endGroup .cancelled g) []) := by
  refine congrArg Host.Outcome.next (takeRequest_done (g := takeCancel) h ?_)
  simp only [takeCancel, hp, if_neg hn, openRequest_group?, hg]

end Cancel

/-- Settles O26. -/
theorem cancelCompletesTheGroup : Obligations.CancelCompletesTheGroup := by
  refine ⟨fun s f a b g => cancel_done, fun s f a b h hp hn hg => cancel_refused h nofun ?unheld,
    fun s f a b h hp hn => cancel_refused h nofun ?zero, fun s o g h => endGroup_complete,
    fun s o g i mem hw => ⟨endGroup_slewing mem hw, endGroup_admitting mem hw⟩⟩
  case unheld => simp only [takeCancel, hp, if_neg hn, openRequest_group?, hg]
  case zero => simp only [takeCancel, hp, if_pos hn]

/-! ### HALT (R57) -/

section Halt
variable {s : State} {i : Stn}

theorem haltStation_admitting (hm : (s.stn i).motion = .admitting) : s.haltStation i = s.withdrawWaiting i .halted := by
  simp only [State.haltStation, hm]

theorem haltStation_moving (hm : (s.stn i).motion = .slewing ∨ (s.stn i).motion = .stowing) :
    s.haltStation i = s.stopMoving i .halted := by
  obtain hm | hm := hm <;> simp only [State.haltStation, hm]

/-- A station that has no motion to end has a steer that waits for its rest completed (R57). -/
theorem haltStation_idle (h1 : (s.stn i).motion ≠ .admitting) (h2 : (s.stn i).motion ≠ .slewing)
    (h3 : (s.stn i).motion ≠ .stowing) :
    s.haltStation i = { s with oper := { s.oper with steers := s.oper.steers.map fun t =>
      if t.station = i ∧ t.state = .waitingRest then { t with outcome := some (t.outcome.getD .halted) } else t } } := by
  have record (t : Steer) : t.record .halted = { t with outcome := some (t.outcome.getD .halted) } := by
    unfold Steer.record
    cases t.outcome <;> rfl
  unfold State.haltStation
  split
  next h => exact absurd h h1
  next h => exact absurd h h2
  next h => exact absurd h h3
  next => simp only [record]

theorem haltActs_of_owned (h : (s.stn i).motion = .admitting ∨ (s.stn i).motion = .slewing ∨ (s.stn i).motion = .stowing) :
    s.haltActs i = true := by
  obtain h | h | h := h <;> simp only [State.haltActs, h]

theorem haltActs_idle (h1 : (s.stn i).motion ≠ .admitting) (h2 : (s.stn i).motion ≠ .slewing)
    (h3 : (s.stn i).motion ≠ .stowing) :
    s.haltActs i = true ↔ ∃ t ∈ s.oper.steers, t.station = i ∧ t.state = .waitingRest ∧ t.outcome = none := by
  have held : s.haltActs i = s.heldByWaitingSteer i := by
    unfold State.haltActs
    split
    next h => exact absurd h h1
    next h => exact absurd h h2
    next h => exact absurd h h3
    next => rfl
  rw [held]
  simp only [State.heldByWaitingSteer, List.any_eq_true, Bool.and_eq_true, decide_eq_true_eq, Option.isNone_iff_eq_none]
  exact exists_congr fun t => and_congr_right fun _ => by rw [and_assoc, and_left_comm]

theorem haltStation_view (s : State) (i : Stn) : (s.haltStation i).view i = s.view i := by
  unfold State.haltStation
  split
  · exact withdrawWaiting_view s i _
  · exact stopMoving_view s i _
  · exact stopMoving_view s i _
  · rfl

/-- The outcome of a halted motion is all that its queues, the roster and the counters take (R4, R57). -/
theorem haltStation_records (h : (s.stn i).motion = .admitting ∨ (s.stn i).motion = .slewing ∨ (s.stn i).motion = .stowing) :
    (s.haltStation i).sched = (s.giveOutcome i .halted).sched ∧ (s.haltStation i).oper = (s.giveOutcome i .halted).oper ∧
      (s.haltStation i).camp = (s.giveOutcome i .halted).camp ∧
      (s.haltStation i).stats = (s.giveOutcome i .halted).stats := by
  have ended : s.haltStation i ∈ [s.stopMoving i .halted, s.withdrawWaiting i .halted] := by
    obtain h | h := h
    · simp [haltStation_admitting h]
    · simp [haltStation_moving h]
  obtain ⟨sched, oper, camp, stats, -⟩ := ended_records s i .halted _ ended
  exact ⟨sched, oper, camp, stats⟩

/-- A stopped motion leaves the pin slot as its outcome left it. -/
theorem stopMoving_pin (s : State) (i : Stn) (o : MoveOutcome) :
    ((s.stopMoving i o).cab i).pin = ((s.giveOutcome i o).cab i).pin := by
  have placed (t : State) (c : MotionCmd) : ((t.placeMotion i c).cab i).pin = (t.cab i).pin := by
    unfold State.placeMotion
    dsimp only
    split <;> simp [Cabinet.overtake]
  rw [State.stopMoving, State.cab, (setMotion_rest ..).1]
  exact placed ..

/-- A halted stow leaves no PIN_IN unsent, and its roster entry is HALTED (R57, R111). -/
theorem haltStation_stow (hm : (s.stn i).motion = .stowing) (hw : (s.stn i).owner = some .stow) :
    ((s.haltStation i).cab i).pin ≠ some .pinIn ∧
      ∀ e, (s.haltStation i).entry? i = some e → e.status = .halted ∧ e.outcome = some .halted := by
  obtain ⟨-, -, camp, -⟩ := haltStation_records (.inr (.inr hm))
  constructor
  · rw [haltStation_moving (.inr hm), stopMoving_pin, (giveOutcome_stow_slots .halted hw).2]
    split
    · exact nofun
    · assumption
  · intro e he
    rw [State.entry?, camp, ← State.entry?, giveOutcome_stow .halted hw, stowOutcome_entry?] at he
    obtain ⟨x, -, rfl⟩ := Option.map_eq_some_iff.mp he
    exact ⟨rfl, rfl⟩

end Halt

section HaltRequest
variable {s : State} {f : Frame}

@[simp] theorem openRequest_haltActs (s : State) (l : Link) (f : Frame) (i : Stn) :
    (s.openRequest l f).haltActs i = s.haltActs i := by
  simp only [State.haltActs, State.heldByWaitingSteer, openRequest_stn, openRequest_oper]

theorem halt_done {i : Stn} {l : List Stn} (h : Ready s .O f 0x11) (hl : setArg f.payload = some (i :: l)) :
    exec .halt s = .next (requestDone s .O f (fun o => (i :: l).foldl State.haltStation o)
      (encSet ((i :: l).filter s.haltActs))) := by
  have acts : (s.openRequest .O f).haltActs = s.haltActs := funext fun j => openRequest_haltActs ..
  refine congrArg Host.Outcome.next (takeRequest_done (g := takeHalt) h ?_)
  simp only [takeHalt, someStns_of_setArg hl, acts]

theorem halt_refused (h : Ready s .O f 0x11) (hl : setArg f.payload = none ∨ setArg f.payload = some []) :
    exec .halt s = .next (requestAnswered s .O f .badArg []) := by
  have noStns : someStns f.payload = none := by
    unfold someStns
    obtain hl | hl := hl <;> rw [hl]
  refine congrArg Host.Outcome.next (takeRequest_refused (g := takeHalt) h nofun ?_)
  simp only [takeHalt, noStns]

end HaltRequest

/-- Settles O28. -/
theorem steerAndHaltComplete : Obligations.SteerAndHaltComplete := by
  refine ⟨fun s f a h ha room => ⟨steer_done h ha room, ?joined⟩, fun s f a h ha full => steer_refused h nofun ?full,
    fun s f i l => halt_done, fun s f h ha => steer_refused h nofun ?malformed, fun s f => halt_refused, fun s i => ?station⟩
  case joined => rw [State.addSteer, displayNotices_oper]
  case full => simp only [takeSteer, ha, openRequest_oper, steerPlaces, if_pos full]
  case malformed => simp only [takeSteer, ha]
  case station =>
    refine ⟨fun w hm _ => ?waiting, fun hm => ?moving, haltStation_stow, fun h => ⟨haltActs_of_owned h, haltStation_records h⟩,
      fun h1 h2 h3 => ⟨haltActs_idle h1 h2 h3, haltStation_idle h1 h2 h3⟩,
      fun j hj => others_of_view (haltStation_view s i) hj⟩
    case waiting =>
      rw [haltStation_admitting hm]
      exact withdrawWaiting_returns s i .halted
    case moving =>
      rw [haltStation_moving hm]
      obtain ⟨motion, owner, -, -, slot, -⟩ := stopMoving_effect s i .halted hm
      exact ⟨motion, owner, slot⟩

end Sys2Proof.Machine

/-! # Grants that are clean and classed (O9)

The rule of R63 reads the two tables of grants only, so it is kept by what leaves them (`State.grants`), by what ends waits for a move and
does nothing else to them (`State.Eases`), and by the few operations that write a grant. The rule is then carried through the operations of
the model in the order of its files. -/

namespace Sys2Proof.Machine

/-! ### One grant (R63, R66 to R68, R75, R79 to R84) -/

/-- A grant that awaits no move (R67). -/
def Grant.noWait (g : Grant) : Grant := { g with awaiting := false }

/-- What R63 asks of one grant. -/
def Grant.Ruled (g : Grant) : Prop := g.clean ∧ g.classed

namespace Grant.Ruled

/-- A grant that is normed after it was given a class follows the rule, whatever it was before. -/
theorem norm_of_cls {g : Grant} {c : GrantClass} (h : g.cls = some c) : g.norm.Ruled :=
  ⟨norm_clean g, norm_classed fun e => nomatch h.symm.trans e⟩

theorem admitted (g : Grant) (c : GrantClass) (q : BitVec 32) (p : Plan) : (g.admitted c q p).Ruled := norm_of_cls rfl

theorem adopt (g : Grant) (sum sur : Nat) : (g.adopt sum sur).Ruled := norm_of_cls rfl

theorem settle (g : Grant) (closed : Bool) (n : Nat) : (g.settle closed n).Ruled := norm_of_cls rfl

variable {g : Grant} (h : g.Ruled)
include h

theorem setAmount {n : Nat} (le : n ≤ g.amount) : (g.setAmount n).Ruled := ⟨setAmount_clean g n, setAmount_classed h.2 le⟩

theorem reserveLocal (n sur : Nat) : (g.reserveLocal n sur).Ruled := by
  unfold Grant.reserveLocal
  split
  · exact h
  · exact norm_of_cls rfl

theorem freeze : g.freeze.Ruled := ⟨freeze_clean h.1, freeze_classed h.2⟩

theorem writeOff : g.writeOff.Ruled := by
  unfold Grant.writeOff
  split
  · exact setAmount (g := { g with hold := .writtenOff }) h (Nat.zero_le _)
  · exact h

/-- A flag that falls leaves a clean grant clean. -/
theorem noWait : g.noWait.Ruled := by
  refine ⟨fun e => ?_, h.2⟩
  obtain ⟨cls, sur, prices, seq, shed, -, loc⟩ := h.1 e
  exact ⟨cls, sur, prices, seq, shed, rfl, loc⟩

theorem noLocal : Grant.Ruled { g with localRes := false } := by
  refine ⟨fun e => ?_, h.2⟩
  obtain ⟨cls, sur, prices, seq, shed, wait, -⟩ := h.1 e
  exact ⟨cls, sur, prices, seq, shed, wait, rfl⟩

/-- Only a grant with a class is ever shed, and that has an amount (R79). -/
theorem shed {c : GrantClass} (hc : g.cls = some c) : Grant.Ruled { g with shed := true } :=
  ⟨fun e => (nomatch hc.symm.trans (h.1 e).1), h.2⟩

end Grant.Ruled

/-! ### What leaves the grants -/

/-- The two tables of grants. -/
def State.grants (s : State) : Vector Grant 32 × Vector Grant 32 := (s.power.motion, s.power.heat)

section Neutral
variable (s : State)

@[simp] theorem grants_ite (p : Prop) [Decidable p] (t : State) :
    (if p then s else t).grants = if p then s.grants else t.grants := apply_ite State.grants p s t

@[simp] theorem modLink_grants (l : Link) (f : LinkState → LinkState) : (s.modLink l f).grants = s.grants := by cases l <;> rfl
@[simp] theorem modLine_grants (ln : Line) (f : LineStats → LineStats) : (s.modLine ln f).grants = s.grants := by cases ln <;> rfl
@[simp] theorem setRx_grants (ln : Line) (r : Receiver) : (s.setRx ln r).grants = s.grants := by cases ln <;> rfl
@[simp] theorem notice_grants (l : Link) (x : NoticeFlag) : (s.notice l x).grants = s.grants := modLink_grants ..
@[simp] theorem noticeBoth_grants (x : NoticeFlag) : (s.noticeBoth x).grants = s.grants := rfl
@[simp] theorem report_grants (l : Link) (f : Frame) : (s.report l f).grants = s.grants := by simp [State.report]
@[simp] theorem displayNotices_grants (old : State) : (displayNotices old s).grants = s.grants := by simp [displayNotices]

@[simp] theorem modStn_grants (i : Stn) (f : Station → Station) : (s.modStn i f).grants = s.grants := rfl
@[simp] theorem modStnStats_grants (i : Stn) (f : StnStats → StnStats) : (s.modStnStats i f).grants = s.grants := rfl
@[simp] theorem modCab_grants (i : Stn) (f : Cabinet → Cabinet) : (s.modCab i f).grants = s.grants := rfl
@[simp] theorem modChan_grants (i : Stn) (f : Channel → Channel) : (s.modChan i f).grants = s.grants := rfl
@[simp] theorem modLock_grants (i : Stn) (f : LockRec → LockRec) : (s.modLock i f).grants = s.grants := rfl
@[simp] theorem modRoster_grants (i : Stn) (f : RosterEntry → RosterEntry) : (s.modRoster i f).grants = s.grants := rfl
@[simp] theorem setRoster_grants (i : Stn) (st : RosterStatus) : (s.setRoster i st).grants = s.grants := rfl
@[simp] theorem modGroup_grants (n : Nat) (f : Group → Group) : (s.modGroup n f).grants = s.grants := rfl
@[simp] theorem modSteer_grants (n : Nat) (f : Steer → Steer) : (s.modSteer n f).grants = s.grants := rfl
@[simp] theorem setPark_grants (i : Stn) (p : Option ParkStep) : (s.setPark i p).grants = s.grants := rfl
@[simp] theorem setIdle_grants (i : Stn) (t : Option Nat) : (s.setIdle i t).grants = s.grants := rfl
@[simp] theorem leaveMotion_grants (i : Stn) : (s.leaveMotion i).grants = s.grants := rfl
@[simp] theorem leaveHeat_grants (i : Stn) : (s.leaveHeat i).grants = s.grants := rfl
@[simp] theorem joinList_grants (b : Waiting) (c : GrantClass) (n : Nat) : (s.joinList b c n).grants = s.grants := rfl
@[simp] theorem placePin_grants (i : Stn) (c : PinCmd) : (s.placePin i c).grants = s.grants := rfl
@[simp] theorem placeHeat_grants (i : Stn) (c : HeatCmd) : (s.placeHeat i c).grants = s.grants := rfl
@[simp] theorem emptySlots_grants (i : Stn) : (s.emptySlots i).grants = s.grants := rfl
@[simp] theorem setTargets_grants (p : Plan) : (s.setTargets p).grants = s.grants := rfl
@[simp] theorem countArrival_grants (i : Stn) : (s.countArrival i).grants = s.grants := rfl
@[simp] theorem giveEntry_grants (i : Stn) (st : RosterStatus) : (s.giveEntry i st).grants = s.grants := rfl

@[simp] theorem withdrawPin_grants (i : Stn) (c : PinCmd) : (s.withdrawPin i c).grants = s.grants := by
  unfold State.withdrawPin
  split <;> simp

@[simp] theorem leaveStowed_grants (i : Stn) (r : Reason) : (s.leaveStowed i r).grants = s.grants := by simp [State.leaveStowed]

/-- A pass over a list leaves the grants where each of its steps does. -/
theorem foldl_grants {α : Type} {f : State → α → State} (h : ∀ s a, (f s a).grants = s.grants) (l : List α) :
    (l.foldl f s).grants = s.grants := foldl_kept State.grants h l s

/-! Heater channels: what ends a heater grant is not among these. -/

@[simp] theorem setChan_grants (i : Stn) (x : HeaterState) : (s.setChan i x).grants = s.grants := rfl
@[simp] theorem offPhase_grants (i : Stn) (n : Nat) : (s.offPhase i n).grants = s.grants := rfl
@[simp] theorem stopHeat_grants (i : Stn) (a : AfterStop) : (s.stopHeat i a).grants = s.grants := rfl
@[simp] theorem cutHeater_grants (i : Stn) : (s.cutHeater i).grants = s.grants := rfl
@[simp] theorem withdrawHeat_grants (i : Stn) : (s.withdrawHeat i).grants = s.grants := rfl
@[simp] theorem loseHeat_grants (i : Stn) : (s.loseHeat i).grants = s.grants := rfl
@[simp] theorem askHeatOff_grants (i : Stn) : (s.askHeatOff i).grants = s.grants := by simp [State.askHeatOff]
@[simp] theorem startCycleAs_grants (i : Stn) (b : Bool) : (s.startCycleAs i b).grants = s.grants := by simp [State.startCycleAs]
@[simp] theorem startCycle_grants (i : Stn) : (s.startCycle i).grants = s.grants := startCycleAs_grants ..

@[simp] theorem enterOffPhase_grants (i : Stn) (b : Bool) : (s.enterOffPhase i b).grants = s.grants := by
  unfold State.enterOffPhase
  split <;> simp

@[simp] theorem barRise_grants (i : Stn) : (s.barRise i).grants = s.grants := by
  unfold State.barRise
  split <;> simp

@[simp] theorem barFall_grants (i : Stn) (b : Bool) : (s.barFall i b).grants = s.grants := by simp [State.barFall]
@[simp] theorem judgeBarAs_grants (i : Stn) (b : Bool) : (s.judgeBarAs i b).grants = s.grants := by simp [State.judgeBarAs]
@[simp] theorem judgeBar_grants (i : Stn) : (s.judgeBar i).grants = s.grants := judgeBarAs_grants ..
@[simp] theorem chanModeOn_grants (i : Stn) : (s.chanModeOn i).grants = s.grants := by simp [State.chanModeOn]

@[simp] theorem chanModeOff_grants (i : Stn) : (s.chanModeOff i).grants = s.grants := by
  unfold State.chanModeOff
  split <;> simp

@[simp] theorem snowTurnOff_grants : s.snowTurnOff.grants = s.grants := by
  unfold State.snowTurnOff
  split
  · rfl
  · exact foldl_grants _ chanModeOff_grants _

/-! The lockout lists, the campaign record, the queues, the wind monitor and the lines. -/

@[simp] theorem compareSlot_grants (i : Stn) (x : Fin 6 × Option (Nat × LockKind)) :
    (State.compareSlot i s x).grants = s.grants := by
  unfold State.compareSlot
  split <;> simp [State.emptySlot, State.joinSlot]

@[simp] theorem setCamp_grants (st : CampState) : (s.setCamp st).grants = s.grants := by
  unfold State.setCamp
  dsimp only
  split
  · rfl
  · simp only [displayNotices_grants, noticeBoth_grants, report_grants]
    rfl

@[simp] theorem endCampaign_grants : s.endCampaign.grants = s.grants := setCamp_grants ..

@[simp] theorem judgeCampaign_grants : s.judgeCampaign.grants = s.grants := by
  unfold State.judgeCampaign
  split <;> simp

@[simp] theorem resumeCampaign_grants : s.resumeCampaign.grants = s.grants := by simp [State.resumeCampaign]

@[simp] theorem restartEntry_grants (e : RosterEntry) : (s.restartEntry e).grants = s.grants := by simp [State.restartEntry]

@[simp] theorem completeGroup_grants (g : Group) (b : Bool) : (s.completeGroup g b).grants = s.grants := by
  simp only [State.completeGroup, displayNotices_grants, report_grants]
  rfl

@[simp] theorem completeSteer_grants (t : Steer) : (s.completeSteer t).grants = s.grants := by
  simp only [State.completeSteer, displayNotices_grants, report_grants]
  rfl

@[simp] theorem clearedGroup_grants (n : Nat) : (s.clearedGroup n).grants = s.grants := by
  unfold State.clearedGroup
  split <;> simp

@[simp] theorem clearedSteer_grants (n : Nat) : (s.clearedSteer n).grants = s.grants := by
  unfold State.clearedSteer
  split <;> simp

@[simp] theorem setDeficit_grants (b : Bool) : (s.setDeficit b).grants = s.grants := rfl

@[simp] theorem enterDeficit_grants : s.enterDeficit.grants = s.grants := by
  unfold State.enterDeficit
  split <;> rfl

@[simp] theorem maskSet_grants (l : Link) (before : BitVec 10) : (s.maskSet l before).grants = s.grants := by
  simp [State.maskSet]

@[simp] theorem nextVisit_grants (after : Option Stn) : (s.nextVisit after).grants = s.grants := by
  unfold State.nextVisit
  split <;> rfl

@[simp] theorem nextPanel_grants (after : Option Stn) : (s.nextPanel after).grants = s.grants := rfl

@[simp] theorem wakeLines_grants : s.wakeLines.grants = s.grants := by
  unfold State.wakeLines
  cases s.bus.visit <;> dsimp only <;> split <;> simp

@[simp] theorem returnRejected_grants (i : Stn) (st : CabStatus) (a : Answer) : (s.returnRejected i st a).grants = s.grants := by
  unfold State.returnRejected
  split <;> simp

@[simp] theorem moveIdle_grants : s.moveIdle.grants = s.grants := by simp [State.grants, State.moveIdle]

@[simp] theorem takenOut_grants (i : Stn) : (s.takenOut i).grants = s.grants := rfl

@[simp] theorem joinFifo_grants (l : Link) (f : Frame) : (s.joinFifo l f).grants = s.grants := by simp [State.joinFifo]

end Neutral

/-! ### Waits for a move that end (R67) -/

/-- The grants of `t` are those of `s`, but for waits for a move that have ended. -/
structure State.Eases (s t : State) : Prop where
  motion : ∀ i, t.motionGrant i = s.motionGrant i ∨ t.motionGrant i = (s.motionGrant i).noWait
  heat : ∀ i, t.heatGrant i = s.heatGrant i

namespace State.Eases
variable {s t u : State} {i : Stn}

theorem same (e : t.grants = s.grants) : s.Eases t where
  motion i := .inl (congrArg (fun g : Vector Grant 32 × Vector Grant 32 => g.1.get i) e)
  heat i := congrArg (fun g : Vector Grant 32 × Vector Grant 32 => g.2.get i) e

theorem trans (h : s.Eases t) (k : t.Eases u) : s.Eases u where
  motion i := by
    obtain ht | ht := h.motion i <;> obtain hu | hu := k.motion i <;> rw [hu, ht]
    · exact .inl rfl
    · exact .inr rfl
    · exact .inr rfl
    · exact .inr rfl
  heat i := (k.heat i).trans (h.heat i)

theorem ite (p : Prop) [Decidable p] (h : s.Eases t) (k : s.Eases u) : s.Eases (if p then t else u) := by
  split
  · exact h
  · exact k

/-- A wait ends where the model clears the flag. -/
theorem endWait (s : State) (i : Stn) : s.Eases (s.modMotionGrant i fun g => { g with awaiting := false }) where
  motion j := by
    by_cases e : j = i
    · subst e
      exact .inr (modMotionGrant_motionGrant_same ..)
    · exact .inl (modMotionGrant_motionGrant_ne s _ e)
  heat _ := rfl

/-- All else of a motion grant stands. -/
theorem amount (h : s.Eases t) (i : Stn) : (t.motionGrant i).amount = (s.motionGrant i).amount := by
  obtain e | e := h.motion i <;> rw [e]; rfl

theorem cls (h : s.Eases t) (i : Stn) : (t.motionGrant i).cls = (s.motionGrant i).cls := by
  obtain e | e := h.motion i <;> rw [e]; rfl

theorem hold (h : s.Eases t) (i : Stn) : (t.motionGrant i).hold = (s.motionGrant i).hold := by
  obtain e | e := h.motion i <;> rw [e]; rfl

end State.Eases

section Easing
variable (s : State) (i : Stn)

theorem setMotion_eases (m : Motion) : s.Eases (s.setMotion i m) where
  motion j := by
    rw [State.motionGrant, setMotion_grants]
    split
    · exact (State.Eases.endWait s i).motion j
    · exact .inl rfl
  heat j := by
    obtain ⟨-, -, -, -, -, -, -, -, -, -, -, heat⟩ := setMotion_rest s i m
    rw [State.heatGrant, heat]
    rfl

theorem placeMotion_eases (c : MotionCmd) : s.Eases (s.placeMotion i c) :=
  (State.Eases.ite _ (.endWait s i) (.same rfl)).trans (.same (modCab_grants ..))

theorem withdrawMotion_eases (p : MotionCmd → Bool) : s.Eases (s.withdrawMotion i p) := by
  unfold State.withdrawMotion
  split
  · split
    · exact (State.Eases.ite _ (.endWait s i) (.same rfl)).trans (.same (modCab_grants ..))
    · exact .same rfl
  · exact .same rfl

theorem stowOutcome_eases (o : MoveOutcome) : s.Eases (s.stowOutcome i o) :=
  ((State.Eases.same (modRoster_grants ..)).trans (withdrawMotion_eases _ i _)).trans (.same (withdrawPin_grants ..))

theorem snowOutcome_eases : s.Eases (s.snowOutcome i) :=
  (State.Eases.ite _ (withdrawMotion_eases s i _) (.same rfl)).trans (.same (setPark_grants ..))

theorem giveOutcome_eases (o : MoveOutcome) : s.Eases (s.giveOutcome i o) := by
  unfold State.giveOutcome
  split
  · exact .same rfl
  next w _ =>
    cases w with
    | group n | steer n => exact .same rfl
    | stow => exact (State.Eases.same (s := s) (t := s.disowned i o) rfl).trans (stowOutcome_eases _ i o)
    | snow => exact (State.Eases.same (s := s) (t := s.disowned i o) rfl).trans (snowOutcome_eases _ i)

theorem withdrawWaiting_eases (o : MoveOutcome) : s.Eases (s.withdrawWaiting i o) :=
  ((State.Eases.same (leaveMotion_grants ..)).trans (giveOutcome_eases _ i o)).trans (setMotion_eases _ i _)

theorem stopMoving_eases (o : MoveOutcome) : s.Eases (s.stopMoving i o) :=
  ((giveOutcome_eases s i o).trans (placeMotion_eases _ i _)).trans (setMotion_eases _ i _)

theorem brakePointed_eases : s.Eases (s.brakePointed i) := (placeMotion_eases s i _).trans (setMotion_eases _ i _)

theorem beginAdmitting_eases (w : Owner) : s.Eases (s.beginAdmitting i w) :=
  (setMotion_eases s i _).trans (.same (modStn_grants ..))

end Easing

end Sys2Proof.Machine

namespace Sys2Proof.Machine

/-- Both grants of every station follow the rule of R63. -/
structure RuledGrants (s : State) : Prop where
  motion : ∀ i, (s.motionGrant i).Ruled
  heat : ∀ i, (s.heatGrant i).Ruled

theorem grantRule_iff (s : State) : GrantRule s ↔ RuledGrants s :=
  ⟨fun h => ⟨fun i => (h i).1, fun i => (h i).2⟩, fun h i => ⟨h.motion i, h.heat i⟩⟩

namespace RuledGrants
variable {s : State} (h : RuledGrants s)
include h

/-! ### Using the rule -/

/-- A wait for a move that ends breaks no rule. -/
theorem eased {t : State} (k : s.Eases t) : RuledGrants t where
  motion i := by
    obtain e | e := k.motion i <;> rw [e]
    · exact h.motion i
    · exact (h.motion i).noWait
  heat i := by
    rw [k.heat i]
    exact h.heat i

/-- The rule reads no more than the grants. -/
theorem same {t : State} (e : t.grants = s.grants) : RuledGrants t := h.eased (.same e)

theorem ite (p : Prop) [Decidable p] {t : State} (k : RuledGrants t) : RuledGrants (if p then s else t) := by
  split
  · exact h
  · exact k

theorem foldl {α : Type} {f : State → α → State} (hf : ∀ {s}, RuledGrants s → ∀ a, RuledGrants (f s a)) (l : List α) :
    RuledGrants (l.foldl f s) := by
  induction l generalizing s with
  | nil => exact h
  | cons a l ih => exact ih (hf h a)

omit h in
/-- A pass over a list that carries a state and something beside it. -/
theorem foldl_of {α β : Type} (st : β → State) {f : β → α → β}
    (hf : ∀ x, RuledGrants (st x) → ∀ a, RuledGrants (st (f x a))) (l : List α) {x : β} (h : RuledGrants (st x)) :
    RuledGrants (st (l.foldl f x)) := by
  induction l generalizing x with
  | nil => exact h
  | cons a l ih => exact ih (hf x h a)

/-- One motion grant is written, and follows the rule. -/
theorem modMotionGrant {i : Stn} {f : Grant → Grant} (hf : (s.motionGrant i).Ruled → (f (s.motionGrant i)).Ruled) :
    RuledGrants (s.modMotionGrant i f) where
  motion j := by
    by_cases e : j = i
    · subst e
      rw [modMotionGrant_motionGrant_same]
      exact hf (h.motion j)
    · rw [modMotionGrant_motionGrant_ne s f e]
      exact h.motion j
  heat := h.heat

/-- One heater grant is written, and follows the rule. -/
theorem modHeatGrant {i : Stn} {f : Grant → Grant} (hf : (s.heatGrant i).Ruled → (f (s.heatGrant i)).Ruled) :
    RuledGrants (s.modHeatGrant i f) where
  heat j := by
    by_cases e : j = i
    · subst e
      rw [modHeatGrant_heatGrant_same]
      exact hf (h.heat j)
    · rw [modHeatGrant_heatGrant_ne s f e]
      exact h.heat j
  motion := h.motion

/-! ### Notices, reports, motion states and stops -/

/-- A change of the campaign state is reported on both links, and the displays follow (R49, R122). -/
theorem reported (old : State) (f : Frame) :
    RuledGrants (displayNotices old (((s.report .S f).report .O f).noticeBoth .campaign)) := h.same (by simp)

theorem setMotion (i : Stn) (m : Motion) : RuledGrants (s.setMotion i m) := h.eased (setMotion_eases s i m)

theorem placeMotion (i : Stn) (c : MotionCmd) : RuledGrants (s.placeMotion i c) := h.eased (placeMotion_eases s i c)

theorem giveOutcome (i : Stn) (o : MoveOutcome) : RuledGrants (s.giveOutcome i o) := h.eased (giveOutcome_eases s i o)

theorem withdrawWaiting (i : Stn) (o : MoveOutcome) : RuledGrants (s.withdrawWaiting i o) := h.eased (withdrawWaiting_eases s i o)

theorem stopMoving (i : Stn) (o : MoveOutcome) : RuledGrants (s.stopMoving i o) := h.eased (stopMoving_eases s i o)

theorem brakePointed (i : Stn) : RuledGrants (s.brakePointed i) := h.eased (brakePointed_eases s i)

theorem beginAdmitting (i : Stn) (w : Owner) : RuledGrants (s.beginAdmitting i w) := h.eased (beginAdmitting_eases s i w)

/-! ### The power allocator -/

theorem admitMotion (c : GrantClass) (seq : BitVec 32) (p : Plan) : RuledGrants (s.admitMotion c seq p) := by
  unfold State.admitMotion
  dsimp only
  split
  · have granted := h.modMotionGrant (i := p.station) (f := fun g => g.admitted c seq p) fun _ => .admitted ..
    have moved := ((granted.setMotion p.station (if c = .stow then .stowing else .slewing)).same (setTargets_grants _ p)).placeMotion
      p.station (.move (p.toMove ((s.stn p.station).posture.getD .held)))
    split
    · exact moved.same (by rfl)
    · exact moved.same (by rfl)
    · exact moved
  · exact h

theorem admitHeat (seq : BitVec 32) (i : Stn) : RuledGrants (s.admitHeat seq i) := by
  have granted := h.modHeatGrant (i := i) (f := fun g => Grant.norm
    { g with cls := some .heat, amount := s.cfg.heaterP, surcharge := none, phaseP := none, seq := some seq }) fun _ => .norm_of_cls rfl
  exact granted.same (by rfl)

theorem admitEntry (e : Entry) : RuledGrants (s.admitEntry e) := by
  unfold State.admitEntry
  dsimp only
  split
  · exact foldl (h.same (by rfl)) (fun k p => k.admitMotion ..) _
  · exact admitHeat (h.same (by rfl)) ..

theorem reconsiderN (n : Nat) : RuledGrants (State.reconsiderN n s) := by
  induction n generalizing s with
  | zero => exact h
  | succ n ih =>
    unfold State.reconsiderN
    split
    · exact h
    · exact h.ite _ ((ih (h.admitEntry _)).ite _ (h.same (foldl_grants _ cutHeater_grants _)))

theorem reconsider : RuledGrants s.reconsider := h.reconsiderN _

/-- The grant that is shed has the class ORDINARY, which stopping or braking its dish leaves (R79). -/
theorem markShed {t : State} {m : Motion} {i : Stn} (hi : i ∈ s.sheddable m) (k : s.Eases t) : RuledGrants (t.markShed i) := by
  have candidate := (mem_sortBy _ _ _).mp hi
  simp only [List.mem_filter, Bool.and_eq_true, decide_eq_true_eq] at candidate
  exact same ((h.eased k).modMotionGrant (f := fun g => { g with shed := true }) fun ruled =>
    ruled.shed ((k.cls i).trans candidate.2.1.2)) rfl

theorem deficitActs (n : Nat) : RuledGrants (State.deficitActs n s) := by
  induction n generalizing s with
  | zero => exact h
  | succ n ih =>
    unfold State.deficitActs
    split
    · exact h
    · split
      next => exact ih (h.same (cutHeater_grants ..))
      next =>
        split
        next slews => exact ih (h.markShed (slews ▸ List.mem_cons_self) (stopMoving_eases ..))
        next =>
          split
          next points => exact ih (h.markShed (points ▸ List.mem_cons_self) (brakePointed_eases ..))
          next => exact h

theorem judgeDeficit : RuledGrants s.judgeDeficit := ((h.same (enterDeficit_grants s)).deficitActs _).ite _ h

theorem judgePower (force : Bool) (old : State) : RuledGrants (judgePower force old s) :=
  h.judgeDeficit.ite _ ((h.same (setDeficit_grants s false)).reconsider.ite _ (h.reconsider.ite _ h))

omit h in
/-- A join that keeps the rule keeps it also as an event of its own. -/
theorem ownJoin {join : State → State} (hj : ∀ {s}, RuledGrants s → RuledGrants (join s)) {x : State × State} (h : RuledGrants x.2) :
    RuledGrants (ownJoin join x).2 := by
  unfold Machine.ownJoin
  split
  · exact hj h
  · exact (hj (h.judgePower ..)).judgePower ..

theorem endHeatGrant (i : Stn) : RuledGrants (s.endHeatGrant i) := h.modHeatGrant fun ruled => ruled.setAmount (Nat.zero_le _)

theorem lowerMotion (i : Stn) (st : CabStatus) : RuledGrants (s.lowerMotion i st) := by
  refine h.modMotionGrant fun ruled => ?_
  split
  · exact ruled
  · exact ruled.setAmount (Nat.min_le_left ..)

/-- A reply sets the local reservation or ends it, and then lowers the grant (R66, R80). -/
theorem allocReply (i : Stn) (st : CabStatus) : RuledGrants (s.allocReply i st) := by
  refine lowerMotion (h.modMotionGrant fun ruled => ?_) i st
  split
  · exact ruled.reserveLocal ..
  · split
    · exact ruled.noLocal
    · exact ruled

/-! ### Heater channels, snow mode and idle parks -/

theorem confirmStop (i : Stn) (b : Bool) : RuledGrants (s.confirmStop i b) := by
  have ended := h.endHeatGrant i
  have started : RuledGrants (match (s.chan i).after with
      | some .offPhase => (s.endHeatGrant i).enterOffPhase i b
      | _ => (s.endHeatGrant i).startCycleAs i b) := by
    split
    · exact ended.same (enterOffPhase_grants ..)
    · exact ended.same (startCycleAs_grants ..)
  exact (ended.same (setChan_grants ..)).ite _ ((ended.same (setChan_grants ..)).ite _ started)

theorem heatReply (i : Stn) (closed taken : Bool) (a : Answer) (b : Bool) : RuledGrants (s.heatReply i closed taken a b) := by
  have asked := h.same (askHeatOff_grants s i)
  have refused := (h.endHeatGrant i).same (offPhase_grants _ i s.cfg.heatPeriod)
  unfold State.heatReply
  split
  · exact ((refused.same (askHeatOff_grants ..)).ite _ refused).ite _ ((h.same (by rfl)).ite _ h)
  · exact (h.confirmStop i b).ite _ (asked.ite _ h)
  · exact h
  · exact asked.ite _ h

/-- The first reply after UNKNOWN or LOST settles the grant by the contactor (R82). -/
theorem settleHeatFirst (i : Stn) (closed : Bool) : RuledGrants (s.settleHeatFirst i closed) := by
  have settled := h.modHeatGrant (i := i) (f := fun g => g.settle closed s.cfg.heaterP) fun _ => .settle ..
  exact (settled.same (by rfl)).ite _ (settled.same (by rfl))

theorem judgePark (i : Stn) : RuledGrants (s.judgePark i) := by
  unfold State.judgePark
  dsimp only
  split
  · exact (h.setMotion i .parked).ite _ ((h.beginAdmitting i .snow).same (by rfl))
  · exact h

theorem judgeParks : RuledGrants s.judgeParks := h.foldl (fun k i => k.judgePark i) _

theorem snowTurnOn (src : SnowSource) : RuledGrants (s.snowTurnOn src) := by
  unfold State.snowTurnOn
  split
  · exact h.same (by rfl)
  · exact judgeParks (h.same (foldl_grants _ chanModeOn_grants _))

theorem judgeAuto (before : Bool) : RuledGrants (s.judgeAuto before) :=
  (snowTurnOn (h.same (by rfl)) .auto).ite _ (h.same (by rfl))

theorem takePrecip (c : PrecipClass) (air : Option Int) : RuledGrants (s.takePrecip c air) := judgeAuto (h.same (by rfl)) _

/-! ### The lockout manager -/

theorem lockTakesEffect (i : Stn) : RuledGrants (s.lockTakesEffect i) := by
  unfold State.lockTakesEffect
  split
  · exact h.withdrawWaiting i _
  · exact h.stopMoving i _
  · exact h.stopMoving i _
  · exact h.brakePointed i
  · exact (h.same (by simp)).ite _ h
  · exact h

theorem setLockStatus (i : Stn) (new : LockStatus) : RuledGrants (s.setLockStatus i new) := by
  unfold State.setLockStatus
  dsimp only
  have written : RuledGrants ((s.modLock i fun r => { r with status := new }).noticeBoth .lockout) := h.same (by rfl)
  have taken (b : Bool) := (written.lockTakesEffect i).ite (b = true) written
  exact h.ite _ (((taken _).judgePark i).ite _ (taken _))

theorem judgeLock (i : Stn) : RuledGrants (s.judgeLock i) := setLockStatus (h.same (modLock_grants ..)) i _

theorem judgeRests : RuledGrants s.judgeRests := h.foldl (fun k i => (k.judgeLock i).ite _ k) _

theorem judgeLockBar (i : Stn) : RuledGrants (s.judgeLockBar i) := (h.judgeLock i).same (judgeBar_grants ..)

theorem warningEnd (i : Stn) : RuledGrants (s.warningEnd i) :=
  same (setLockStatus (ite (h.same (by rfl)) _ (h.same (by rfl))) i .free) (judgeBar_grants ..)

theorem takeKeys (i : Stn) (keys : List (Option (Nat × LockKind))) : RuledGrants (s.takeKeys i keys) :=
  ((h.same (modLock_grants ..)).foldl (fun k x => k.same (compareSlot_grants _ i x)) _).judgeLockBar i

theorem panelSilent (i : Stn) : RuledGrants (s.panelSilent i) := judgeLockBar (h.same (modLock_grants ..)) i

theorem moveSilence (i : Stn) : RuledGrants (s.moveSilence i) := by
  unfold State.moveSilence
  dsimp only
  split
  · split
    · exact (panelSilent (h.same (by rfl)) i).ite _ (h.same (by rfl))
    · exact h
  · exact h

theorem lockReply (i : Stn) (st : CabStatus) (a : Answer) : RuledGrants (s.lockReply i st a) := by
  unfold State.lockReply
  dsimp only
  split
  · exact ite (h.same (by rfl)) _ (h.same (by rfl))
  · split
    · exact ite (h.same (by rfl)) _ (placeMotion (h.same (by rfl)) i .stop)
    · exact h.same (by rfl)

/-! ### The stow sequencer -/

theorem joinCampaign (i : Stn) : RuledGrants (s.joinCampaign i) := by
  unfold State.joinCampaign
  dsimp only
  split
  · exact (h.setMotion i .stowing).same (by rfl)
  · exact (h.beginAdmitting i .stow).same (by rfl)

/-- An entry that is given waits for power, and joins the campaign. -/
theorem giveAndJoin (i : Stn) (st : RosterStatus) : RuledGrants ((s.giveEntry i st).joinCampaign i) :=
  joinCampaign (h.same (giveEntry_grants ..)) i

theorem buildEntry (i : Stn) : RuledGrants (s.buildEntry i) := by
  have given {t : State} (k : RuledGrants t) (st : RosterStatus) : RuledGrants (t.giveEntry i st) := k.same (giveEntry_grants ..)
  unfold State.buildEntry
  split
  case h_1 | h_10 => exact h
  case h_2 | h_3 | h_4 | h_5 | h_6 => exact given h _
  case h_7 => exact (h.ite _ ((h.withdrawWaiting i _).giveAndJoin i _)).ite _ (given h _)
  case h_8 => exact (given (h.stopMoving i _) _).ite _ (given h _)
  case h_9 => exact (given h _).ite _ (given h _)
  case h_11 | h_12 | h_13 => exact (h.giveAndJoin i _).ite _ (given h _)

theorem startCampaign (c : CampCause) (kept : List Stn) : RuledGrants (s.startCampaign c kept) := by
  unfold State.startCampaign
  refine reported (foldl ?begun (fun k i => k.buildEntry i) _) s _
  exact h.same (by rfl)

theorem startOrRestart (c : CampCause) : RuledGrants (s.startOrRestart c) :=
  (h.foldl (fun k e => k.same (restartEntry_grants _ e)) _).startCampaign c _

theorem judgeRejoin (i : Stn) : RuledGrants (s.judgeRejoin i) := by
  unfold State.judgeRejoin
  split
  · exact h
  · split
    · split
      case h_1 => exact h.same (by rfl)
      case h_5 => exact h
      all_goals exact (h.joinCampaign i).ite _ h
    · exact h

theorem judgeWaitRest (i : Stn) : RuledGrants (s.judgeWaitRest i) := by
  unfold State.judgeWaitRest
  split
  · split
    case h_1 => exact (h.joinCampaign i).ite _ (h.same (by rfl))
    case h_5 => exact h
    all_goals exact h.same (by rfl)
  · exact h

theorem rosterStep (old : State) (i : Stn) : RuledGrants (rosterStep old i s) :=
  ((h.judgeWaitRest i).judgeRejoin i).ite _ (h.judgeWaitRest i)

omit h in
theorem rosterPass (old : State) {x : State × State} (h : RuledGrants x.2) : RuledGrants (rosterPass old x).2 :=
  foldl_of Prod.snd (fun _ k i => k.ownJoin fun k => k.rosterStep old i) _ h

theorem rejoinAll (old : State) : RuledGrants (s.rejoinAll old) :=
  foldl_of Prod.snd (x := (old, s)) (fun _ k i => k.ownJoin fun k => k.judgeRejoin i) _ h

theorem stowTakesStage (old : State) : RuledGrants (s.stowTakesStage old) := by
  have caused (c : CampCause) : RuledGrants (s.addCause c) := h.same (by rfl)
  unfold State.stowTakesStage
  dsimp only
  split
  · split
    · exact h.ite _ (h.startOrRestart _)
    · exact h.ite _ (h.startOrRestart _)
    · exact caused _
    · exact caused _
    · exact h.ite _ (((caused _).rejoinAll old).same (resumeCampaign_grants _))
  · exact (h.same (setCamp_grants ..)).ite _ h

theorem completeStow (i : Stn) (noPin : Bool) : RuledGrants (s.completeStow i noPin) :=
  same (setMotion (h.same (modStn_grants s i fun r => { r with owner := none })) i .stowed) rfl

theorem pinDrawn (i : Stn) : RuledGrants (s.pinDrawn i) := by
  have held := h.setMotion i .held
  exact (held.same (by rfl)).ite _ ((held.joinCampaign i).ite _ (held.same (by rfl)))

theorem stowReply (i : Stn) (st : CabStatus) (tk : TakenFlags) (a : Answer) : RuledGrants (s.stowReply i st tk a) := by
  have braked (b : Bool) : RuledGrants (s.beginStowBrake i b) := placeMotion (h.same (modRoster_grants ..)) i .brake
  have stuck : RuledGrants (s.pinStuck i) := h.same (by rfl)
  unfold State.stowReply
  split
  · exact h
  · split
    · exact (h.same (t := s.beginPinning i) rfl).ite _ h
    · refine (braked true).ite _ ?_
      split
      · split
        case h_1 => exact braked false
        case h_2 => exact braked true
        all_goals exact h
      · exact h
    · exact (h.completeStow i _).ite _ h
    · refine stuck.ite _ ?_
      split
      · split
        case h_1 => exact h.pinDrawn i
        case h_2 => exact stuck
        all_goals exact h
      · exact h
    · exact h

theorem unstowEntry (i : Stn) : RuledGrants (s.unstowEntry i) :=
  ((h.same (by rfl)).ite _ (setMotion (h.same (giveEntry_grants ..)) i .held)).ite _ (h.same (giveEntry_grants ..))

theorem beginEnding : RuledGrants s.beginEnding :=
  same (foldl (s := { s with camp := { s.camp with roster := [], deadline := none } }) (h.same rfl) (fun k i => k.unstowEntry i) _)
    (setCamp_grants ..)

theorem stowAll : RuledGrants s.stowAll := by
  have built := foldl (s := s.addCause .operator) (h.same rfl) (fun k i => k.buildEntry i)
    ((s.addCause .operator).enabledStns.filter (s.addCause .operator).stowAllBuilds)
  unfold State.stowAll
  split
  · exact h.startOrRestart _
  · exact h.startOrRestart _
  all_goals exact (built.rejoinAll s).same (resumeCampaign_grants _)

/-! ### The motion queues -/

omit h in
theorem dispatchMember (g : Group) {x : State × List Plan} (h : RuledGrants x.1) (i : Stn) :
    RuledGrants (State.dispatchMember g x i).1 := by
  unfold State.dispatchMember
  dsimp only
  split
  · exact h.same (by rfl)
  · split
    · exact h
    · split
      · exact h.same (by rfl)
      · split
        · exact h.same (by rfl)
        · exact h.beginAdmitting i _

theorem dispatchGroup (g : Group) : RuledGrants (s.dispatchGroup g) := by
  have members := foldl_of Prod.fst (fun _ k i => k.dispatchMember g i) g.stations
    (x := (s.modGroup g.number fun h => { h with state := .active }, [])) (h.same (by rfl))
  unfold State.dispatchGroup
  dsimp only
  split
  · exact members.foldl (fun k p => k.same (joinList_grants ..)) _
  · exact members.ite _ (members.same (joinList_grants ..))

theorem planSteer (t : Steer) : RuledGrants (s.planSteer t) := by
  unfold State.planSteer
  dsimp only
  split
  · split
    · exact h.same (by rfl)
    · split
      · exact h.same (by rfl)
      · exact same (beginAdmitting (h.same (modSteer_grants ..)) t.station _) (joinList_grants ..)
  · exact h.same (by rfl)

theorem dispatchSteer (t : Steer) : RuledGrants (s.dispatchSteer t) := by
  unfold State.dispatchSteer
  dsimp only
  split
  case h_1 | h_2 | h_3 => exact h.planSteer t
  case h_4 => exact (h.withdrawWaiting _ _).planSteer t
  case h_5 => exact (h.stopMoving _ _).same (modSteer_grants ..)
  all_goals exact h.same (modSteer_grants ..)

theorem endWait (t : Steer) : RuledGrants (s.endWait t) := by
  unfold State.endWait
  split
  case h_1 => exact h.planSteer t
  case h_5 => exact h
  all_goals exact h.same (modSteer_grants ..)

theorem takeAct (a : QueueAct) : RuledGrants (s.takeAct a) := by
  cases a with
  | groupDone g => exact h.same (completeGroup_grants ..)
  | steerDone t => exact h.same (completeSteer_grants ..)
  | waitEnd t => exact h.endWait t
  | steerGo t => exact h.dispatchSteer t
  | groupGo g => exact h.dispatchGroup g

theorem queuePass (n : Nat) : RuledGrants (State.queuePass n s) := by
  induction n generalizing s with
  | zero => exact h
  | succ n ih =>
    unfold State.queuePass
    split
    · exact h
    · exact ih (h.takeAct _)

theorem endOwned (w : Owner) (o : MoveOutcome) (i : Stn) : RuledGrants (State.endOwned w o s i) := by
  unfold State.endOwned
  split
  · split
    · exact h.withdrawWaiting i o
    · exact h.stopMoving i o
    · exact h
  · exact h

theorem endGroup (o : MoveOutcome) (g : Group) : RuledGrants (State.endGroup o s g) :=
  (h.foldl (fun k i => k.endOwned _ o i) _).same (modGroup_grants ..)

theorem clearSteer (t : Steer) : RuledGrants (s.clearSteer t) := (h.endOwned _ .cleared _).same (modSteer_grants ..)

theorem clearQueues : RuledGrants s.clearQueues := by
  have outcomes : RuledGrants s.clearedOutcomes := (h.foldl (fun k g => k.endGroup .cleared g) _).foldl (fun k t => k.clearSteer t) _
  have emptied : s.emptiedQueues.grants = s.clearedOutcomes.grants :=
    (foldl_grants _ (fun u (t : Steer) => clearedSteer_grants u t.number) _).trans
      (foldl_grants _ (fun u (g : Group) => clearedGroup_grants u g.number) _)
  rw [clearQueues_eq]
  exact outcomes.same ((displayNotices_grants ..).trans emptied)

theorem haltStation (i : Stn) : RuledGrants (s.haltStation i) := by
  unfold State.haltStation
  split
  · exact h.withdrawWaiting i _
  · exact h.stopMoving i _
  · exact h.stopMoving i _
  · exact h.same (by rfl)

/-! ### What follows an event -/

theorem settleOnce (force : Bool) (old : State) : RuledGrants (settleOnce force old s) := by
  have first : RuledGrants (Machine.rosterPass old (old, s.judgeDeficit)).2 := rosterPass old h.judgeDeficit
  have second := rosterPass old (x := ((Machine.rosterPass old (old, s.judgeDeficit)).1, _)) (first.same (judgeCampaign_grants _))
  have queues := (second.same (judgeCampaign_grants _)).queuePass queueFuel
  exact ((queues.judgeParks.ite _ queues).judgePower force _).judgeRests

theorem settleMore (n : Nat) : RuledGrants (settleMore n s) := by
  induction n generalizing s with
  | zero => exact h
  | succ n ih => exact (ih (h.settleOnce false s)).ite _ h

theorem settle (force : Bool) (old : State) : RuledGrants (settle force old s) := (h.settleOnce force old).settleMore _

/-! ### The wind monitor -/

theorem handStage (old : State) : RuledGrants (s.handStage old) :=
  h.ite _ (stowTakesStage (same (ite (h.same (by rfl)) _ (h.same (by rfl))) (noticeBoth_grants _ .stage)) old)

theorem evaluate (expiry : Bool) : RuledGrants (s.evaluate expiry) := handStage (h.same (by rfl)) s

theorem takeMast (n : Nat) (readings : List (Option Nat)) : RuledGrants (s.takeMast n readings) := by
  unfold State.takeMast
  split
  · exact (evaluate (h.same (by rfl)) false).ite _ h
  · exact h

/-! ### The drive bus -/

/-- A loss freezes both grants of its station (R83). -/
theorem lose (i : Stn) : RuledGrants (s.lose i) := by
  have left : RuledGrants ((((s.emptySlots i).modStnStats i fun t => { t with losses := bump t.losses }).leaveStowed i
    .lost).leaveMotion i) := h.same (by simp)
  have frozen := ((left.giveOutcome i .lost).modMotionGrant (i := i) Grant.Ruled.freeze).modHeatGrant (i := i) Grant.Ruled.freeze
  unfold State.lose
  exact ((frozen.same (loseHeat_grants ..)).setMotion i .lost).judgeLock i

theorem stopAfresh (i : Stn) : RuledGrants (s.stopAfresh i) := (h.placeMotion i _).setMotion i _

theorem takenAway (i : Stn) (m : Motion) (r : Reason) (o : MoveOutcome) : RuledGrants (s.takenAway i m r o) := by
  have given := giveOutcome (s := (s.leaveStowed i r).leaveMotion i) (h.same (by simp)) i o
  exact (given.eased (withdrawMotion_eases ..)).setMotion i m

theorem judgeArrival (i : Stn) (st : CabStatus) : RuledGrants (s.judgeArrival i st) :=
  ((((h.giveOutcome i _).placeMotion i _).setMotion i _).ite _ ((h.giveOutcome i _).setMotion i _)).ite _ h

theorem moveRefused (i : Stn) (st : CabStatus) (p : Posture) (v : Verdict) : RuledGrants (s.moveRefused i st p v) := by
  have refused := h.giveOutcome i (refusedOutcome v)
  exact (refused.stopAfresh i).ite _ ((refused.setMotion i _).ite _ ((refused.placeMotion i _).setMotion i _))

theorem stationRemote (i : Stn) (st : CabStatus) (tk : TakenFlags) (a : Answer) (mark : Bool) :
    RuledGrants (s.stationRemote i st tk a mark) := by
  unfold State.stationRemote
  split
  · exact h.stopAfresh i
  · exact (h.setMotion i _).ite _ (h.stopAfresh i)
  · exact (h.setMotion i _).ite _ h
  · split
    · exact h.moveRefused i st _ _
    · split
      · exact (h.judgeArrival i st).ite _ h
      · exact h
  · split
    · exact h.moveRefused i st _ _
    · exact h
  · exact h

theorem stationReply (i : Stn) (st : CabStatus) (first : Bool) (tk : TakenFlags) (a : Answer) (mark : Bool) :
    RuledGrants (s.stationReply i st first tk a mark) := by
  have resolved : RuledGrants (s.resolveFirst i st) := by
    rw [resolveFirst_eq]
    exact (h.stopAfresh i).ite _ (h.setMotion i _)
  exact resolved.ite _ ((h.ite _ (h.takenAway i ..)).ite _ ((h.ite _ (h.takenAway i ..)).ite _ (h.stationRemote i st tk a mark)))

theorem parkReply (i : Stn) (st : CabStatus) (tk : TakenFlags) : RuledGrants (s.parkReply i st tk) := by
  unfold State.parkReply
  split
  · split
    · exact ((h.placeMotion i .brake).same (setPark_grants ..)).ite _ h
    · exact ((h.giveOutcome i _).setMotion i _).ite _ h
    · exact h
  · exact h

theorem lockAndStation (i : Stn) (st : CabStatus) (first : Bool) (tk : TakenFlags) (a : Answer) (mark : Bool) :
    RuledGrants (s.lockAndStation i st first tk a mark) :=
  ((((h.lockReply i st a).judgeLock i).stationReply i st first tk a mark).judgeLock i).ite _
    (((h.stationReply i st first tk a mark).lockReply i st a).judgeLock i)

/-- The first reply adopts the motion grant and settles the heater grant; any other may end a wait (R67, R81, R82). -/
theorem allocFirst (i : Stn) (st : CabStatus) (first : Bool) (a : Answer) : RuledGrants (s.allocFirst i st first a) :=
  ((h.modMotionGrant fun _ => .adopt ..).settleHeatFirst i st.closed).ite _ ((h.eased (.endWait s i)).ite _ h)

theorem heatTakes (i : Stn) (st : CabStatus) (first : Bool) (tk : TakenFlags) (a : Answer) (was : Bool) :
    RuledGrants (s.heatTakes i st first tk a was) :=
  (h.same (judgeBarAs_grants ..)).ite _ ((h.heatReply i ..).same (judgeBarAs_grants ..))

/-- Every block takes a good reply (R165). -/
theorem takeReply (i : Stn) (st : CabStatus) (a : Answer) : RuledGrants (s.takeReply i st a) := by
  have written : RuledGrants ((s.modCab i fun k => k.takeReply st a s.clock).modStn i fun r => r.write st) := h.same (by rfl)
  have moved := ((((written.allocFirst i st (s.pollOnly i) a).allocReply i st).lockAndStation i st (s.pollOnly i) (s.cab i).taken a
    (s.cab i).mark).stowReply i st (s.cab i).taken a).parkReply i st (s.cab i).taken
  have heated := moved.heatTakes i st (s.pollOnly i) (s.cab i).taken a (s.isStowed i)
  exact same (judgeLock (heated.same (returnRejected_grants _ i st a)) i) rfl

theorem judgeLoss (i : Stn) : RuledGrants (s.judgeLoss i) := (h.lose i).ite _ h

theorem miss (i : Stn) : RuledGrants (s.miss i) := judgeLoss (h.same (by rfl)) i

/-! ### The requests that act -/

theorem enableStation (i : Stn) : RuledGrants (s.enableStation i) := by
  have recorded {f : Station → Station} := setMotion (h.same (modStn_grants s i f)) i .unknown
  have judged {f : Station → Station} {g : Cabinet → Cabinet} {k : LockRec → LockRec} :
      RuledGrants (((((s.modStn i f).setMotion i .unknown).modCab i g).modLock i k).judgeLockBar i) :=
    ((recorded (f := f)).same (by simp)).judgeLockBar i
  unfold State.enableStation
  dsimp only
  split
  case h_4 => exact judged
  all_goals exact judged.same (giveEntry_grants ..)

theorem disableStation (i : Stn) : RuledGrants (s.disableStation i) := by
  have blanked := setMotion (h.same (modStn_grants s i Station.blank)) i .disabled
  rw [disableStation_eq]
  exact ((blanked.same (takenOut_grants ..)).judgeLock i).same (setChan_grants ..)

theorem applyParam (p : Param) (before : Params) : RuledGrants (s.applyParam p before) := by
  cases p with
  | heatPriority => exact h.same (by rfl)
  | mastEnable => exact (h.same (t := s.enableMasts before) rfl).evaluate false
  | mastSilence => exact (h.same (t := s.moveMastSilence) rfl).evaluate false
  | minMasts => exact h.evaluate false
  | snowClass | snowTemp | autoSnow => exact h.judgeAuto _
  | snowIdle => exact (h.same (moveIdle_grants s)).judgeParks
  | panelSilence => exact h.foldl (fun k i => k.moveSilence i) _
  | missLimit => exact h.foldl (fun k i => k.judgeLoss i) _
  | maskS | maskO => exact h.same (maskSet_grants ..)
  | _ => exact h

end RuledGrants

/-- A handler of requests keeps the rule of R63. -/
def KeepsGrants (q : State → List Byte → Result) : Prop := ∀ {s : State}, RuledGrants s → ∀ p, RuledGrants (q s p).state

/-- A request without arguments keeps the rule where what it runs keeps it. -/
theorem RuledGrants.noArgs {s : State} {r : Unit → Result} (h : RuledGrants s) (k : RuledGrants (r ()).state) (p : List Byte) :
    RuledGrants (noArgs p r s).state := by
  unfold Machine.noArgs
  split
  · exact k
  · exact h

theorem takeSlew_keepsGrants : KeepsGrants takeSlew := fun h p => by
  unfold takeSlew
  split
  · exact h
  · split
    · exact h
    · exact h.same (displayNotices_grants ..)

theorem takeCancel_keepsGrants : KeepsGrants takeCancel := fun h p => by
  unfold takeCancel
  split
  · split
    · exact h
    · split
      · exact h
      · exact h.endGroup _ _
  · exact h

theorem takeFlush_keepsGrants : KeepsGrants takeFlush := fun h p => h.noArgs (h.foldl (fun k g => k.endGroup _ g) _) p

theorem takeResume_keepsGrants : KeepsGrants takeResume := fun h p => h.noArgs (h.same (displayNotices_grants ..)) p

theorem takeRest_keepsGrants : KeepsGrants takeRest := fun h p => by
  unfold takeRest
  split
  · exact h
  · exact h.foldl (fun k i => k.brakePointed i) _

theorem takeSteer_keepsGrants : KeepsGrants takeSteer := fun h p => by
  unfold takeSteer
  split
  · exact h
  · split
    · exact h
    · exact h.same (displayNotices_grants ..)

theorem takeHalt_keepsGrants : KeepsGrants takeHalt := fun h p => by
  unfold takeHalt
  split
  · exact h
  · exact h.foldl (fun k i => k.haltStation i) _

theorem takeStowAll_keepsGrants : KeepsGrants takeStowAll := fun h p => h.noArgs h.stowAll p

theorem takeUnstow_keepsGrants : KeepsGrants takeUnstow := fun h p => by
  refine h.noArgs ?_ p
  dsimp only
  split
  · exact h.beginEnding
  · split <;> exact h

theorem takeSnowOn_keepsGrants : KeepsGrants takeSnowOn := fun h p => h.noArgs (h.snowTurnOn _) p

theorem takeSnowOff_keepsGrants : KeepsGrants takeSnowOff := fun h p => h.noArgs (h.same (snowTurnOff_grants _)) p

theorem takeConsoleLock_keepsGrants : KeepsGrants takeConsoleLock := fun h p => by
  unfold takeConsoleLock
  split
  · exact h
  · split
    · exact h
    · exact RuledGrants.judgeLockBar (h.same (by rfl)) _

theorem takeConsoleUnlock_keepsGrants : KeepsGrants takeConsoleUnlock := fun h p => by
  unfold takeConsoleUnlock
  split
  · exact h
  · split
    · exact h
    · split
      · exact RuledGrants.judgeLockBar (h.same (by rfl)) _
      · exact h

/-- A write-off writes both grants of its station (R84). -/
theorem takeWriteOff_keepsGrants : KeepsGrants takeWriteOff := fun h p => by
  unfold takeWriteOff
  split
  · exact h
  · split
    · exact (h.modMotionGrant Grant.Ruled.writeOff).modHeatGrant Grant.Ruled.writeOff
    · exact h

theorem takeEnable_keepsGrants : KeepsGrants takeEnable := fun h p => by
  unfold takeEnable
  split
  · exact h
  · exact (h.foldl (fun k i => k.enableStation i) _).same (wakeLines_grants _)

theorem takeDisable_keepsGrants : KeepsGrants takeDisable := fun h p => by
  unfold takeDisable
  split
  · exact h
  · dsimp only
    split
    · exact h.foldl (fun k i => k.disableStation i) _
    · exact h

theorem takeSet_keepsGrants : KeepsGrants takeSet := fun {s} h p => by
  have taken (num idx : Nat) (q : Param) (v : Int) : RuledGrants (s.setTaken num idx q v).state :=
    RuledGrants.applyParam (s := { s with cfg := s.cfg.assign q v }) (h.same (by rfl)) q s.cfg
  unfold takeSet
  split
  · exact h
  · split
    · split
      · exact h
      · dsimp only
        split
        · exact h
        · exact taken ..
    · exact h

theorem takeClear_keepsGrants : KeepsGrants takeClear := fun h p => h.noArgs h.clearQueues p

theorem takeAck_keepsGrants (l : Link) : KeepsGrants (takeAck l) := fun h p => by
  unfold takeAck
  split
  · exact h.same (modLink_grants ..)
  · exact h

theorem takeDump_keepsGrants : KeepsGrants takeDump := fun {s} h p => by
  have cleared (t : Stats) (b : Bool) : RuledGrants (if b then { s with stats := t } else s) :=
    RuledGrants.ite (s := { s with stats := t }) (h.same (by rfl)) _ h
  unfold takeDump
  split
  · split
    · exact h
    · split
      · exact cleared _ _
      · split
        · exact cleared _ _
        · exact h
  · exact h

namespace RuledGrants
variable {s : State} (h : RuledGrants s)
include h

/-! ### Receivers and requests -/

theorem gathered (ln : Line) (rest : List Byte) : RuledGrants (s.gathered ln rest) := h.same (by simp [State.gathered])

theorem siteFrame {t : State} {bytes : List Byte} {p : Frame → Bool} {f : Frame} (ht : s.siteFrame bytes p = some (f, t)) :
    RuledGrants t := by
  unfold State.siteFrame at ht
  split at ht
  · split at ht
    · cases ht
      exact h.gathered .site _
    · cases ht
  · cases ht

theorem answered (l : Link) (f : Frame) (c : Code) (data : List Byte) : RuledGrants ((s.openRequest l f).answer l f.kind c data) :=
  h.same (by simp [State.openRequest, State.answer])

theorem takeQuery (l : Link) (c : Instr) (q : State → List Byte → Code × List Byte) : RuledGrants (s.takeQuery l c q) := by
  unfold State.takeQuery
  split
  · exact h
  · exact h.answered ..

theorem takeUnknown (l : Link) : RuledGrants (s.takeUnknown l) := by
  unfold State.takeUnknown
  split
  · exact h
  · exact h.answered ..

theorem takeRequest {q : State → List Byte → Result} (hq : KeepsGrants q) (l : Link) (c : Instr) :
    RuledGrants (s.takeRequest l c q) := by
  unfold State.takeRequest
  split
  · exact h
  next f _ =>
    have acted := hq (h.same (t := s.openRequest l f) (modLink_grants ..)) f.payload
    exact ((acted.settle ..).ite _ acted).same (modLink_grants ..)

theorem takeLocal {q : State → List Byte → Result} (hq : KeepsGrants q) (l : Link) (c : Instr) :
    RuledGrants (s.takeLocal l c q) := by
  unfold State.takeLocal
  split
  · exact h
  next f _ => exact (hq (h.same (t := s.openRequest l f) (modLink_grants ..)) f.payload).same (modLink_grants ..)

/-! ### The line events and the expiries -/

theorem linkFrame (l : Link) (bytes : List Byte) : RuledGrants (s.linkFrame l bytes) := by
  unfold State.linkFrame
  split
  · exact (h.gathered _ _).same (joinFifo_grants ..)
  · exact h

theorem badFrame (ln : Line) (bytes : List Byte) : RuledGrants (s.badFrame ln bytes) := by
  unfold State.badFrame
  split
  · exact h.same (by simp [State.discard])
  · exact h

theorem startCollecting (ln : Line) (bytes : List Byte) : RuledGrants (s.startCollecting ln bytes) := by
  unfold State.startCollecting
  split
  · exact h.same (setRx_grants ..)
  · exact h

theorem mastFrame (bytes : List Byte) : RuledGrants (s.mastFrame bytes) := by
  unfold State.mastFrame
  split
  next => exact h
  next ht =>
    split
    · exact ((h.siteFrame ht).takeMast _ _).settle ..
    · exact h

theorem precipFrame (bytes : List Byte) : RuledGrants (s.precipFrame bytes) := by
  unfold State.precipFrame
  split
  next => exact h
  next ht =>
    split
    · split
      · exact ((h.siteFrame ht).takePrecip _ _).settle ..
      · exact h.siteFrame ht
    · exact h

theorem feederFrame (bytes : List Byte) : RuledGrants (s.feederFrame bytes) := by
  unfold State.feederFrame
  split
  next => exact h
  next t ht =>
    split
    next n _ => exact ((h.siteFrame ht).same (t := t.takeFeeder n) rfl).settle ..
    next => exact h

theorem ignoredFrame (bytes : List Byte) : RuledGrants (s.ignoredFrame bytes) := by
  unfold State.ignoredFrame
  split
  next => exact h
  next ht => exact h.siteFrame ht

theorem endVisit (v : BusVisit) : RuledGrants (s.endVisit v) := h.same (nextVisit_grants ..)

theorem dropVisit (v : BusVisit) : RuledGrants ((s.dropOutstanding v.station).endVisit v) := endVisit (h.same (modCab_grants ..)) v

theorem statusReply (bytes : List Byte) : RuledGrants (s.statusReply bytes) := by
  unfold State.statusReply
  split
  · exact h
  · split
    · exact h
    · exact (h.dropVisit _).ite _ (((h.takeReply ..).settle ..).endVisit _)

theorem missVisit (v : BusVisit) : RuledGrants (s.missVisit v) := (h.dropVisit v).ite _ (((h.miss _).settle ..).endVisit v)

theorem badReply (bytes : List Byte) : RuledGrants (s.badReply bytes) := by
  unfold State.badReply
  split
  · exact h
  · exact h.ite _ (h.missVisit _)

theorem replyTimeout : RuledGrants s.replyTimeout := by
  unfold State.replyTimeout
  split
  · exact h
  · exact (h.missVisit _).ite _ h

theorem keysReply (bytes : List Byte) : RuledGrants (s.keysReply bytes) := by
  unfold State.keysReply
  split
  · exact h
  · split
    · exact h
    · exact (h.ite _ ((h.takeKeys _ _).settle ..)).same (nextPanel_grants ..)

theorem panelMissed (bytes : Option (List Byte)) : RuledGrants (s.panelMissed bytes) := by
  unfold State.panelMissed
  split
  · exact h
  · split
    · exact h.ite _ (h.same (by rfl))
    · exact ite (h.same (by rfl)) _ h

theorem deadlineEnd : RuledGrants s.deadlineEnd := ite (h.same (by rfl)) _ (h.same (by rfl))

theorem clearEnd : RuledGrants s.clearEnd := by
  have stopped : RuledGrants { s with snow := { s.snow with clearTimer := none } } := h.same (by rfl)
  exact (stopped.same (snowTurnOff_grants _)).ite _ stopped

theorem silenceEnd (m : MastNo) : RuledGrants (s.silenceEnd m) := evaluate (h.same (by rfl)) false

theorem idleEnd (i : Stn) : RuledGrants (s.idleEnd i) := judgePark (h.same (by rfl)) i

/-! ### Every command -/

/-- An expiry, due or not, keeps the rule where its event keeps it. -/
theorem expire {due : Bool} {f : State → State} (hf : ∀ {s}, RuledGrants s → RuledGrants (f s)) {t : State}
    (e : s.expire due f = .next t) : RuledGrants t := by
  cases due with
  | false => exact Host.Outcome.next.inj e ▸ h
  | true => exact Host.Outcome.next.inj e ▸ (hf h).settle ..

omit h in
/-- The next state of an outcome that is written out keeps the rule that is known of it. -/
theorem next {r t : State} (e : (.next r : Out) = .next t) (h : RuledGrants r) : RuledGrants t := Host.Outcome.next.inj e ▸ h

/-- Every command keeps the rule of R63. -/
theorem exec {c : Instr} {t : State} (e : exec c s = .next t) : RuledGrants t := by
  cases c with
  | powerOnReset => exact next e (same (s := State.reset) ((grantRule_iff _).mp reset_grantRule) rfl)
  | linkFrameReceived l b => exact next e (h.linkFrame l b)
  | badFrame ln b => exact next e (h.badFrame ln b)
  | collectingStart ln b => exact next e (h.startCollecting ln b)
  | transmitFrameEnd l => exact next e (h.same (modLink_grants ..))
  | slew => exact next e (h.takeRequest takeSlew_keepsGrants ..)
  | cancel => exact next e (h.takeRequest takeCancel_keepsGrants ..)
  | flush => exact next e (h.takeRequest takeFlush_keepsGrants ..)
  | resume => exact next e (h.takeRequest takeResume_keepsGrants ..)
  | rest => exact next e (h.takeRequest takeRest_keepsGrants ..)
  | steer => exact next e (h.takeRequest takeSteer_keepsGrants ..)
  | halt => exact next e (h.takeRequest takeHalt_keepsGrants ..)
  | stowAll => exact next e (h.takeRequest takeStowAll_keepsGrants ..)
  | unstow => exact next e (h.takeRequest takeUnstow_keepsGrants ..)
  | snowOn => exact next e (h.takeRequest takeSnowOn_keepsGrants ..)
  | snowOff => exact next e (h.takeRequest takeSnowOff_keepsGrants ..)
  | consoleLock => exact next e (h.takeRequest takeConsoleLock_keepsGrants ..)
  | consoleUnlock => exact next e (h.takeRequest takeConsoleUnlock_keepsGrants ..)
  | writeOff => exact next e (h.takeRequest takeWriteOff_keepsGrants ..)
  | enable => exact next e (h.takeRequest takeEnable_keepsGrants ..)
  | disable => exact next e (h.takeRequest takeDisable_keepsGrants ..)
  | setParam => exact next e (h.takeRequest takeSet_keepsGrants ..)
  | clearAll => exact next e (h.takeRequest takeClear_keepsGrants ..)
  | getParam | qStation l | qPower l | qWind l | qCampaign l | qQueue l | qLockout l => exact next e (h.takeQuery ..)
  | ack l => exact next e (h.takeLocal (takeAck_keepsGrants l) ..)
  | dump l => exact next e (h.takeLocal takeDump_keepsGrants ..)
  | unknownRequestKind l => exact next e (h.takeUnknown l)
  | mast b => exact next e (h.mastFrame b)
  | precip b => exact next e (h.precipFrame b)
  | feeder b => exact next e (h.feederFrame b)
  | siteFrameIgnored b => exact next e (h.ignoredFrame b)
  | statusReply b => exact next e (h.statusReply b)
  | badReply b => exact next e (h.badReply b)
  | replyTimeoutExpiry => exact next e h.replyTimeout
  | keys b => exact next e (h.keysReply b)
  | panelReplyMissed b => exact next e (h.panelMissed b)
  | panelSilenceExpiry i => exact h.expire (fun k => k.panelSilent i) e
  | warningExpiry i => exact h.expire (fun k => k.warningEnd i) e
  | silenceExpiry m => exact h.expire (fun k => k.silenceEnd m) e
  | dwellExpiry => exact h.expire (fun k => k.evaluate true) e
  | deadlineExpiry => exact h.expire (fun k => k.deadlineEnd) e
  | clearTimerExpiry => exact h.expire (fun k => k.clearEnd) e
  | timerAExpiry i => exact h.expire (fun k => k.same (stopHeat_grants ..)) e
  | timerBExpiry i => exact h.expire (fun k => k.same (startCycle_grants ..)) e
  | idleExpiry i => exact h.expire (fun k => k.idleEnd i) e

end RuledGrants

/-- Settles O9: a step takes a command, or only time. -/
theorem stepKeepsGrantRule : Obligations.StepKeepsGrantRule := fun s t rule e => by
  have h := (grantRule_iff s).mp rule
  rw [grantRule_iff]
  unfold step idle at e
  split at e
  next c rest _ => exact RuledGrants.exec (h.same (t := { s with pending := rest }) rfl) e
  next =>
    split at e
    · exact h.exec e
    · exact RuledGrants.next e (h.same (by rfl))

end Sys2Proof.Machine

/-! # The admission list: its head, admissions, cuts and deficit actions (O31 to O34) -/

namespace Sys2Proof.Machine

/-! ### Sorting -/

theorem insertBy_eq_orderedInsert {α : Type} (before : α → α → Bool) (x : α) (l : List α) :
    insertBy before x l = l.orderedInsert (fun a b => before a b = true) x := by
  induction l with
  | nil => rfl
  | cons y l ih => rw [insertBy, List.orderedInsert_cons, ih]

/-- The model's sort is the library's insertion sort. -/
theorem sortBy_eq_insertionSort {α : Type} (before : α → α → Bool) (l : List α) :
    sortBy before l = l.insertionSort fun a b => before a b = true :=
  congrArg (fun insert => List.foldr insert [] l) (funext₂ fun x l => insertBy_eq_orderedInsert before x l)

theorem sortBy_pairwise {α : Type} {before : α → α → Bool} (total : ∀ a b, before a b = true ∨ before b a = true)
    (trans : ∀ a b c, before a b = true → before b c = true → before a c = true) (l : List α) :
    (sortBy before l).Pairwise fun a b => before a b = true := by
  have : Std.Total fun a b => before a b = true := ⟨total⟩
  have : IsTrans α fun a b => before a b = true := ⟨trans⟩
  rw [sortBy_eq_insertionSort]
  exact List.pairwise_insertionSort _ l

theorem sortBy_eq_nil {α : Type} {before : α → α → Bool} {l : List α} : sortBy before l = [] ↔ l = [] := by
  simp only [List.eq_nil_iff_forall_not_mem, mem_sortBy]

/-! ### The head of the list (R72, R73) -/

/-- The head order: priority first, then stow duration and station number at priority 7, and the wait at another priority. -/
theorem headBefore_iff (s : State) (a b : Entry) : s.headBefore a b = true ↔
    b.prio < a.prio ∨ (a.prio = b.prio ∧
      ((a.prio = 7 ∧ (b.stowDur < a.stowDur ∨ (a.stowDur = b.stowDur ∧ a.firstStn ≤ b.firstStn))) ∨
        (a.prio ≠ 7 ∧ s.waited b ≤ s.waited a))) := by
  unfold State.headBefore
  split_ifs <;> rw [decide_eq_true_eq] <;> omega

theorem headBefore_total (s : State) (a b : Entry) : s.headBefore a b = true ∨ s.headBefore b a = true := by
  simp only [headBefore_iff]
  omega

theorem headBefore_trans (s : State) (a b c : Entry) (hab : s.headBefore a b = true) (hbc : s.headBefore b c = true) :
    s.headBefore a c = true := by
  rw [headBefore_iff] at hab hbc ⊢
  omega

/-- Of the entries that are not passed over, none stands strictly before the head. -/
theorem head_before {s : State} {e x : Entry} (h : s.head? = some e) (hx : x ∈ s.power.list) (keep : s.passedOver x = false) :
    s.headBefore e x = true := by
  obtain ⟨-, front, back, order, passed⟩ := List.find?_eq_some_iff_append.mp h
  have sorted := sortBy_pairwise (headBefore_total s) (headBefore_trans s) s.power.list
  have mem : x ∈ front ++ e :: back := order ▸ (mem_sortBy _ _ _).mpr hx
  rw [← State.headOrder, order] at sorted
  obtain hx | hx := List.mem_append.mp mem
  · exact absurd (passed x hx) (by simp [keep])
  · obtain rfl | hx := List.mem_cons.mp hx
    · simpa using headBefore_total s x x
    · exact List.rel_of_pairwise_cons (List.pairwise_append.mp sorted).2.1 hx

theorem head?_eq_none_iff (s : State) : s.head? = none ↔ ∀ x ∈ s.power.list, s.passedOver x = true := by
  simp [State.head?, State.headOrder, mem_sortBy]

theorem passedOver_iff (s : State) (e : Entry) : s.passedOver e = true ↔
    (∃ gang ps, e.body = .motion gang ps) ∧ e.prio < s.cfg.floor.at s.wind.stage := by
  unfold State.passedOver
  cases e.body with
  | motion gang ps => exact decide_eq_true_iff.trans ⟨fun h => ⟨⟨gang, ps, rfl⟩, h⟩, fun h => h.2⟩
  | heater i => simp

/-- Settles O32: the head is the first entry, in an order that is total and transitive, that FLOOR does not pass over. -/
theorem headIsFirstInOrder : Obligations.HeadIsFirstInOrder := by
  refine ⟨fun s e h => ⟨(head_mem h).1, (head_mem h).2, fun x hx keep => ?_⟩, head?_eq_none_iff, passedOver_iff,
    fun e gang p ps body => ?_⟩
  · have before := head_before h hx keep
    refine ⟨before, ?_⟩
    rw [headBefore_iff] at before
    simp only [State.waited] at before
    omega
  · simp only [Entry.stowDur, Entry.firstStn, Entry.firstPlan, body, List.head?_cons, and_self]

/-! ### Sums over the grant table (R64) -/

/-- A sum over the 64 grants, each counted as `w` says. -/
def State.sumOf (s : State) (w : Grant → Nat) : Nat := ∑ i, w (s.motionGrant i) + ∑ i, w (s.heatGrant i)

/-- What a grant counts toward the ordinary ceiling (R74). -/
def Grant.ordHeat (g : Grant) : Nat := if g.cls = some .ordinary ∨ g.cls = some .heat then g.amount else 0

theorem Grant.ordHeat_le (g : Grant) : g.ordHeat ≤ g.amount := by
  unfold Grant.ordHeat
  split <;> omega

/-- A grant that is no stow's counts whole. -/
theorem Grant.ordHeat_of_not_stow {g : Grant} (other : g.cls ≠ some .stow) (classed : g.classed) : g.ordHeat = g.amount := by
  unfold Grant.ordHeat
  match hc : g.cls with
  | none => rw [classed hc]; simp
  | some .stow => exact absurd hc other
  | some .ordinary | some .heat => simp

theorem sum_toList (v : Vector Grant 32) (w : Grant → Nat) : (v.toList.map w).sum = ∑ i, w (v.get i) := by
  rw [← List.sum_ofFn]
  congr 1
  refine List.ext_getElem (by simp) fun n _ _ => ?_
  simp only [List.getElem_map, List.getElem_ofFn, Vector.getElem_toList, Vector.get_eq_getElem]

/-- A sum over the table is one over its two columns. -/
theorem sum_grants (s : State) (w : Grant → Nat) : (s.power.grants.map w).sum = s.sumOf w := by
  rw [Power.grants, List.map_append, List.sum_append, sum_toList, sum_toList]
  rfl

theorem total_eq (s : State) : s.total = s.sumOf Grant.amount := sum_grants s _

theorem ordHeat_filters (l : List Grant) :
    amountSum (l.filter fun g => decide (g.cls = some .ordinary)) + amountSum (l.filter fun g => decide (g.cls = some .heat)) =
      (l.map Grant.ordHeat).sum := by
  induction l with
  | nil => rfl
  | cons g l ih =>
    rw [List.map_cons, List.sum_cons, ← ih]
    unfold Grant.ordHeat amountSum
    match hc : g.cls with
    | none | some .stow => simp [hc]
    | some .ordinary | some .heat => simp [hc]; omega

theorem ordHeat_eq (s : State) : s.classTotal .ordinary + s.classTotal .heat = s.sumOf Grant.ordHeat :=
  (ordHeat_filters _).trans (sum_grants s _)

theorem sumOf_congr {s t : State} (e : t.grants = s.grants) (w : Grant → Nat) : t.sumOf w = s.sumOf w := by
  have k : s.Eases t := .same e
  have motion (i : Stn) : t.motionGrant i = s.motionGrant i :=
    congrArg (fun g : Vector Grant 32 × Vector Grant 32 => g.1.get i) e
  simp only [State.sumOf, motion, k.heat]

/-- A column in which one grant counts for at most `d` more sums to at most `d` more. -/
theorem sum_le_of_one {f g : Stn → Nat} {i : Stn} {d : Nat} (one : g i ≤ f i + d) (other : ∀ j, j ≠ i → g j = f j) :
    ∑ j, g j ≤ ∑ j, f j + d := by
  calc ∑ j, g j ≤ ∑ j, (f j + if j = i then d else 0) := Finset.sum_le_sum fun j _ => by
        split
        next e => exact e ▸ one
        next e => exact (other j e).le
    _ = ∑ j, f j + d := by rw [Finset.sum_add_distrib, Finset.sum_ite_eq' Finset.univ i fun _ => d, if_pos (Finset.mem_univ i)]

theorem modMotionGrant_sumOf {s : State} {i : Stn} {f : Grant → Grant} {w : Grant → Nat} {d : Nat}
    (one : w (f (s.motionGrant i)) ≤ w (s.motionGrant i) + d) : (s.modMotionGrant i f).sumOf w ≤ s.sumOf w + d := by
  have column := sum_le_of_one (f := fun j => w (s.motionGrant j)) (g := fun j => w ((s.modMotionGrant i f).motionGrant j)) (i := i)
    (by rwa [modMotionGrant_motionGrant_same]) fun j e => by rw [modMotionGrant_motionGrant_ne s f e]
  simp only [State.sumOf, modMotionGrant_heatGrant]
  omega

theorem modHeatGrant_sumOf {s : State} {i : Stn} {f : Grant → Grant} {w : Grant → Nat} {d : Nat}
    (one : w (f (s.heatGrant i)) ≤ w (s.heatGrant i) + d) : (s.modHeatGrant i f).sumOf w ≤ s.sumOf w + d := by
  have column := sum_le_of_one (f := fun j => w (s.heatGrant j)) (g := fun j => w ((s.modHeatGrant i f).heatGrant j)) (i := i)
    (by rwa [modHeatGrant_heatGrant_same]) fun j e => by rw [modHeatGrant_heatGrant_ne s f e]
  simp only [State.sumOf, modHeatGrant_motionGrant]
  omega

/-! ### What an admission adds (R34, R70, R75) -/

section Admission
variable {s : State} {c : GrantClass} {seq : BitVec 32} {p : Plan} {i : Stn}

/-- A consumer that does not wait for power is not admitted. -/
theorem admitMotion_idle (h : (s.stn p.station).motion ≠ .admitting) : s.admitMotion c seq p = s := if_neg h

/-- A MOVE that is placed ends no wait. -/
theorem placeMove_grants (s : State) (i : Stn) (m : Move) : (s.placeMotion i (.move m)).grants = s.grants := by
  simp [State.placeMotion, MotionCmd.isMove]

/-- A station that begins to wait for power or ends such a wait has no move to wait for. -/
theorem setMotion_grants_of_admitting {m : Motion} (h : (s.stn i).motion = .admitting) : (s.setMotion i m).grants = s.grants := by
  have motion : (s.setMotion i m).power.motion = s.power.motion := by rw [setMotion_grants, h]; rfl
  obtain ⟨-, -, -, -, -, -, -, -, -, -, -, heat⟩ := setMotion_rest s i m
  exact congrArg₂ Prod.mk motion heat

/-- Of the grants an admission writes the consumer's own, once. -/
theorem admitMotion_grants (h : (s.stn p.station).motion = .admitting) :
    (s.admitMotion c seq p).grants = (s.modMotionGrant p.station fun g => g.admitted c seq p).grants := by
  have moved (m : Motion) (a : Move) := (placeMove_grants (State.setTargets (State.setMotion (s.modMotionGrant p.station fun g =>
    g.admitted c seq p) p.station m) p) p.station a).trans ((setTargets_grants _ p).trans (setMotion_grants_of_admitting (m := m) h))
  unfold State.admitMotion
  dsimp only
  rw [if_pos h]
  split <;> exact moved _ _

/-- A consumer that still waits after another's admission waited before it, and its grant stands. -/
theorem admitMotion_waiting {j : Stn} (h : ((s.admitMotion c seq p).stn j).motion = .admitting) :
    (s.stn j).motion = .admitting ∧ (s.admitMotion c seq p).motionGrant j = s.motionGrant j := by
  by_cases waits : (s.stn p.station).motion = .admitting
  · have seat : ((s.board.grant c.motion [p.station]).seat j).motion = .admitting := admitMotion_board s c seq p ▸ h
    have out : c.motion ≠ .admitting := by cases c <;> decide
    rw [Board.grant_singleton, if_pos (show (s.board.seat p.station).motion = .admitting from waits)] at seat
    by_cases e : j = p.station
    · rw [e, Board.setSeat_seat_same] at seat
      exact absurd seat out
    · rw [Board.setSeat_seat_ne e] at seat
      have grant := congrArg (fun g : Vector Grant 32 × Vector Grant 32 => g.1.get j) (admitMotion_grants (c := c) (seq := seq) waits)
      exact ⟨seat, grant.trans (modMotionGrant_motionGrant_ne s _ e)⟩
  · rw [admitMotion_idle waits] at h ⊢
    exact ⟨h, rfl⟩

/-- What the admission of a plan may add: nothing where its consumer does not wait. -/
def State.dueIncrease (s : State) (p : Plan) : Nat := if (s.stn p.station).motion = .admitting then s.memberIncrease p else 0

theorem dueIncrease_le (s : State) (p : Plan) : s.dueIncrease p ≤ s.memberIncrease p := by
  unfold State.dueIncrease
  split <;> omega

theorem admitMotion_dueIncrease (q : Plan) : (s.admitMotion c seq p).dueIncrease q ≤ s.dueIncrease q := by
  unfold State.dueIncrease State.memberIncrease
  split
  next h =>
    obtain ⟨waits, grant⟩ := admitMotion_waiting h
    rw [if_pos waits, grant]
  next => exact Nat.zero_le _

variable {w : Grant → Nat} (le : ∀ g : Grant, w g ≤ g.amount)
include le

theorem admitMotion_sumOf (whole : (s.stn p.station).motion = .admitting →
      w (s.motionGrant p.station) = (s.motionGrant p.station).amount) :
    (s.admitMotion c seq p).sumOf w ≤ s.sumOf w + s.dueIncrease p := by
  by_cases h : (s.stn p.station).motion = .admitting
  · have counted : w ((s.motionGrant p.station).admitted c seq p) ≤ p.amount := (le _).trans (norm_amount _).le
    rw [sumOf_congr (admitMotion_grants h), State.dueIncrease, if_pos h, State.memberIncrease]
    refine modMotionGrant_sumOf ?_
    have := whole h
    omega
  · rw [admitMotion_idle h]
    exact Nat.le_add_right ..

/-- The plans of an entry add at most their increases, where the grants of those that wait count whole. -/
theorem admitAll_sumOf (ps : List Plan) (whole : ∀ p ∈ ps, (s.stn p.station).motion = .admitting →
      w (s.motionGrant p.station) = (s.motionGrant p.station).amount) :
    (ps.foldl (State.admitMotion c seq) s).sumOf w ≤ s.sumOf w + (ps.map s.dueIncrease).sum := by
  induction ps generalizing s with
  | nil => simp
  | cons p ps ih =>
    have first := admitMotion_sumOf (c := c) (seq := seq) le (whole p List.mem_cons_self)
    have rest := ih (s := s.admitMotion c seq p) fun q hq waits => by
      obtain ⟨waited, grant⟩ := admitMotion_waiting waits
      rw [grant]
      exact whole q (List.mem_cons_of_mem _ hq) waited
    have smaller : (ps.map (s.admitMotion c seq p).dueIncrease).sum ≤ (ps.map s.dueIncrease).sum :=
      List.sum_le_sum fun q _ => admitMotion_dueIncrease q
    rw [List.foldl_cons, List.map_cons, List.sum_cons]
    omega

theorem admitHeat_sumOf : (s.admitHeat seq i).sumOf w ≤ s.sumOf w + s.cfg.heaterP := by
  have granted := modHeatGrant_sumOf (s := s) (i := i) (w := w) (d := s.cfg.heaterP)
    (f := fun g => Grant.norm
      { g with cls := some .heat, amount := s.cfg.heaterP, surcharge := none, phaseP := none, seq := some seq })
    ((le _).trans ((norm_amount _).le.trans (Nat.le_add_left ..)))
  exact (sumOf_congr (by rfl) w).trans_le granted

omit le in
/-- What an admission does before it grants anything: the entry leaves the list, and the admission is counted. -/
def State.taken (s : State) (e : Entry) : State :=
  { s with
    power := { s.power with list := s.power.list.erase e, admission := s.power.admission + 1 }
    stats := { s.stats with admissions := bump s.stats.admissions } }

omit le in
theorem admitEntry_motion {e : Entry} {gang : Bool} {ps : List Plan} (body : e.body = .motion gang ps) :
    s.admitEntry e = ps.foldl (State.admitMotion e.cls s.power.admission) (s.taken e) := by
  rw [State.admitEntry, body]
  rfl

omit le in
theorem admitEntry_heater {e : Entry} {i : Stn} (body : e.body = .heater i) :
    s.admitEntry e = (s.taken e).admitHeat s.power.admission i := by
  rw [State.admitEntry, body]
  rfl

omit le in
theorem taken_grants (e : Entry) : (s.taken e).grants = s.grants := rfl

omit le in
theorem taken_motionGrant (e : Entry) (i : Stn) : (s.taken e).motionGrant i = s.motionGrant i := rfl

omit le in
theorem taken_dueIncrease (e : Entry) (p : Plan) : (s.taken e).dueIncrease p = s.dueIncrease p := rfl

/-- An admission adds at most the increase of its entry. -/
theorem admitEntry_sumOf (e : Entry) (whole : ∀ i ∈ e.motionStns, w (s.motionGrant i) = (s.motionGrant i).amount) :
    (s.admitEntry e).sumOf w ≤ s.sumOf w + s.increase e := by
  have before := sumOf_congr (taken_grants (s := s) e) w
  cases body : e.body with
  | motion gang ps =>
    have inside (p : Plan) (hp : p ∈ ps) : p.station ∈ e.motionStns := by
      simp only [Entry.motionStns, body]
      exact List.mem_map_of_mem hp
    have added := admitAll_sumOf (s := s.taken e) (c := e.cls) (seq := s.power.admission) le ps fun p hp _ => by
      rw [taken_motionGrant]
      exact whole p.station (inside p hp)
    have increases : (ps.map (s.taken e).dueIncrease).sum ≤ (ps.map s.memberIncrease).sum :=
      List.sum_le_sum fun p _ => (taken_dueIncrease e p).trans_le (dueIncrease_le s p)
    rw [admitEntry_motion body, State.increase, body]
    dsimp only
    omega
  | heater i =>
    rw [admitEntry_heater body, State.increase, body, ← before]
    exact admitHeat_sumOf le

end Admission

/-! ### Reconsiderations (R74 to R77) -/

theorem admissible_iff (s : State) (e : Entry) : s.admissible e = true ↔
    s.power.deficit = false ∧ s.total + s.increase e ≤ s.avail ∧
      (e.cls ≠ .stow → s.classTotal .ordinary + s.classTotal .heat + s.increase e ≤ s.ceiling) := by
  rw [show s.classTotal .ordinary + s.classTotal .heat = s.ordHeat from rfl]
  simp only [State.admissible, State.fits, Bool.and_eq_true, Bool.not_eq_true', Bool.or_eq_true, decide_eq_true_eq,
    Decidable.imp_iff_not_or, not_not]

theorem avail_of_owned {s t : State} (h : t.owned = s.owned) : t.avail = s.avail :=
  congrArg (fun r => min r.cfg.feedCap r.feedLimit) h

theorem ceiling_of_owned {s t : State} (h : t.owned = s.owned) : t.ceiling = s.ceiling :=
  congrArg (fun r => min r.cfg.feedCap r.feedLimit - min r.cfg.stowReserve (min r.cfg.feedCap r.feedLimit)) h

theorem admitEntry_total (s : State) (e : Entry) : (s.admitEntry e).total ≤ s.total + s.increase e := by
  rw [total_eq, total_eq]
  exact admitEntry_sumOf (fun _ => le_rfl) e fun _ _ => rfl

theorem cutHeaters_grants (s : State) (l : List Stn) : (l.foldl State.cutHeater s).grants = s.grants :=
  foldl_grants s cutHeater_grants l

theorem reconsiderN_total (n : Nat) (s : State) (h : s.total ≤ s.avail) : (State.reconsiderN n s).total ≤ s.avail := by
  induction n generalizing s with
  | zero => exact h
  | succ n ih =>
    unfold State.reconsiderN
    split
    next => exact h
    next e _ =>
      split
      next => exact h
      next =>
        split
        next ok =>
          have capacity : (s.admitEntry e).avail = s.avail := avail_of_owned (admitEntry_owned s e)
          have room := ((admissible_iff s e).mp ok).2.1
          exact capacity ▸ ih _ (capacity ▸ (admitEntry_total s e).trans room)
        next => rwa [total_eq, sumOf_congr (cutHeaters_grants s _), ← total_eq]

/-! What an admission leaves of the deficit condition. -/

section Deficit
variable (s : State)

@[simp] theorem deficit_ite (p : Prop) [Decidable p] (t : State) :
    (if p then s else t).power.deficit = if p then s.power.deficit else t.power.deficit :=
  apply_ite (fun u : State => u.power.deficit) p s t

@[simp] theorem setMotion_deficit (i : Stn) (m : Motion) : (s.setMotion i m).power.deficit = s.power.deficit := by
  simp [State.setMotion, State.setIdle]

@[simp] theorem placeMotion_deficit (i : Stn) (c : MotionCmd) : (s.placeMotion i c).power.deficit = s.power.deficit := by
  simp [State.placeMotion]

@[simp] theorem admitMotion_deficit (c : GrantClass) (seq : BitVec 32) (p : Plan) :
    (s.admitMotion c seq p).power.deficit = s.power.deficit := by
  unfold State.admitMotion
  dsimp only
  split
  · split <;> simp [State.setTargets]
  · rfl

@[simp] theorem admitEntry_deficit (e : Entry) : (s.admitEntry e).power.deficit = s.power.deficit := by
  unfold State.admitEntry
  dsimp only
  split
  · exact foldl_kept (fun s => s.power.deficit) (fun s p => admitMotion_deficit s _ _ p) _ _
  · rfl

theorem reconsiderN_deficit (n : Nat) : (State.reconsiderN n s).power.deficit = s.power.deficit := by
  induction n generalizing s with
  | zero => rfl
  | succ n ih =>
    unfold State.reconsiderN
    split
    · rfl
    · have cut (l : List Stn) : (l.foldl State.cutHeater s).power.deficit = s.power.deficit :=
        foldl_kept (f := State.cutHeater) (fun s => s.power.deficit) (fun _ _ => rfl) l s
      simp [ih, cut]

end Deficit

/-- In deficit a reconsideration stops at the head (R77). -/
theorem reconsider_of_deficit {s : State} (h : s.power.deficit = true) : s.reconsider = s := by
  rw [State.reconsider, State.reconsiderN]
  split
  · rfl
  · exact if_pos h

/-- Settles O31: only what fits is admitted, and an admission adds no more than the increase of its entry. -/
theorem admissionsStayWithinAvail : Obligations.AdmissionsStayWithinAvail := by
  refine ⟨fun s => ⟨reconsiderN_total _ s, avail_of_owned (reconsider_owned s), reconsiderN_deficit s _, reconsider_of_deficit⟩,
    admissible_iff, fun s e ok other whole => ?_⟩
  obtain ⟨-, room, below⟩ := (admissible_iff s e).mp ok
  have ceiling : (s.admitEntry e).ceiling = s.ceiling := ceiling_of_owned (admitEntry_owned s e)
  have added := admitEntry_sumOf (s := s) Grant.ordHeat_le e fun i hi =>
    Grant.ordHeat_of_not_stow (whole i hi).1 (whole i hi).2
  rw [← ordHeat_eq, ← ordHeat_eq] at added
  exact ⟨ceiling ▸ added.trans (below other), ceiling, (admitEntry_total s e).trans room⟩

/-! ### Cuts (R76) -/

/-- Candidates are counted out until the head fits; each that counts was allowed to, with those before it. -/
theorem countCuts_spec {fits may : Nat → Bool} {amt : Stn → Nat} {l : List Stn} {cut : Nat} {acc r : List Stn}
    (h : countCuts fits may amt l cut acc = some r) : ∃ taken, r = acc ++ taken ∧ fits (cut + (taken.map amt).sum) = true ∧
      (taken ≠ [] → may (cut + (taken.map amt).sum) = true) := by
  have stop {cut : Nat} {acc : List Stn} (fit : fits cut = true) (e : acc = r) : ∃ taken, r = acc ++ taken ∧
      fits (cut + (taken.map amt).sum) = true ∧ (taken ≠ [] → may (cut + (taken.map amt).sum) = true) :=
    ⟨[], by simp [e], by simpa using fit, fun ne => absurd rfl ne⟩
  induction l generalizing cut acc with
  | nil =>
    rw [countCuts, Option.ite_none_right_eq_some] at h
    exact stop h.1 (Option.some.inj h.2)
  | cons i l ih =>
    unfold countCuts at h
    split at h
    next fit => exact stop fit (Option.some.inj h)
    next =>
      split at h
      next allowed =>
        obtain ⟨taken, rfl, fit, may⟩ := ih h
        refine ⟨i :: taken, by simp, by simpa [Nat.add_assoc] using fit, fun _ => ?_⟩
        cases taken with
        | nil => simpa using allowed
        | cons j taken => simpa [Nat.add_assoc] using may nofun
      next => exact ih h

theorem mem_cuttable_iff {s : State} {i : Stn} : i ∈ s.cuttable ↔ (s.chan i).state = .on ∧ (s.heatGrant i).hold = .live := by
  simp [State.cuttable, mem_sortBy, allStns]

/-- Settles O33, from what counting out the candidates gives. -/
theorem cutsMakeTheHeadFit : Obligations.CutsMakeTheHeadFit := by
  intro s e made
  refine ⟨fun i hi => mem_cuttable_iff.mp (cutsFor_sub s e hi), ?_⟩
  generalize hr : s.cutsFor e = r at made ⊢
  unfold State.cutsFor at hr
  dsimp only at hr
  cases counted : countCuts _ _ _ s.cuttable 0 [] with
  | none => exact absurd (hr.symm.trans (congrArg (Option.getD · []) counted)) made
  | some r' =>
    obtain ⟨taken, rfl, fit, may⟩ := countCuts_spec counted
    rw [counted, Option.getD_some] at hr
    subst hr
    rw [Nat.zero_add] at fit may
    refine ⟨fit, fun other => ?_⟩
    simpa [other] using may made

/-! ### Deficit actions (R79) -/

/-- A dish that may be shed: LIVE and ORDINARY, SLEWING or POINTED (R79). -/
def State.mayShed (s : State) (i : Stn) : Bool :=
  (decide ((s.stn i).motion = .slewing) || decide ((s.stn i).motion = .pointed)) &&
    (decide ((s.motionGrant i).cls = some .ordinary) && decide ((s.motionGrant i).hold = .live))

/-- How many heaters may be cut and dishes shed. -/
def State.actionsLeft (s : State) : Nat :=
  (allStns.filter fun i => decide (i ∈ s.cuttable)).length + (allStns.filter s.mayShed).length

theorem mem_sheddable_iff {s : State} {m : Motion} {i : Stn} : i ∈ s.sheddable m ↔
    (s.stn i).motion = m ∧ (s.motionGrant i).cls = some .ordinary ∧ (s.motionGrant i).hold = .live := by
  simp [State.sheddable, mem_sortBy, allStns, and_assoc]

theorem mayShed_iff {s : State} {i : Stn} : s.mayShed i = true ↔ i ∈ s.sheddable .slewing ∨ i ∈ s.sheddable .pointed := by
  simp only [State.mayShed, mem_sheddable_iff, Bool.and_eq_true, Bool.or_eq_true, decide_eq_true_eq, or_and_right]

/-- One station fewer is left where a condition ends for one and begins for none. -/
theorem filter_length_lt {p q : Stn → Bool} {i : Stn} (sub : ∀ j, q j = true → p j = true) (hp : p i = true) (hq : q i = false) :
    (allStns.filter q).length < (allStns.filter p).length := by
  have nested : allStns.filter q = (allStns.filter p).filter q := by
    rw [List.filter_filter]
    exact List.filter_congr fun j _ => by cases hj : q j <;> simp_all
  rw [nested, List.length_filter_lt_length_iff_exists]
  exact ⟨i, List.mem_filter.mpr ⟨List.mem_finRange i, hp⟩, by simp [hq]⟩

theorem filter_length_le {p q : Stn → Bool} (sub : ∀ j, q j = true → p j = true) :
    (allStns.filter q).length ≤ (allStns.filter p).length := (List.monotone_filter_right _ sub).length_le

/-- A cut takes the heater off the candidates, and leaves the dishes. -/
theorem cutHeater_actionsLeft {s : State} {i : Stn} (h : i ∈ s.cuttable) : (s.cutHeater i).actionsLeft < s.actionsLeft := by
  have heater (j : Stn) : ((s.cutHeater i).chan j).state = (s.board.setHeater i .stopping).heater j :=
    congrArg (Board.heater · j) (cutHeater_board s i)
  refine Nat.add_lt_add_right (filter_length_lt (i := i) (fun j hj => ?_) (decide_eq_true h) (decide_eq_false fun after => ?_)) _
  · obtain ⟨on, live⟩ := mem_cuttable_iff.mp (of_decide_eq_true hj)
    by_cases e : j = i
    · exact decide_eq_true (e ▸ h)
    · rw [heater, Board.setHeater_heater_ne e] at on
      exact decide_eq_true (mem_cuttable_iff.mpr ⟨on, live⟩)
  · have on := (mem_cuttable_iff.mp after).1
    rw [heater, Board.setHeater_heater_same] at on
    exact absurd on (by decide)

theorem markShed_motionGrant (s : State) (i j : Stn) :
    ((s.markShed i).motionGrant j).cls = (s.motionGrant j).cls ∧ ((s.markShed i).motionGrant j).hold = (s.motionGrant j).hold := by
  have shed : (s.markShed i).motionGrant j = (s.modMotionGrant i fun g => { g with shed := true }).motionGrant j := rfl
  rw [shed]
  by_cases e : j = i
  · rw [e, modMotionGrant_motionGrant_same]
    exact ⟨rfl, rfl⟩
  · rw [modMotionGrant_motionGrant_ne s _ e]
    exact ⟨rfl, rfl⟩

/-- A dish that is stopped and marked is no candidate any more, and the heaters stay what they were. -/
theorem shed_actionsLeft {s t : State} {i : Stn} {x : Seat} (h : s.mayShed i = true) (k : s.Eases t)
    (b : t.board = s.board.setSeat i x) (stops : x.motion = .stopping) : (t.markShed i).actionsLeft < s.actionsLeft := by
  have heater (j : Stn) : ((t.markShed i).chan j).state = (s.chan j).state := congrArg (Board.heater · j) b
  have motion (j : Stn) : ((t.markShed i).stn j).motion = ((s.board.setSeat i x).seat j).motion :=
    congrArg (fun b : Board => (b.seat j).motion) b
  refine Nat.add_lt_add_of_le_of_lt (filter_length_le fun j hj => ?_) (filter_length_lt (i := i) (fun j hj => ?_) h ?_)
  · obtain ⟨on, live⟩ := mem_cuttable_iff.mp (of_decide_eq_true hj)
    rw [heater] at on
    have grant : (t.markShed i).heatGrant j = s.heatGrant j := k.heat j
    rw [grant] at live
    exact decide_eq_true (mem_cuttable_iff.mpr ⟨on, live⟩)
  · by_cases e : j = i
    · exact e ▸ h
    · obtain ⟨cls, hold⟩ := markShed_motionGrant t i j
      rw [k.cls] at cls
      rw [k.hold] at hold
      rw [State.mayShed, motion, cls, hold, Board.setSeat_seat_ne e] at hj
      exact hj
  · rw [State.mayShed, motion, Board.setSeat_seat_same, stops]
    rfl

theorem actionsLeft_le (s : State) : s.actionsLeft ≤ 64 :=
  Nat.add_le_add (List.length_filter_le ..) (List.length_filter_le ..)

/-- What R79 asks of the end: the projected total is within the capacity, or no step has an action left. -/
def State.actedOut (s : State) (avail : Nat) : Prop :=
  s.projected ≤ avail ∨ (s.cuttable = [] ∧ s.sheddable .slewing = [] ∧ s.sheddable .pointed = [])

/-- Each action leaves fewer of them, so that more fuel than there are actions ends them. -/
theorem deficitActs_actedOut (n : Nat) (s : State) (fuel : s.actionsLeft < n) : (s.deficitActs n).actedOut s.avail := by
  induction n generalizing s with
  | zero => exact absurd fuel (Nat.not_lt_zero _)
  | succ n ih =>
    have act {t : State} (kept : t.owned = s.owned) (fewer : t.actionsLeft < s.actionsLeft) : (t.deficitActs n).actedOut s.avail :=
      avail_of_owned kept ▸ ih t (by omega)
    unfold State.deficitActs
    split
    next fits => exact .inl fits
    next =>
      split
      next i _ cut => exact act (cutHeater_owned s i) (cutHeater_actionsLeft (cut ▸ List.mem_cons_self))
      next noCut =>
        split
        next i _ slewing =>
          have may : s.mayShed i = true := mayShed_iff.mpr (.inl (slewing ▸ List.mem_cons_self))
          exact act ((markShed_owned _ i).trans (stopMoving_owned s i .shed))
              (shed_actionsLeft may (stopMoving_eases s i .shed) (stopMoving_board s i .shed) rfl)
        next noSlewing =>
          split
          next i _ pointed =>
            have may : s.mayShed i = true := mayShed_iff.mpr (.inr (pointed ▸ List.mem_cons_self))
            exact act ((markShed_owned _ i).trans (brakePointed_owned s i))
              (shed_actionsLeft may (brakePointed_eases s i) (brakePointed_board s i) rfl)
          next noPointed => exact .inr ⟨noCut, noSlewing, noPointed⟩

/-- Settles O34: there are fewer actions than fuel. -/
theorem deficitActionsRunOut : Obligations.DeficitActionsRunOut := fun s =>
  deficitActs_actedOut deficitFuel s ((actionsLeft_le s).trans_lt (by decide))

end Sys2Proof.Machine

/-! # WRITE_OFF of a LOST station (O36, R84) -/

namespace Sys2Proof.Machine

/-- What WRITE_OFF does to the two grants of a station. -/
def State.writtenOff (s : State) (i : Stn) : State := (s.modMotionGrant i Grant.writeOff).modHeatGrant i Grant.writeOff

theorem writeOff_of_frozen {g : Grant} (h : g.hold = .frozen) :
    g.writeOff.amount = 0 ∧ g.writeOff.hold = .writtenOff ∧ g.writeOffAmount = g.amount := by
  rw [Grant.writeOff, Grant.writeOffAmount, if_pos h, if_pos h]
  exact ⟨setAmount_amount .., norm_hold _, rfl⟩

theorem writeOff_of_not_frozen {g : Grant} (h : g.hold ≠ .frozen) : g.writeOff = g ∧ g.writeOffAmount = 0 :=
  ⟨if_neg h, if_neg h⟩

/-- Where something is written off, the grant has fallen. -/
theorem writeOff_lt {g : Grant} (h : 0 < g.writeOffAmount) : g.writeOff.amount < g.amount := by
  by_cases frozen : g.hold = .frozen
  · obtain ⟨zero, -, whole⟩ := writeOff_of_frozen frozen
    omega
  · have nothing := (writeOff_of_not_frozen frozen).2
    omega

theorem writtenOff_others (s : State) {i j : Stn} (h : j ≠ i) :
    (s.writtenOff i).motionGrant j = s.motionGrant j ∧ (s.writtenOff i).heatGrant j = s.heatGrant j := by
  unfold State.writtenOff
  exact ⟨modMotionGrant_motionGrant_ne s _ h, modHeatGrant_heatGrant_ne (s.modMotionGrant i _) _ h⟩

/-- A grant that falls is a reason to reconsider the list (R71). -/
theorem needsReconsider_of_fall {s t : State} {i : Stn}
    (h : (t.motionGrant i).amount < (s.motionGrant i).amount ∨ (t.heatGrant i).amount < (s.heatGrant i).amount) :
    needsReconsider s t = true := by
  have fell : anyFell s t = true := List.any_eq_true.mpr ⟨i, List.mem_finRange i, by simpa using h⟩
  simp [needsReconsider, fell]

theorem writtenOff_needsReconsider {s : State} {i : Stn} (h : 0 < (s.motionGrant i).writeOffAmount + (s.heatGrant i).writeOffAmount) :
    needsReconsider s (s.writtenOff i) = true := by
  refine needsReconsider_of_fall (i := i) ?_
  simp only [State.writtenOff, modHeatGrant_motionGrant, modMotionGrant_motionGrant_same, modHeatGrant_heatGrant_same,
    modMotionGrant_heatGrant]
  obtain motion | heat := Nat.add_pos_iff_pos_or_pos.mp h
  · exact .inl (writeOff_lt motion)
  · exact .inr (writeOff_lt heat)

@[simp] theorem openRequest_motionGrant (s : State) (l : Link) (f : Frame) (i : Stn) :
    (s.openRequest l f).motionGrant i = s.motionGrant i := by simp [State.motionGrant, State.openRequest]

@[simp] theorem openRequest_heatGrant (s : State) (l : Link) (f : Frame) (i : Stn) :
    (s.openRequest l f).heatGrant i = s.heatGrant i := by simp [State.heatGrant, State.openRequest]

section WriteOffRequest
variable {s : State} {f : Frame} {i : Stn} (h : Ready s .O f 0x18)
include h

theorem writeOff_done (hi : stationArg f.payload = some i) (lost : (s.stn i).motion = .lost) :
    exec .writeOff s = .next (requestDone s .O f (fun o => (o.modMotionGrant i Grant.writeOff).modHeatGrant i Grant.writeOff)
      (u16 ((s.motionGrant i).writeOffAmount + (s.heatGrant i).writeOffAmount))) := by
  refine congrArg Host.Outcome.next (takeRequest_done (g := takeWriteOff) h ?_)
  simp only [takeWriteOff, hi, openRequest_stn, if_pos lost, openRequest_motionGrant, openRequest_heatGrant]

theorem writeOff_refused (hi : stationArg f.payload = some i) (present : (s.stn i).motion ≠ .lost) :
    exec .writeOff s = .next (requestAnswered s .O f .state []) := by
  refine congrArg Host.Outcome.next (takeRequest_refused (g := takeWriteOff) h nofun ?_)
  simp only [takeWriteOff, hi, openRequest_stn, if_neg present]

theorem writeOff_badArg (hi : stationArg f.payload = none) : exec .writeOff s = .next (requestAnswered s .O f .badArg []) := by
  refine congrArg Host.Outcome.next (takeRequest_refused (g := takeWriteOff) h nofun ?_)
  simp only [takeWriteOff, hi]

end WriteOffRequest

theorem stationArg_outside {p : List Byte} {n : Byte} (hp : p = [n]) (h : n.toNat = 0 ∨ 32 < n.toNat) : stationArg p = none := by
  rw [hp]
  exact dif_neg (by omega)

/-- Settles O36: the request done and refused, what it does to a grant, and what it leaves. -/
theorem writeOffFrozenGrants : Obligations.WriteOffFrozenGrants :=
  ⟨fun _ _ _ => writeOff_done, fun _ => ⟨writeOff_of_frozen, writeOff_of_not_frozen⟩,
    fun s _ => ⟨fun _ other => writtenOff_others s other, rfl, rfl, rfl, rfl, writtenOff_needsReconsider⟩,
    fun _ _ _ => writeOff_refused, fun _ _ _ h hp outside => writeOff_badArg h (stationArg_outside hp outside)⟩

end Sys2Proof.Machine

/-! # The loss of a station (O51: R83, R138, R152, R167) -/

namespace Sys2Proof.Machine

section Outcome
variable (s : State) (i : Stn)

/-! ### Outcomes leave the lockout records, and fill no slot -/

theorem withdrawMotion_locks (p : MotionCmd → Bool) : (s.withdrawMotion i p).locks = s.locks := by
  unfold State.withdrawMotion
  dsimp only
  split
  · split
    · split <;> rfl
    · rfl
  · rfl

theorem withdrawPin_locks (c : PinCmd) : (s.withdrawPin i c).locks = s.locks := by
  unfold State.withdrawPin
  split
  · split <;> rfl
  · rfl

theorem stowOutcome_locks (o : MoveOutcome) : (s.stowOutcome i o).locks = s.locks :=
  (withdrawPin_locks _ i _).trans (withdrawMotion_locks _ i _)

theorem snowOutcome_locks : (s.snowOutcome i).locks = s.locks := by
  unfold State.snowOutcome
  dsimp only
  split
  · exact withdrawMotion_locks ..
  · rfl

theorem giveOutcome_locks (o : MoveOutcome) : (s.giveOutcome i o).locks = s.locks := by
  cases h : (s.stn i).owner with
  | none => rw [State.giveOutcome, h]
  | some w =>
    cases w with
    | group n => rw [giveOutcome_group o h]; rfl
    | steer n => rw [giveOutcome_steer o h]; rfl
    | stow => rw [giveOutcome_stow o h]; exact stowOutcome_locks ..
    | snow => rw [giveOutcome_snow o h]; exact snowOutcome_locks ..

/-- The motion and the pin slot are empty. -/
def State.unsent (s : State) (i : Stn) : Prop := (s.cab i).motion = none ∧ (s.cab i).pin = none

variable {s i}

theorem withdrawMotion_unsent {p : MotionCmd → Bool} (h : s.unsent i) : (s.withdrawMotion i p).unsent i := by
  rw [State.unsent, withdrawMotion_motion, withdrawMotion_pin, h.1]
  exact ⟨rfl, h.2⟩

theorem stowOutcome_unsent {o : MoveOutcome} (h : s.unsent i) : (s.stowOutcome i o).unsent i := by
  rw [State.unsent, stowOutcome_motion, stowOutcome_pin, h.1, h.2]
  exact ⟨rfl, rfl⟩

theorem snowOutcome_unsent (h : s.unsent i) : (s.snowOutcome i).unsent i := by
  unfold State.snowOutcome
  dsimp only
  split
  · exact withdrawMotion_unsent h
  · exact h

theorem giveOutcome_unsent {o : MoveOutcome} (h : s.unsent i) : (s.giveOutcome i o).unsent i := by
  cases hw : (s.stn i).owner with
  | none => rwa [State.giveOutcome, hw]
  | some w =>
    cases w with
    | group n => rw [giveOutcome_group o hw]; exact h
    | steer n => rw [giveOutcome_steer o hw]; exact h
    | stow => rw [giveOutcome_stow o hw]; exact stowOutcome_unsent h
    | snow => rw [giveOutcome_snow o hw]; exact snowOutcome_unsent h

end Outcome

/-! ### The lockout judgement of a station that the part cannot command (R152) -/

theorem judgeRelease_slots (r : LockRec) (d rest : Bool) (now w : Nat) : (r.judgeRelease d rest now w).slots = r.slots := by
  unfold LockRec.judgeRelease
  repeat' split
  all_goals rfl

theorem judgeLock_slots_of_condition {s : State} {i : Stn} (h : (s.stn i).motion.isCondition = true) :
    ((s.judgeLock i).lock i).slots = (s.lock i).slots := by
  have judged (f : LockRec → LockRec) (new : LockStatus) :
      ((s.modLock i f).setLockStatus i new).lock i = { (s.modLock i f).lock i with status := new } :=
    (setLockStatus_lock_of_condition (s := s.modLock i f) h new).1
  unfold State.judgeLock
  dsimp only
  rw [judged, modLock_lock_same]
  exact judgeRelease_slots ..

theorem judgeLock_grants_of_condition {s : State} {i : Stn} (h : (s.stn i).motion.isCondition = true) :
    (s.judgeLock i).grants = s.grants := by
  unfold State.judgeLock
  dsimp only
  rw [setLockStatus_of_condition (s := s.modLock i _) h]
  split
  · rfl
  · exact noticeBoth_grants ..

/-! ### The steps of a loss -/

section Loss
variable (s : State) (i : Stn)

/-- A lost station after its owner has taken its outcome. -/
def State.released (s : State) (i : Stn) : State :=
  ((((s.emptySlots i).modStnStats i fun t => { t with losses := bump t.losses }).leaveStowed i .lost).leaveMotion i).giveOutcome i .lost

/-- The two grants of a station freeze (R83). -/
def State.freezeGrants (s : State) (i : Stn) : State := (s.modMotionGrant i Grant.freeze).modHeatGrant i Grant.freeze

theorem freezeGrants_rest : (s.freezeGrants i).stns = s.stns ∧ (s.freezeGrants i).locks = s.locks ∧ (s.freezeGrants i).bus = s.bus ∧
    (s.freezeGrants i).board = s.board := ⟨rfl, rfl, rfl, rfl⟩

theorem freezeGrants_grants : (s.freezeGrants i).motionGrant i = (s.motionGrant i).freeze ∧
    (s.freezeGrants i).heatGrant i = (s.heatGrant i).freeze := by simp [State.freezeGrants]

/-- A released station with frozen grants and a barred channel. -/
def State.frozen (s : State) (i : Stn) : State := ((s.released i).freezeGrants i).loseHeat i

theorem lose_eq : s.lose i = ((s.frozen i).setMotion i .lost).judgeLock i := rfl

theorem leaveStowed_cab (j : Stn) (r : Reason) : (s.leaveStowed i r).cab j = s.cab j := by
  unfold State.leaveStowed
  split <;> rfl

theorem leaveStowed_locks (r : Reason) : (s.leaveStowed i r).locks = s.locks := by
  unfold State.leaveStowed
  split <;> rfl

theorem emptySlots_cab : (s.emptySlots i).cab i =
    { (s.cab i).overtake (fun _ => true) with motion := none, pin := none, heat := none } := modCab_cab_same ..

theorem released_unsent : (s.released i).unsent i := by
  refine giveOutcome_unsent ?_
  have cab (t : State) : ((t.leaveStowed i .lost).leaveMotion i).cab i = t.cab i := leaveStowed_cab t i i _
  have counted (t : State) (f : StnStats → StnStats) : (t.modStnStats i f).cab i = t.cab i := rfl
  rw [State.unsent, cab, counted, emptySlots_cab]
  exact ⟨rfl, rfl⟩

theorem released_locks : (s.released i).locks = s.locks := by
  rw [State.released, giveOutcome_locks, leaveMotion_locks, leaveStowed_locks, modStnStats_locks, State.emptySlots, modCab_locks]

theorem released_owner : ((s.released i).stn i).owner = none := giveOutcome_owner ..

theorem released_eases : s.Eases (s.released i) := by
  have kept : ((((s.emptySlots i).modStnStats i fun t => { t with losses := bump t.losses }).leaveStowed i .lost).leaveMotion i).grants =
    s.grants := by simp
  exact (State.Eases.same kept).trans (giveOutcome_eases _ i _)

/-- A heater that is lost leaves the stations, the grants and the lockout records, and empties its command slot. -/
theorem loseHeat_rest : (s.loseHeat i).stns = s.stns ∧ (s.loseHeat i).locks = s.locks ∧
    (s.loseHeat i).cab i = { (s.cab i).overtake Sent.isHeat with heat := none } :=
  ⟨rfl, rfl, modCab_cab_same (s := s.leaveHeat i) ..⟩

theorem frozen_locks : (s.frozen i).locks = s.locks := by
  obtain ⟨-, lost, -⟩ := loseHeat_rest ((s.released i).freezeGrants i) i
  obtain ⟨-, froze, -⟩ := freezeGrants_rest (s.released i) i
  exact lost.trans (froze.trans (released_locks s i))

theorem frozen_owner : ((s.frozen i).stn i).owner = none := by
  obtain ⟨lost, -, -⟩ := loseHeat_rest ((s.released i).freezeGrants i) i
  obtain ⟨froze, -⟩ := freezeGrants_rest (s.released i) i
  rw [State.frozen, stn_of_stns (lost.trans froze), released_owner]

theorem frozen_slots : ((s.frozen i).cab i).motion = none ∧ ((s.frozen i).cab i).pin = none ∧ ((s.frozen i).cab i).heat = none := by
  obtain ⟨-, -, lost⟩ := loseHeat_rest ((s.released i).freezeGrants i) i
  obtain ⟨-, -, froze, -⟩ := freezeGrants_rest (s.released i) i
  obtain ⟨motion, pin⟩ := released_unsent s i
  have cab : ((s.released i).freezeGrants i).cab i = (s.released i).cab i := congrArg (fun b : Bus => b.cabs.get i) froze
  rw [State.frozen, lost, cab]
  exact ⟨motion, pin, rfl⟩

/-- Each of the two grants is frozen at its amount. -/
theorem frozen_grants : (s.frozen i).motionGrant i = ((s.released i).motionGrant i).freeze ∧
    (s.frozen i).heatGrant i = (s.heatGrant i).freeze := by
  have lost := loseHeat_grants ((s.released i).freezeGrants i) i
  obtain ⟨motion, heat⟩ := freezeGrants_grants (s.released i) i
  rw [(released_eases s i).heat] at heat
  exact ⟨(congrArg (fun g : Vector Grant 32 × Vector Grant 32 => g.1.get i) lost).trans motion,
    (congrArg (fun g : Vector Grant 32 × Vector Grant 32 => g.2.get i) lost).trans heat⟩

theorem frozen_heater : (s.frozen i).board.heater i = .barred := by
  rw [State.frozen, loseHeat_board, Board.setHeater_heater_same]

theorem lost_isCondition : (((s.frozen i).setMotion i .lost).stn i).motion.isCondition = true := by
  rw [(setMotion_stn _ i _).1]
  rfl

theorem lose_stn : ((s.lose i).stn i).motion = .lost ∧ ((s.lose i).stn i).owner = none := by
  obtain ⟨stns, -, -⟩ := judgeLock_of_condition (lost_isCondition s i)
  obtain ⟨motion, owner, -⟩ := setMotion_stn (s.frozen i) i .lost
  rw [lose_eq, stn_of_stns stns]
  exact ⟨motion, owner.trans (frozen_owner s i)⟩

theorem lose_slots : ((s.lose i).cab i).motion = none ∧ ((s.lose i).cab i).pin = none ∧ ((s.lose i).cab i).heat = none := by
  obtain ⟨-, -, judged⟩ := judgeLock_of_condition (lost_isCondition s i)
  obtain ⟨bus, -⟩ := setMotion_rest (s.frozen i) i .lost
  have cab : (s.lose i).cab i = (s.frozen i).cab i := congrArg (fun b : Bus => b.cabs.get i) (judged.trans bus)
  rw [cab]
  exact frozen_slots s i

theorem lose_view : (s.lose i).view i = s.view i := by
  have emptied (k : Cabinet) : Cabinet.poll { k.overtake (fun _ => true) with motion := none, pin := none, heat := none } = k.poll :=
    Cabinet.overtake_poll k fun _ => true
  have empty : (s.emptySlots i).view i = s.view i := modCab_view s i emptied
  simp [State.lose, State.loseHeat, empty]

theorem last_of_view {s t : State} {i : Stn} (h : t.view i = s.view i) : (t.cab i).last = (s.cab i).last :=
  congrArg (·.poll.2.2.2) h

theorem lose_grants : ((s.lose i).motionGrant i).amount = (s.motionGrant i).amount ∧ ((s.lose i).motionGrant i).hold = .frozen ∧
    ((s.lose i).heatGrant i).amount = (s.heatGrant i).amount ∧ ((s.lose i).heatGrant i).hold = .frozen := by
  have judged := judgeLock_grants_of_condition (lost_isCondition s i)
  have eased : (s.frozen i).Eases (s.lose i) := (setMotion_eases (s.frozen i) i .lost).trans (.same (lose_eq s i ▸ judged))
  obtain ⟨motion, heat⟩ := frozen_grants s i
  rw [eased.amount, eased.hold, eased.heat, motion, heat]
  exact ⟨(released_eases s i).amount i, rfl, rfl, rfl⟩

theorem heater_of_board {s : State} {b : Board} (h : s.board = b) (i : Stn) : (s.chan i).state = b.heater i :=
  congrArg (fun b : Board => b.heater i) h

theorem lose_heater : ((s.lose i).chan i).state = .barred := by
  obtain ⟨-, board, -⟩ := judgeLock_of_condition (lost_isCondition s i)
  rw [setMotion_board] at board
  rw [lose_eq, heater_of_board board, Board.setSeat_heater, frozen_heater]

theorem lose_lockSlots : ((s.lose i).lock i).slots = (s.lock i).slots := by
  obtain ⟨-, locks, -⟩ := setMotion_rest (s.frozen i) i .lost
  rw [lose_eq, judgeLock_slots_of_condition (lost_isCondition s i)]
  exact congrArg (fun l : Locks => (l.recs.get i).slots) (locks.trans (frozen_locks s i))

end Loss

/-- Settles O51, record by record: the judgement that ends a loss finds a station it cannot command, and writes its lockout status only. -/
theorem lossFreezesTheStation : Obligations.LossFreezesTheStation := by
  intro s i _
  obtain ⟨motion, owner⟩ := lose_stn s i
  obtain ⟨noMotion, noPin, noHeat⟩ := lose_slots s i
  obtain ⟨motionAmount, motionHold, heatAmount, heatHold⟩ := lose_grants s i
  have last := last_of_view (lose_view s i)
  have heater := lose_heater s i
  have slots := lose_lockSlots s i
  exact ⟨motion, owner, noMotion, noPin, noHeat, last, motionAmount, motionHold, heatAmount, heatHold, heater, slots⟩

end Sys2Proof.Machine

/-! # Site frames: MAST, PRECIP, FEEDER and others (O57) -/

namespace Sys2Proof.Machine

/-! ### Frames of the site line (R174) -/

section Line
variable {s : State} {b : List Byte} {f : Frame} {rest : List Byte} (good : s.site.find b = .good f rest)
include good

theorem siteFrame_good {p : Frame → Bool} (h : p f = true) : s.siteFrame b p = some (f, s.gathered .site rest) := by
  rw [State.siteFrame, good]
  exact if_pos h

theorem mast_taken {m : Nat} {rs : List (Option Nat)} (kind : f.kind = kindMast) (args : mastArgs f.payload = some (m, rs)) :
    exec (.mast b) s = .next (settle false (s.gathered .site rest) ((s.gathered .site rest).takeMast m rs)) := by
  refine congrArg Host.Outcome.next ?_
  rw [State.mastFrame, siteFrame_good good (by simp [kind])]
  simp only [args]

theorem precip_taken {c : Nat} {k : PrecipClass} {air : Option Int} (kind : f.kind = kindPrecip)
    (args : precipArgs f.payload = some (c, air)) (cls : classOf c = some k) :
    exec (.precip b) s = .next (settle false (s.gathered .site rest) ((s.gathered .site rest).takePrecip k air)) := by
  refine congrArg Host.Outcome.next ?_
  rw [State.precipFrame, siteFrame_good good (by simp [kind])]
  simp only [args, cls]

theorem precip_ignored {c : Nat} {air : Option Int} (kind : f.kind = kindPrecip) (args : precipArgs f.payload = some (c, air))
    (cls : classOf c = none) : exec (.precip b) s = .next (s.gathered .site rest) := by
  refine congrArg Host.Outcome.next ?_
  rw [State.precipFrame, siteFrame_good good (by simp [kind])]
  simp only [args, cls]

theorem feeder_taken {n : Nat} (kind : f.kind = kindFeeder) (args : feederArg f.payload = some n) :
    exec (.feeder b) s = .next (settle false (s.gathered .site rest) ((s.gathered .site rest).takeFeeder n)) := by
  refine congrArg Host.Outcome.next ?_
  rw [State.feederFrame, siteFrame_good good (by simp [kind])]
  simp only [args]

theorem siteFrame_ignored (other : siteFrameTaken f = false) : exec (.siteFrameIgnored b) s = .next (s.gathered .site rest) := by
  refine congrArg Host.Outcome.next ?_
  rw [State.ignoredFrame, siteFrame_good good (by simp [other])]

end Line

theorem classOf_of_gt {c : Nat} (h : 3 < c) : classOf c = none := by
  obtain ⟨n, rfl⟩ := Nat.exists_eq_add_of_le' h
  rfl

/-! ### The controller's front: weather, automatic condition and mode (R124 to R128) -/

/-- What the snow melt controller keeps beside the channels and the parks. -/
structure SnowFront where
  mode : SnowMode
  source : Option SnowSource
  cls : Option PrecipClass
  air : Option Int
  auto : Bool
  clearTimer : Option Nat

def Snow.front (n : Snow) : SnowFront where
  mode := n.mode
  source := n.source
  cls := n.cls
  air := n.air
  auto := n.auto
  clearTimer := n.clearTimer

section Front
variable (s : State) (i : Stn)

theorem setMotion_front (m : Motion) : (s.setMotion i m).snow.front = s.snow.front :=
  congrArg (fun r : SparedRecords => r.snow.front) (setMotion_spared s i m)

theorem startCycle_front : (s.startCycle i).snow.front = s.snow.front := by
  unfold State.startCycle State.startCycleAs
  dsimp only
  split <;> rfl

theorem chanModeOn_front : (s.chanModeOn i).snow.front = s.snow.front := by
  unfold State.chanModeOn
  split
  · exact startCycle_front s i
  · rfl

theorem judgePark_front : (s.judgePark i).snow.front = s.snow.front := by
  unfold State.judgePark
  dsimp only
  split
  · split <;> exact setMotion_front ..
  · rfl

/-- Channels and parks that act on the mode leave the front. -/
theorem modeActs_front : (allStns.foldl State.chanModeOn s).judgeParks.snow.front = s.snow.front :=
  (foldl_kept (fun s : State => s.snow.front) judgePark_front _ _).trans (foldl_kept (fun s : State => s.snow.front) chanModeOn_front _ _)

theorem snowTurnOn_front (src : SnowSource) :
    (s.snowTurnOn src).snow.front = { s.snow.front with mode := .on, source := some src } := by
  unfold State.snowTurnOn
  dsimp only
  split
  next on =>
    simp only [Snow.front, on]
  next => exact modeActs_front _

end Front

/-! ### PRECIP (R126 to R128) -/

section Precip
variable (s : State) (c : PrecipClass) (air : Option Int)

/-- The state that has written class, air temperature and clear timer, before the automatic condition is judged. -/
def State.precipSeen (s : State) (c : PrecipClass) (air : Option Int) : State :=
  State.clearStep { s with snow := { s.snow with cls := some c, air := air } } c

theorem takePrecip_eq : s.takePrecip c air = (s.precipSeen c air).judgeAuto s.snow.auto := rfl

theorem precipSeen_front : (s.precipSeen c air).snow.front = { s.snow.front with
    cls := some c, air := air, clearTimer := (s.precipSeen c air).snow.clearTimer } := rfl

/-- The clear timer runs at class NONE, from when it started, and at no other class (R128). -/
theorem precipSeen_clearTimer : (s.precipSeen c air).snow.clearTimer =
    if c = .dry then some (s.snow.clearTimer.getD (s.clock + 1000 * s.cfg.snowClear)) else none := by
  unfold State.precipSeen State.clearStep
  dsimp only
  split
  · cases s.snow.clearTimer <;> simp [seconds, Nat.mul_comm]
  · rfl

theorem precipSeen_autoMet : (s.precipSeen c air).autoMet = true ↔
    s.cfg.snowClass ≤ c.ctorIdx ∧ ∃ t, air = some t ∧ t ≤ s.cfg.snowTemp := by
  have met : (s.precipSeen c air).autoMet =
    (decide (s.cfg.snowClass ≤ c.ctorIdx) && match air with | some t => decide (t ≤ s.cfg.snowTemp) | none => false) := rfl
  rw [met]
  cases air <;> simp

/-- The automatic condition turns the mode on: it has become true, with AUTO_SNOW set and the mode OFF (R127). -/
def State.autoTurnsOn (s : State) (c : PrecipClass) (air : Option Int) : Prop :=
  (s.precipSeen c air).autoMet = true ∧ s.snow.auto = false ∧ s.cfg.autoSnow = true ∧ s.snow.mode = .off

/-- The state that has judged the automatic condition and not acted on it. -/
def State.precipJudged (s : State) (c : PrecipClass) (air : Option Int) : State :=
  { s.precipSeen c air with snow := { (s.precipSeen c air).snow with auto := (s.precipSeen c air).autoMet } }

variable {s c air}

theorem takePrecip_on (h : s.autoTurnsOn c air) : s.takePrecip c air = (s.precipJudged c air).snowTurnOn .auto := by
  obtain ⟨met, before, auto, off⟩ := h
  rw [takePrecip_eq, State.judgeAuto]
  refine if_pos ?_
  rw [met, before]
  simp only [Bool.true_and, Bool.not_false, Bool.and_eq_true, decide_eq_true_eq]
  exact ⟨auto, off⟩

theorem takePrecip_same (h : ¬ s.autoTurnsOn c air) : s.takePrecip c air = s.precipJudged c air := by
  rw [takePrecip_eq, State.judgeAuto]
  refine if_neg fun on => h ?_
  simp only [Bool.and_eq_true, Bool.not_eq_true', decide_eq_true_eq] at on
  obtain ⟨⟨⟨met, before⟩, auto⟩, off⟩ := on
  exact ⟨met, before, auto, off⟩

/-- Whether the mode turns on or not, the weather is as seen and the condition as judged. -/
theorem takePrecip_front : (s.takePrecip c air).snow.cls = some c ∧ (s.takePrecip c air).snow.air = air ∧
    (s.takePrecip c air).snow.clearTimer = (s.precipSeen c air).snow.clearTimer ∧
    (s.takePrecip c air).snow.auto = (s.precipSeen c air).autoMet := by
  by_cases h : s.autoTurnsOn c air
  · have front := snowTurnOn_front (s.precipJudged c air) .auto
    rw [← takePrecip_on h] at front
    exact ⟨congrArg SnowFront.cls front, congrArg SnowFront.air front, congrArg SnowFront.clearTimer front,
      congrArg SnowFront.auto front⟩
  · rw [takePrecip_same h]
    exact ⟨rfl, rfl, rfl, rfl⟩

theorem takePrecip_turnsOn (h : s.autoTurnsOn c air) :
    (s.takePrecip c air).snow.mode = .on ∧ (s.takePrecip c air).snow.source = some .auto := by
  have front := snowTurnOn_front (s.precipJudged c air) .auto
  rw [← takePrecip_on h] at front
  exact ⟨congrArg SnowFront.mode front, congrArg SnowFront.source front⟩

theorem takePrecip_stays (h : ¬ s.autoTurnsOn c air) : s.takePrecip c air = { s with snow := { s.snow with
    cls := some c, air := air, auto := (s.takePrecip c air).snow.auto, clearTimer := (s.takePrecip c air).snow.clearTimer } } := by
  rw [takePrecip_same h]
  rfl

end Precip

/-! ### MAST (R88, R89, R91) -/

theorem takeMast_outside {n : Nat} (s : State) (rs : List (Option Nat)) (h : n = 0 ∨ 4 < n) : s.takeMast n rs = s :=
  dif_neg (by omega)

theorem takeMast_inside (s : State) (i : MastNo) (rs : List (Option Nat)) : s.takeMast (i.val + 1) rs =
    if s.cfg.mastOn i then
      { s with wind := { s.wind with masts := upd s.wind.masts i fun m => m.hear rs s.cfg.mastSilence s.clock } }.evaluate false
    else s := by
  rw [State.takeMast, dif_pos (by omega)]
  rfl

theorem validReadings_length (l : List (Option Nat)) : (validReadings l).length = l.countP (·.isSome) := by
  induction l with
  | nil => rfl
  | cons r l ih => cases r <;> simpa [validReadings] using ih

theorem hear_eq (m : Mast) (l : List (Option Nat)) (silence now : Nat) : m.hear l silence now =
    { m.take l now with silence := if l.countP (·.isSome) = 0 then m.silence else some (now + 1000 * silence + 1) } := by
  simp only [← validReadings_length, List.length_eq_zero_iff, Mast.hear]
  split
  · rfl
  · rw [seconds, Nat.mul_comm]

theorem conditionOf_eq (n : Nat) :
    conditionOf n = if n = 0 then Condition.noReading else if n = 1 then .degraded else .normal := by
  match n with
  | 0 | 1 | n + 2 => rfl

/-- The middle one of three. -/
def median (a b c : Nat) : Nat := max (min a b) (min (max a b) c)

theorem median_mem (a b c : Nat) : median a b c = a ∨ median a b c = b ∨ median a b c = c := by
  unfold median
  omega

theorem median_middle (a b c : Nat) : 2 ≤ [a, b, c].countP (fun r => decide (r ≤ median a b c)) ∧
    2 ≤ [a, b, c].countP (fun r => decide (median a b c ≤ r)) := by
  have two {p q r : Prop} [Decidable p] [Decidable q] [Decidable r] (h : p ∧ q ∨ p ∧ r ∨ q ∧ r) :
      2 ≤ 0 + (if r then 1 else 0) + (if q then 1 else 0) + (if p then 1 else 0) := by
    obtain ⟨hp, hq⟩ | ⟨hp, hr⟩ | ⟨hq, hr⟩ := h <;> simp [*]
  simp only [List.countP_cons, List.countP_nil, decide_eq_true_iff]
  unfold median
  exact ⟨two (by omega), two (by omega)⟩

/-- What R88 asks of the value of a frame: a valid reading, clamped; the higher of two, and the middle one of three. -/
def FrameValue (a b c : Option Nat) (v : Nat) : Prop :=
  (∃ x, some x ∈ [a, b, c] ∧ v = min x 800) ∧
    ([a, b, c].countP (·.isSome) = 2 → ∀ x, some x ∈ [a, b, c] → min x 800 ≤ v) ∧
    (∀ x y z, a = some x → b = some y → c = some z →
      2 ≤ [min x 800, min y 800, min z 800].countP (fun r => decide (r ≤ v)) ∧
      2 ≤ [min x 800, min y 800, min z 800].countP (fun r => decide (v ≤ r)))

theorem mastValue_frame (a b c : Option Nat) (valid : [a, b, c].countP (·.isSome) ≠ 0) :
    ∃ v, mastValue (validReadings [a, b, c]) = some v ∧ FrameValue a b c v := by
  match a, b, c with
  | none, none, none => exact absurd rfl valid
  | some x, none, none | none, some x, none | none, none, some x => exact ⟨min x 800, rfl, by simp [FrameValue]⟩
  | some x, some y, none | some x, none, some y | none, some x, some y =>
    refine ⟨max (min x 800) (min y 800), rfl, ?_, fun _ => ?_, nofun⟩
    · obtain h | h := max_choice (min x 800) (min y 800)
      · exact ⟨x, by simp, h⟩
      · exact ⟨y, by simp, h⟩
    · simp
  | some x, some y, some z =>
    refine ⟨median (min x 800) (min y 800) (min z 800), rfl, ?_, fun two => absurd two (by simp), ?_⟩
    · obtain h | h | h := median_mem (min x 800) (min y 800) (min z 800)
      · exact ⟨x, by simp, h⟩
      · exact ⟨y, by simp, h⟩
      · exact ⟨z, by simp, h⟩
    · rintro _ _ _ ⟨⟩ ⟨⟩ ⟨⟩
      exact median_middle ..

theorem pushSample_spec (ring : List Sample) (x : Sample) :
    (ring.length < 128 → pushSample ring x = ring ++ [x]) ∧ (ring.length = 128 → pushSample ring x = ring.tail ++ [x]) := by
  unfold pushSample ringPlaces
  refine ⟨fun room => by rw [if_neg (by omega)], fun full => ?_⟩
  rw [if_pos full.ge, full, List.drop_one]

theorem take_ring_of_none (m : Mast) (now : Nat) {l : List (Option Nat)} (h : l.countP (·.isSome) = 0) : (m.take l now).ring = m.ring := by
  rw [← validReadings_length, List.length_eq_zero_iff] at h
  rw [Mast.take, h]
  rfl

theorem take_ring (m : Mast) (now : Nat) {l : List (Option Nat)} {v : Nat} (h : mastValue (validReadings l) = some v) :
    (m.take l now).ring = pushSample m.ring { value := v, time := now } := by
  rw [Mast.take, h]

theorem take_frame (m : Mast) (l : List (Option Nat)) (now : Nat) : (m.take l now).lastFrame = some now ∧
    (m.take l now).valid = some (l.countP (·.isSome)) ∧ (m.take l now).condition = some
      (if l.countP (·.isSome) = 0 then .noReading else if l.countP (·.isSome) = 1 then .degraded else .normal) := by
  rw [← validReadings_length, ← conditionOf_eq]
  exact ⟨rfl, rfl, rfl⟩

/-- Settles O57: the frame's way to its block, then what PRECIP and MAST do. -/
theorem siteFramesReachTheirBlocks : Obligations.SiteFramesReachTheirBlocks := by
  refine ⟨fun b s f rest good => ⟨fun m rs => mast_taken good, fun c k air => precip_taken good, fun n => feeder_taken good,
      fun c air kind args above => precip_ignored good kind args (classOf_of_gt above), siteFrame_ignored good⟩,
    fun s c air => ?precip, fun s n rs => takeMast_outside s rs, takeMast_inside,
    fun m a b c => hear_eq m [a, b, c], fun m a b c now => ?mast⟩
  case precip =>
    obtain ⟨cls, temp, clear, auto⟩ := takePrecip_front (s := s) (c := c) (air := air)
    rw [precipSeen_clearTimer] at clear
    refine ⟨cls, temp, fun wet => clear.trans (if_neg wet), fun dry => clear.trans (if_pos dry), ?_, ?_, ?_⟩
    · rw [auto]
      exact precipSeen_autoMet s c air
    · exact fun met before set off => takePrecip_turnsOn ⟨auto ▸ met, before, set, off⟩
    · refine fun stays => takePrecip_stays fun ⟨met, before, set, off⟩ => ?_
      rw [auto, met, before, set, off] at stays
      simp at stays
  case mast =>
    obtain ⟨time, valid, condition⟩ := take_frame m [a, b, c] now
    refine ⟨time, valid, condition, take_ring_of_none m now, fun valued => ?_⟩
    obtain ⟨v, value, rule⟩ := mastValue_frame a b c valued
    rw [take_ring m now value]
    obtain ⟨room, full⟩ := pushSample_spec m.ring { value := v, time := now }
    exact ⟨v, room, full, rule⟩

end Sys2Proof.Machine

/-! # The configuration table stays lawful (O7)

R99 and R181 say one thing of three pairs of parameters: the dependent one lies below the one that may lower it. So ParamRule is read
here as a rule over `Param.lowers`, and a SET keeps it by one argument for all three pairs. -/

namespace Sys2Proof.Machine

/-- A table whose parameters lie in their ranges, each dependent one below its own, with some mast enabled (R87, R99, R181, R182). -/
structure Params.Lawful (c : Params) : Prop where
  admits : ∀ p : Param, p.admits (c.get p)
  below : ∀ p q : Param, p.lowers q → c.get q < c.get p
  masts : c.get .mastEnable ≠ 0

theorem mastEnable_ne_zero_iff (c : Params) : c.mastEnable ≠ 0 ↔ c.get .mastEnable ≠ 0 := by
  rw [Params.get, Int.natCast_ne_zero, ne_eq, ne_eq, ← BitVec.toNat_inj]
  rfl

theorem paramRule_iff (s : State) : ParamRule s ↔ s.cfg.Lawful := by
  constructor
  · rintro ⟨ranges, levels, pause, masts⟩
    refine ⟨ranges, ?_, (mastEnable_ne_zero_iff _).mp masts⟩
    rintro p q (⟨rfl, rfl⟩ | ⟨u, rfl, rfl⟩ | ⟨u, rfl, rfl⟩)
    · exact Int.ofNat_lt.mpr pause
    · exact Int.ofNat_lt.mpr (levels u).1
    · exact Int.ofNat_lt.mpr (levels u).2
  · rintro ⟨ranges, below, masts⟩
    exact ⟨ranges, fun u => ⟨Int.ofNat_lt.mp (below (.riseMean u) (.fallMean u) (.inr (.inl ⟨u, rfl, rfl⟩))),
        Int.ofNat_lt.mp (below (.riseGust u) (.fallGust u) (.inr (.inr ⟨u, rfl, rfl⟩)))⟩,
      Int.ofNat_lt.mp (below .pauseAt .goAt (.inl ⟨rfl, rfl⟩)), (mastEnable_ne_zero_iff _).mpr masts⟩

/-! ### SET keeps the table lawful (R99, R181) -/

/-- A dependent parameter has none of its own. -/
theorem Param.lowers.last {p q r : Param} (h : p.lowers q) : ¬ q.lowers r := by
  obtain ⟨rfl, rfl⟩ | ⟨u, rfl, rfl⟩ | ⟨u, rfl, rfl⟩ := h <;> simp [Param.lowers]

/-- A dependent parameter has one parameter that may lower it. -/
theorem Param.lowers.unique {p p' q : Param} (h : p.lowers q) (h' : p'.lowers q) : p = p' := by
  obtain ⟨rfl, rfl⟩ | ⟨u, rfl, rfl⟩ | ⟨u, rfl, rfl⟩ := h <;> simpa [Param.lowers, eq_comm] using h'

theorem not_lowers_mastEnable (p : Param) : ¬ p.lowers .mastEnable := by simp [Param.lowers]

/-- A SET of a dependent parameter takes a value below the parameter that may lower it (R99, R181). -/
theorem taken_below {c : Params} {p q : Param} (ranges : ∀ p : Param, p.admits (c.get p)) (h : p.lowers q) (v : Int) :
    c.taken q v < c.get p := by
  obtain ⟨rfl, rfl⟩ | ⟨u, rfl, rfl⟩ | ⟨u, rfl, rfl⟩ := h
  · obtain ⟨low, -⟩ := ranges .pauseAt
    simp only [Param.range, Params.get] at low
    obtain ⟨-, top⟩ := clampInt_mem (r := (0, (c.pauseAt : Int) - 1)) (by simp only; omega) v
    exact Int.lt_of_le_sub_one top
  · exact Int.lt_of_le_sub_one (min_le_right ..)
  · exact Int.lt_of_le_sub_one (min_le_right ..)

/-- A SET reaches no parameter but the one it names and the dependent of that one. -/
theorem assign_get_of_not_lowers {c : Params} {p q : Param} {t : Int} (other : q ≠ p) (free : ¬ p.lowers q) :
    (c.assign p t).get q = c.get q :=
  assign_get_ne other fun _ lowered => by
    obtain ⟨-, -, pair⟩ := (lowered_iff ..).mp lowered
    exact free pair

/-- After a SET the dependent parameter lies below the value taken: it has been lowered, or lay there already. -/
theorem assign_get_dependent_lt {c : Params} {p q : Param} {t : Int} (ht : p.admits t) (pair : p.lowers q) : (c.assign p t).get q < t := by
  by_cases less : t - 1 < c.get q
  · rw [assign_get_lowered ht ((lowered_iff c p t q (t - 1)).mpr ⟨rfl, less, pair⟩)]
    omega
  · have kept : (c.assign p t).get q = c.get q := assign_get_ne pair.ne.symm fun low lowered => by
      obtain ⟨rfl, above, -⟩ := (lowered_iff ..).mp lowered
      exact less above
    omega

namespace Params.Lawful
variable {c : Params} {p : Param}

/-- A SET that is taken keeps the table lawful. -/
theorem assign (h : c.Lawful) (v : Int) (some_mast : p ≠ .mastEnable ∨ c.taken p v ≠ 0) :
    (c.assign p (c.taken p v)).Lawful where
  admits q := by
    have ht := taken_admits h.admits p v
    by_cases same : q = p
    · rwa [same, assign_get_same ht]
    cases lowered : c.lowered p (c.taken p v) with
    | none => rw [assign_get_ne same (by simp [lowered])]; exact h.admits q
    | some x =>
      obtain ⟨r, low⟩ := x
      by_cases dep : q = r
      · obtain ⟨rfl, -, pair⟩ := (lowered_iff ..).mp lowered
        rw [dep, assign_get_lowered ht lowered]
        exact pair.admits ht
      · rw [assign_get_ne same (by simp [lowered, Ne.symm dep])]; exact h.admits q
  below r q pair := by
    have ht := taken_admits h.admits p v
    by_cases upper : r = p
    · subst upper
      rw [assign_get_same ht]
      exact assign_get_dependent_lt ht pair
    rw [assign_get_of_not_lowers upper fun lowers => lowers.last pair]
    by_cases lower : q = p
    · subst lower
      rw [assign_get_same ht]
      exact taken_below h.admits pair v
    · rw [assign_get_of_not_lowers lower fun lowers => upper (pair.unique lowers)]
      exact h.below r q pair
  masts := by
    by_cases same : p = .mastEnable
    · subst same
      rw [assign_get_same (taken_admits h.admits ..)]
      exact some_mast.resolve_left (absurd rfl)
    · rw [assign_get_of_not_lowers (Ne.symm same) (not_lowers_mastEnable p)]
      exact h.masts

end Params.Lawful

/-- What a SET does to the table: nothing, or it writes a value taken, which for MAST_ENABLE is not the empty set (R87, R181). -/
theorem takeSet_cfg_cases (s : State) (b : List Byte) : (takeSet s b).state.cfg = s.cfg ∨
    ∃ p v, (p ≠ .mastEnable ∨ s.cfg.taken p v ≠ 0) ∧ (takeSet s b).state.cfg = s.cfg.assign p (s.cfg.taken p v) := by
  unfold takeSet
  split
  · exact .inl rfl
  · split
    · split
      · exact .inl rfl
      · dsimp only
        split
        · exact .inl rfl
        · rename_i p _ _ some_mast
          exact .inr ⟨p, _, not_and_or.mp some_mast, setTaken_cfg ..⟩
    · exact .inl rfl

theorem takeSet_lawful {s : State} (h : s.cfg.Lawful) (b : List Byte) : (takeSet s b).state.cfg.Lawful := by
  obtain same | ⟨p, v, some_mast, written⟩ := takeSet_cfg_cases s b
  · rwa [same]
  · rw [written]
    exact h.assign v some_mast

/-! ### Every step -/

theorem cfg_of_owned {s t : State} (h : s.owned = t.owned) : s.cfg = t.cfg := congrArg OwnedRecords.cfg h

theorem exec_setParam_lawful {s t : State} (h : s.cfg.Lawful) (e : exec .setParam s = .next t) : t.cfg.Lawful := by
  obtain rfl := Host.Outcome.next.inj e
  obtain kept | ⟨f, handled⟩ := takeRequest_owned_cases s .O .setParam takeSet
  · rwa [cfg_of_owned kept]
  · rw [cfg_of_owned handled]
    exact takeSet_lawful (by rwa [openRequest_cfg]) f.payload

theorem exec_powerOnReset_lawful {s t : State} (e : exec .powerOnReset s = .next t) : t.cfg.Lawful := by
  obtain rfl := Host.Outcome.next.inj e
  exact (paramRule_iff State.reset).mp reset_paramRule

/-- POWER_ON_RESET gives the defaults, SET keeps the table lawful, and every other command keeps the table. -/
theorem exec_lawful {c : Instr} {s t : State} (h : s.cfg.Lawful) (e : exec c s = .next t) : t.cfg.Lawful := by
  by_cases isReset : c = .powerOnReset
  · subst isReset
    exact exec_powerOnReset_lawful e
  by_cases isSet : c = .setParam
  · subst isSet
    exact exec_setParam_lawful h e
  obtain ⟨-, -, cfg, -⟩ := ownedRecordsKeepTheirWriters c s t e
  rwa [cfg isReset isSet]

/-- A step takes a command in a state that differs at most in the commands that wait, or only lets time pass. -/
theorem step_cases {s t : State} (e : step s = .next t) :
    (∃ c l, exec c { s with pending := l } = .next t) ∨ t = { s with clock := s.clock + 1 } := by
  unfold step idle at e
  split at e
  next c rest _ => exact .inl ⟨c, rest, e⟩
  next =>
    split at e
    next c _ => exact .inl ⟨c, s.pending, e⟩
    next => exact .inr (Host.Outcome.next.inj e).symm

/-- Settles O7: a table that is lawful before a step is lawful after it. -/
theorem stepKeepsParamRule : Obligations.StepKeepsParamRule := fun s t rule e => by
  have lawful := (paramRule_iff s).mp rule
  rw [paramRule_iff]
  obtain ⟨c, l, taken⟩ | rfl := step_cases e
  · exact exec_lawful (s := { s with pending := l }) lawful taken
  · exact lawful

end Sys2Proof.Machine

/-! # An evaluation of the wind (O37)

Outside the start-up hold an evaluation takes one of four ways: too few masts, a rise, a fall, or none of these. Each way is one
equation for `Wind.judge` below, and the statement reads the stage, the cause and the dwell off those equations. -/

namespace Sys2Proof.Machine

/-! ### Figures (R90 to R92) -/

theorem maxOf_eq_some_iff (l : List Nat) (m : Nat) : maxOf l = some m ↔ m ∈ l ∧ ∀ n ∈ l, n ≤ m := by
  have largest : maxOf l = l.max? := by cases l <;> rfl
  rw [largest, List.max?_eq_some_iff]

theorem meanOf_map (l : List Sample) :
    meanOf (l.map (·.value)) = if l = [] then none else some ((l.map (·.value)).sum / l.length) := by
  simp only [meanOf, List.map_eq_nil_iff, List.length_map]

theorem seconds_eq (n : Nat) : seconds n = 1000 * n := Nat.mul_comm ..

theorem within_eq (m : Mast) (now secs : Nat) :
    m.within now secs = (m.ring.filter fun x => decide (ageOf now x.time ≤ 1000 * secs)).map (·.value) := by
  rw [Mast.within, seconds_eq]

theorem judgeLive_iff (m : Mast) (now silence : Nat) :
    m.judgeLive now silence = true ↔ ∃ x, m.ring.getLast? = some x ∧ ageOf now x.time ≤ 1000 * silence := by
  unfold Mast.judgeLive Mast.lastValid
  cases m.ring.getLast? <;> simp [seconds_eq]

theorem maxOf_within_iff (m : Mast) (now secs v : Nat) : maxOf (m.within now secs) = some v ↔
    (∃ x ∈ m.ring, ageOf now x.time ≤ 1000 * secs ∧ x.value = v) ∧
      ∀ x ∈ m.ring, ageOf now x.time ≤ 1000 * secs → x.value ≤ v := by
  rw [maxOf_eq_some_iff, within_eq]
  simp only [List.mem_map, List.mem_filter, decide_eq_true_eq, and_assoc]
  exact and_congr_right fun _ =>
    ⟨fun h x hx young => h x.value ⟨x, hx, young, rfl⟩, fun h _ ⟨x, hx, young, value⟩ => value ▸ h x hx young⟩

/-- The largest of a figure over some masts that may each be without it. -/
theorem maxOf_filterMap_iff (l : List Mast) (figure : Mast → Option Nat) (m : Nat) : maxOf (l.filterMap figure) = some m ↔
    (∃ x ∈ l, figure x = some m) ∧ ∀ x ∈ l, ∀ n, figure x = some n → n ≤ m := by
  simp only [maxOf_eq_some_iff, List.mem_filterMap]
  exact and_congr_right fun _ => ⟨fun h x hx n hn => h n ⟨x, hx, hn⟩, fun h n ⟨x, hx, hn⟩ => h x hx n hn⟩

namespace Wind
variable (w : Wind) (c : Params) (now : Nat)

theorem figures_mast (i : MastNo) : (w.figures c now).masts.get i = (w.masts.get i).evaluate (c.mastOn i) c now := by
  simp [Wind.figures, Vector.get_eq_getElem]

theorem figures_mast_off {i : MastNo} (off : c.mastOn i = false) :
    (w.figures c now).masts.get i = { w.masts.get i with live := false } := by
  simp [figures_mast, Mast.evaluate, off]

theorem figures_mast_on {i : MastNo} (on : c.mastOn i = true) : (w.figures c now).masts.get i =
    { w.masts.get i with
      mean := meanOf ((w.masts.get i).within now c.meanSpan), gust := maxOf ((w.masts.get i).within now c.gustSpan)
      live := (w.masts.get i).judgeLive now c.mastSilence } := by
  simp [figures_mast, Mast.evaluate, on]

/-! ### The steps of an evaluation (R95 to R98) -/

section Steps
variable {w c now} {e : Bool}

theorem feedCheck_fed (fed : c.required ≤ w.liveMasts.length) : w.feedCheck c = { w with short := false } := by
  simp [Wind.feedCheck, Nat.not_lt.mpr fed]

theorem feedCheck_lacking (lack : w.liveMasts.length < c.required) (running : w.hold = false) :
    w.feedCheck c = { w with short := true, stage := .stow, cause := .feed, dwell := none } := by
  simp [Wind.feedCheck, lack, running]

theorem feedCheck_held (lack : w.liveMasts.length < c.required) (held : w.hold = true) :
    w.feedCheck c = { w with short := true } := by
  simp [Wind.feedCheck, lack, held]

theorem holdCheck_running (running : w.hold = false) : w.holdCheck c = w := by simp [Wind.holdCheck, running]

theorem holdCheck_short (short : w.short = true) : w.holdCheck c = w := by simp [Wind.holdCheck, short]

theorem holdCheck_ends (held : w.hold = true) (fed : w.short = false) :
    w.holdCheck c = { w with hold := false, stage := w.reached c, cause := .wind } := by
  simp [Wind.holdCheck, held, fed]

theorem riseCheck_rises (rise : w.stage.rank < (w.reached c).rank) :
    w.riseCheck c = { w with stage := w.reached c, cause := .wind, dwell := none } := by
  simp [Wind.riseCheck, rise]

theorem riseCheck_stays (noRise : (w.reached c).rank ≤ w.stage.rank) : w.riseCheck c = w := by
  simp [Wind.riseCheck, Nat.not_lt.mpr noRise]

theorem fallCheck_short (short : w.short = true) : w.fallCheck c now e = { w with dwell := none } := by
  simp [Wind.fallCheck, short]

theorem fallCheck_falls (fed : w.short = false) (fall : e = true ∧ w.dwellDue now = true ∧ w.falls c = true) :
    w.fallCheck c now e = Wind.dwellStep { w with stage := w.stage.below, cause := .wind, dwell := none } c now := by
  simp [Wind.fallCheck, fed, fall]

theorem fallCheck_stays (fed : w.short = false) (stay : ¬ (e = true ∧ w.dwellDue now = true ∧ w.falls c = true)) :
    w.fallCheck c now e = w.dwellStep c now := by
  rw [Wind.fallCheck, if_neg (by simp [fed]), if_neg (by simpa [and_assoc] using stay)]

end Steps

/-- The fall condition and the dwell decide the dwell step, which writes the dwell alone (R98). -/
theorem dwellStep_cases :
    (w.falls c = false ∧ w.dwellStep c now = { w with dwell := none }) ∨
    (w.falls c = true ∧ w.dwell.isSome = true ∧ w.dwellStep c now = w) ∨
    ∃ u, w.stage.up? = some u ∧ w.falls c = true ∧ w.dwell = none ∧
      w.dwellStep c now = { w with dwell := some { start := now, expiry := now + seconds (c.dwell.at u) } } := by
  unfold Wind.falls Wind.dwellStep
  cases w.stage.up? with
  | none => exact .inl ⟨rfl, rfl⟩
  | some u =>
    cases holds : w.fallHolds c u with
    | false => exact .inl ⟨holds, by simp [holds]⟩
    | true =>
      cases running : w.dwell with
      | some d => exact .inr (.inl ⟨holds, rfl, by simp [holds]⟩)
      | none => exact .inr (.inr ⟨u, rfl, holds, rfl, by simp [holds]⟩)

theorem dwellStep_eq : w.dwellStep c now = { w with dwell := (w.dwellStep c now).dwell } := by
  obtain ⟨-, step⟩ | ⟨-, -, step⟩ | ⟨u, -, -, -, step⟩ := dwellStep_cases w c now <;> rw [step]

@[simp] theorem dwellStep_stage : (w.dwellStep c now).stage = w.stage := by rw [dwellStep_eq]
@[simp] theorem dwellStep_cause : (w.dwellStep c now).cause = w.cause := by rw [dwellStep_eq]
@[simp] theorem dwellStep_short : (w.dwellStep c now).short = w.short := by rw [dwellStep_eq]
@[simp] theorem dwellStep_hold : (w.dwellStep c now).hold = w.hold := by rw [dwellStep_eq]

/-- A failed fall condition stops the dwell, one that holds keeps a running dwell or starts the dwell of the stage (R98). -/
theorem dwellStep_dwell : (w.falls c = false → (w.dwellStep c now).dwell = none) ∧
    (w.falls c = true → ∀ d, w.dwell = some d → (w.dwellStep c now).dwell = some d) ∧
    (∀ u, w.stage.up? = some u → w.falls c = true → w.dwell = none →
      (w.dwellStep c now).dwell = some { start := now, expiry := now + 1000 * c.dwell.at u }) := by
  obtain ⟨fails, step⟩ | ⟨holds, running, step⟩ | ⟨u, up, holds, idle, step⟩ := dwellStep_cases w c now
  · simp [fails, step]
  · obtain ⟨d, running⟩ := Option.isSome_iff_exists.mp running
    simp [holds, step, running]
  · simp [up, holds, step, idle, seconds_eq]

/-! ### The ways of an evaluation (R94) -/

/-- The steps of an evaluation that follow the figures (R94). -/
def checks (w : Wind) (c : Params) (now : Nat) (expiry : Bool) : Wind :=
  let v := (w.feedCheck c).holdCheck c
  if v.hold then v else (v.riseCheck c).fallCheck c now expiry

/-- An evaluation is the figures and the checks, but for the field that is the model's own. -/
theorem evaluate_eq_checks (e : Bool) : ∃ l, w.evaluate c now e = { (w.figures c now).checks c now e with lapsed := l } := ⟨_, rfl⟩

section Ways
variable {w c now} {e : Bool} {v : Wind}

theorem checks_running (checked : (w.feedCheck c).holdCheck c = v) (running : v.hold = false) :
    w.checks c now e = (v.riseCheck c).fallCheck c now e := by
  subst checked
  simp only [Wind.checks, running, Bool.false_eq_true, if_false]

theorem checks_held (held : w.hold = true) (lack : w.liveMasts.length < c.required) :
    w.checks c now e = { w with short := true } := by
  simp only [Wind.checks, feedCheck_held lack held, holdCheck_short, held, if_true]

theorem checks_lacking (running : w.hold = false) (lack : w.liveMasts.length < c.required) :
    w.checks c now e = { w with short := true, stage := .stow, cause := .feed, dwell := none } := by
  have top (g : Stage) : g.rank ≤ Stage.stow.rank := by cases g <;> decide
  have checked := (congrArg (Wind.holdCheck · c) (feedCheck_lacking lack running)).trans (holdCheck_running running)
  rw [checks_running checked running, riseCheck_stays (top _), fallCheck_short rfl]

/-- With enough masts, and no hold to end, the rise check and the fall check remain. -/
theorem checks_fed (running : w.hold = false) (fed : c.required ≤ w.liveMasts.length) :
    w.checks c now e = (Wind.riseCheck { w with short := false } c).fallCheck c now e :=
  checks_running (by rw [feedCheck_fed fed]; exact holdCheck_running running) running

theorem checks_rises (running : w.hold = false) (fed : c.required ≤ w.liveMasts.length) (rise : w.stage.rank < (w.reached c).rank) :
    w.checks c now e =
      Wind.dwellStep { w with short := false, stage := w.reached c, cause := .wind, dwell := none } c now := by
  have risen := riseCheck_rises (w := { w with short := false }) rise
  rw [checks_fed running fed, risen, fallCheck_stays rfl (by simp [Wind.dwellDue])]
  rfl

section NoRise
variable (running : w.hold = false) (fed : c.required ≤ w.liveMasts.length) (noRise : (w.reached c).rank ≤ w.stage.rank)
include running fed noRise

theorem checks_noRise : w.checks c now e = Wind.fallCheck { w with short := false } c now e :=
  (checks_fed running fed).trans (congrArg (Wind.fallCheck · c now e) (riseCheck_stays noRise))

theorem checks_falls (fall : e = true ∧ w.dwellDue now = true ∧ w.falls c = true) :
    w.checks c now e =
      Wind.dwellStep { w with short := false, stage := w.stage.below, cause := .wind, dwell := none } c now :=
  (checks_noRise running fed noRise).trans (fallCheck_falls rfl fall)

theorem checks_stays (stay : ¬ (e = true ∧ w.dwellDue now = true ∧ w.falls c = true)) :
    w.checks c now e = Wind.dwellStep { w with short := false } c now :=
  (checks_noRise running fed noRise).trans (fallCheck_stays rfl stay)

end NoRise

theorem checks_released (held : w.hold = true) (fed : c.required ≤ w.liveMasts.length) (idle : w.dwell = none) :
    w.checks c now e =
      Wind.dwellStep { w with short := false, hold := false, stage := w.reached c, cause := .wind } c now := by
  have checked := (congrArg (Wind.holdCheck · c) (feedCheck_fed fed)).trans (holdCheck_ends held rfl)
  rw [checks_running checked rfl, riseCheck_stays le_rfl, fallCheck_stays rfl (by simp [Wind.dwellDue, idle])]
  rfl

theorem checks_short_of_fed (running : w.hold = false) (fed : c.required ≤ w.liveMasts.length) :
    (w.checks c now e).short = false := by
  by_cases rise : w.stage.rank < (w.reached c).rank
  · rw [checks_rises running fed rise, dwellStep_short]
  by_cases fall : e = true ∧ w.dwellDue now = true ∧ w.falls c = true
  · rw [checks_falls running fed (Nat.not_lt.mp rise) fall, dwellStep_short]
  · rw [checks_stays running fed (Nat.not_lt.mp rise) fall, dwellStep_short]

/-- Outside the hold, a stage that is lower than before has fallen at a dwell expiry, and one that is higher is the one reached, or
follows from a short feed (R95, R97, R98). -/
theorem checks_stage_moves (running : w.hold = false) :
    ((w.checks c now e).stage.rank < w.stage.rank → e = true ∧ w.dwellDue now = true ∧
      (w.checks c now e).stage = w.stage.below ∧ (w.checks c now e).cause = .wind) ∧
    (w.stage.rank < (w.checks c now e).stage.rank → (w.checks c now e).short = false →
      (w.checks c now e).stage = w.reached c) := by
  have top (g : Stage) : ¬ Stage.stow.rank < g.rank := by cases g <;> decide
  have below (g : Stage) : ¬ g.rank < g.below.rank := by cases g <;> decide
  by_cases lack : w.liveMasts.length < c.required
  · rw [checks_lacking running lack]
    exact ⟨fun less => absurd less (top _), fun _ => nofun⟩
  have fed := Nat.not_lt.mp lack
  by_cases rise : w.stage.rank < (w.reached c).rank
  · simp only [checks_rises running fed rise, dwellStep_stage]
    exact ⟨fun less => absurd less rise.asymm, fun _ _ => trivial⟩
  have noRise := Nat.not_lt.mp rise
  by_cases fall : e = true ∧ w.dwellDue now = true ∧ w.falls c = true
  · have ⟨expiry, due, _⟩ := fall
    simp only [checks_falls running fed noRise fall, dwellStep_stage, dwellStep_cause]
    exact ⟨fun _ => ⟨expiry, due, trivial, trivial⟩, fun more => absurd more (below _)⟩
  · simp only [checks_stays running fed noRise fall, dwellStep_stage]
    exact ⟨fun less => absurd less (lt_irrefl _), fun more => absurd more (lt_irrefl _)⟩

end Ways

/-! ### A dwell expiry that another evaluation forestalls (R94, log entry 46) -/

theorem evaluate_lapsed (e : Bool) : (w.evaluate c now e).lapsed = true ↔
    e = false ∧ (w.lapsed = true ∨ (w.dwellDue now = true ∧ (w.evaluate c now e).dwellDue now = false)) := by
  have due : (w.evaluate c now e).dwellDue now = (w.judge c now e).dwellDue now := rfl
  rw [due]
  simp [Wind.evaluate]

end Wind

/-- Settles O37: each part of the rule on the stage is one way of the checks on the figures, which keep stage, cause, dwell and hold. -/
theorem stageFollowsFeedAndWind : Obligations.StageFollowsFeedAndWind := by
  refine ⟨fun w c now e running => ?running, fun w c now e held => ?held,
    fun w c now e => ⟨w.evaluate_lapsed c now e, evaluate_dwellEvent⟩, fun w c now i => ?masts,
    fun w c now m => ⟨maxOf_filterMap_iff .., maxOf_filterMap_iff ..⟩⟩
  case running =>
    obtain ⟨l, evaluated⟩ := w.evaluate_eq_checks c now e
    rw [evaluated]
    replace running : (w.figures c now).hold = false := running
    refine ⟨fun lack => ?lacking, fun fed => ⟨?short, fun rise => ?rises,
      fun noRise => ⟨fun expiry due falls => ?falls, fun stay => ?stays⟩⟩, Wind.checks_stage_moves running⟩
    case lacking =>
      rw [Wind.checks_lacking running lack]
      exact ⟨rfl, rfl, rfl, rfl⟩
    case short => exact Wind.checks_short_of_fed running fed
    case rises =>
      rw [Wind.checks_rises running fed rise]
      exact ⟨Wind.dwellStep_stage .., Wind.dwellStep_cause ..⟩
    case falls =>
      rw [Wind.checks_falls running fed noRise ⟨expiry, due, falls⟩]
      exact ⟨Wind.dwellStep_stage .., Wind.dwellStep_cause ..⟩
    case stays =>
      rw [Wind.checks_stays running fed noRise stay]
      exact ⟨Wind.dwellStep_stage .., Wind.dwellStep_cause .., Wind.dwellStep_dwell { w.figures c now with short := false } c now⟩
  case held =>
    obtain ⟨l, evaluated⟩ := w.evaluate_eq_checks c now e
    rw [evaluated]
    replace held : (w.figures c now).hold = true := held
    refine ⟨fun lack => ?_, fun fed idle => ?_⟩
    · rw [Wind.checks_held held lack]
      exact ⟨held, rfl, rfl, rfl⟩
    · rw [Wind.checks_released held fed idle]
      exact ⟨Wind.dwellStep_hold .., Wind.dwellStep_stage .., Wind.dwellStep_cause .., Wind.dwellStep_short ..⟩
  case masts =>
    refine ⟨fun off => by rw [Wind.figures_mast_off w c now off], fun on => ?_⟩
    rw [Wind.figures_mast_on w c now on]
    refine ⟨judgeLive_iff .., ?_, maxOf_within_iff _ _ _⟩
    rintro l rfl
    rw [← meanOf_map, ← within_eq]

end Sys2Proof.Machine

/-! # Expiries that are due (O59)

A due expiry is its event and what follows it; what is proved here is the effect of each event. -/

namespace Sys2Proof.Machine

theorem expire_of_due {s : State} {due : Bool} (h : due = true) (f : State → State) :
    s.expire due f = .next (settle false s (f s)) := by rw [h, expire_due]

/-! ### PANEL_SILENCE_EXPIRY (R146, R148) -/

section Locks
variable (s : State) (i : Stn)

theorem setMotion_locks (m : Motion) : (s.setMotion i m).locks = s.locks := (setMotion_rest s i m).2.1

theorem placeMotion_locks (c : MotionCmd) : (s.placeMotion i c).locks = s.locks := by
  unfold State.placeMotion
  dsimp only
  split <;> rfl

/-- A lockout acts on the motion and the pin, and on the roster, and leaves the lockout records (R151). -/
theorem lockTakesEffect_locks : (s.lockTakesEffect i).locks = s.locks := by
  unfold State.lockTakesEffect
  split
  case h_1 => exact (setMotion_locks ..).trans (giveOutcome_locks (s.leaveMotion i) i _)
  case h_2 | h_3 => exact (setMotion_locks ..).trans ((placeMotion_locks ..).trans (giveOutcome_locks ..))
  case h_4 => exact (setMotion_locks ..).trans (placeMotion_locks ..)
  case h_5 =>
    split
    · exact withdrawPin_locks s i .pinOut
    · rfl
  case h_6 => rfl

theorem judgePark_locks : (s.judgePark i).locks = s.locks := by
  unfold State.judgePark
  dsimp only
  split
  · split <;> exact setMotion_locks ..
  · rfl

theorem startCycleAs_locks (stowed : Bool) : (s.startCycleAs i stowed).locks = s.locks := by
  unfold State.startCycleAs
  dsimp only
  split <;> rfl

theorem judgeBar_locks : (s.judgeBar i).locks = s.locks := by
  unfold State.judgeBar State.judgeBarAs
  split
  · unfold State.barRise
    split <;> rfl
  · unfold State.barFall
    split
    · split
      · exact startCycleAs_locks ..
      · rfl
    · rfl

/-- A new lockout status is all that is written of the lockout records of the station (R146). -/
theorem setLockStatus_lock (new : LockStatus) : (s.setLockStatus i new).lock i = { s.lock i with status := new } := by
  by_cases same : (s.lock i).status = new
  · rw [← same]
    simp only [State.setLockStatus, if_true]
  have effect (t : State) (b : Bool) : (if b then t.lockTakesEffect i else t).locks = t.locks := by
    cases b
    · rfl
    · exact lockTakesEffect_locks t i
  have park (t : State) : (if new = .free then t.judgePark i else t).locks = t.locks := by
    split
    · exact judgePark_locks t i
    · rfl
  have locks : (s.setLockStatus i new).locks = (s.modLock i fun r => { r with status := new }).locks := by
    unfold State.setLockStatus
    dsimp only
    rw [if_neg same, park, effect, noticeBoth_locks]
  exact (congrArg (·.recs.get i) locks).trans (modLock_lock_same ..)

/-- The judgement of a panel that is not known leaves it so, and its station's status UNKNOWN (R146). -/
theorem judgeLock_unknown {s : State} {i : Stn} (h : (s.lock i).known = false) :
    ((s.judgeLock i).lock i).known = false ∧ ((s.judgeLock i).lock i).status = .unknown := by
  unfold State.judgeLock
  dsimp only
  rw [setLockStatus_lock, modLock_lock_same]
  have known := (judgeRelease_known (s.lock i) (s.isDisabled i) (s.stn i).motion.isResting s.clock s.cfg.warnTime).trans h
  exact ⟨known, by simp [deriveStatus, known]⟩

theorem panelSilent_lock : ((s.panelSilent i).lock i).known = false ∧ ((s.panelSilent i).lock i).status = .unknown := by
  have bar (t : State) : (t.judgeBar i).lock i = t.lock i := congrArg (·.recs.get i) (judgeBar_locks t i)
  simp only [State.panelSilent, State.judgeLockBar, bar]
  exact judgeLock_unknown (by simp)

end Locks

/-! ### DEADLINE_EXPIRY (R117) -/

theorem deadlineEnd_camp (s : State) :
    s.deadlineEnd.camp = { s.camp with deadline := none, late := s.camp.late || !s.camp.allFinal } := by
  unfold State.deadlineEnd
  cases s.camp.allFinal <;> cases late : s.camp.late <;> simp [late]

/-! ### CLEAR_TIMER_EXPIRY (R128) -/

theorem chanModeOff_front (s : State) (i : Stn) : (s.chanModeOff i).snow.front = s.snow.front := by
  unfold State.chanModeOff
  split <;> rfl

theorem snowTurnOff_front (s : State) (on : s.snow.mode = .on) :
    s.snowTurnOff.snow.front = { s.snow.front with mode := .off, source := none } := by
  unfold State.snowTurnOff
  rw [if_neg (by simp [on])]
  refine (foldl_kept (fun s : State => s.snow.front) chanModeOff_front _ _).trans ?_
  rw [noticeBoth_snow]
  rfl

/-- The clear timer stops at its expiry, which turns an automatic mode OFF. -/
theorem clearEnd_front (s : State) : s.clearEnd.snow.front =
    if s.cfg.autoSnow = true ∧ s.snow.mode = .on ∧ s.snow.source = some .auto then
      { s.snow.front with mode := .off, source := none, clearTimer := none }
    else { s.snow.front with clearTimer := none } := by
  unfold State.clearEnd
  dsimp only
  split
  next auto =>
    obtain ⟨-, on, -⟩ := auto
    exact snowTurnOff_front _ on
  next => rfl

/-! ### TIMER_A_EXPIRY (R133, R134) -/

theorem stopHeat_effect (s : State) (i : Stn) (a : AfterStop) : ((s.stopHeat i a).chan i).state = .stopping ∧
    ((s.stopHeat i a).chan i).after = some a ∧ ((s.stopHeat i a).cab i).heat = some .heatOff := by
  simp [State.stopHeat]

/-! ### Idle parks (R140) -/

section Park
variable {s : State} {i : Stn}

theorem parkDue_iff : s.parkDue i = true ↔
    s.snow.mode = .on ∧ s.camp.state = .none ∧ (s.stn i).motion = .held ∧ (s.lock i).status = .free ∧
      ∃ t, (s.stn i).idleSince = some t ∧ 1000 * s.cfg.snowIdle ≤ ageOf s.clock t := by
  unfold State.parkDue
  dsimp only
  cases (s.stn i).idleSince <;> simp [seconds_eq, and_assoc]

theorem parkDue_still (due : s.parkDue i = true) : (s.stn i).motion.isMoving = false := by
  rw [parkDue_held due]
  rfl

/-- A station that does not move awaits no move, so that a new motion state leaves the allocator (R67). -/
theorem setMotion_power (still : (s.stn i).motion.isMoving = false) (m : Motion) : (s.setMotion i m).power = s.power := by
  have notice (t : State) (b : Bool) : (if b then t.noticeBoth .station else t).power = t.power := by cases b <;> simp
  unfold State.setMotion
  dsimp only
  split
  · rfl
  · rw [notice, if_neg (by simp [still])]
    split <;> [skip; split] <;> rfl

theorem beginAdmitting_stn (w : Owner) : ((s.beginAdmitting i w).stn i).motion = .admitting ∧
    ((s.beginAdmitting i w).stn i).owner = some w ∧ ((s.beginAdmitting i w).stn i).posture = (s.stn i).motion.posture? := by
  obtain ⟨motion, -, -⟩ := setMotion_stn s i .admitting
  simp [State.beginAdmitting, motion]

/-- A park whose plan moves nothing ends at once. -/
theorem judgePark_null (due : s.parkDue i = true) (null : (planSnow s.cfg i s.wind.stage (s.azPos i) (s.elPos i)).isNull = true) :
    s.judgePark i = s.setMotion i .parked := by
  simp only [State.judgePark, due, null, if_true]

/-- A park whose plan moves the dish waits for power. -/
theorem judgePark_moving (due : s.parkDue i = true)
    (moving : (planSnow s.cfg i s.wind.stage (s.azPos i) (s.elPos i)).isNull = false) :
    s.judgePark i = ((s.beginAdmitting i .snow).setPark i (some .waitingPower)).joinList
      (.motion false [planSnow s.cfg i s.wind.stage (s.azPos i) (s.elPos i)]) .ordinary 5 := by
  simp only [State.judgePark, due, moving, if_true, Bool.false_eq_true, if_false]

end Park

/-- Settles O59: the events of the due expiries one by one, then the park that a judgement begins. -/
theorem dueExpiriesAct : Obligations.DueExpiriesAct := by
  refine ⟨fun i s due => ⟨expire_of_due due (·.panelSilent i), panelSilent_lock s i⟩,
    fun m s due => ⟨expire_of_due due (·.silenceEnd m), rfl⟩, fun s due => expire_of_due ?dwell (·.evaluate true),
    fun s due => ⟨expire_of_due due State.deadlineEnd, ?deadline⟩, fun s due => ⟨expire_of_due due State.clearEnd, ?clear⟩,
    fun i s due => ⟨expire_of_due due (·.stopHeat i .offPhase), stopHeat_effect s i .offPhase⟩,
    fun i s due => expire_of_due due (·.startCycle i), fun i s due => ⟨expire_of_due due (·.idleEnd i), rfl⟩,
    fun i s => parkDue_iff, ?park⟩
  case dwell => simpa [Wind.dwellEvent, or_comm] using due
  case deadline =>
    rw [deadlineEnd_camp]
    exact ⟨rfl, rfl⟩
  case clear =>
    have front := clearEnd_front s
    refine ⟨(congrArg SnowFront.clearTimer front).trans (by split <;> rfl), fun set on auto => ?_⟩
    rw [if_pos ⟨set, on, auto⟩] at front
    exact congrArg SnowFront.mode front
  case park =>
    rintro i s p rfl
    refine ⟨fun idle => by simp [State.judgePark, idle], fun due null => ?_, fun due moving => ?_⟩
    · obtain ⟨motion, owner, -⟩ := setMotion_stn s i .parked
      rw [judgePark_null due null]
      exact ⟨motion, owner, setMotion_power (parkDue_still due) _, park_of_spared (setMotion_spared s i _) i⟩
    · obtain ⟨motion, owner, posture⟩ := beginAdmitting_stn (s := s) (i := i) .snow
      have power : (s.beginAdmitting i .snow).power = s.power := setMotion_power (parkDue_still due) _
      rw [judgePark_moving due moving]
      refine ⟨motion, owner, posture.trans (by rw [parkDue_held due]; rfl), setPark_park_same .., ?_⟩
      rw [State.joinList, setPark_power, power]

end Sys2Proof.Machine

/-! # Stow campaigns: the judgement by the roster, STOW_ALL and UNSTOW (O38 to O40) -/

namespace Sys2Proof.Machine

/-! ### Changing the campaign state (R114, R120, R122) -/

@[simp] theorem displayNotices_camp (s old : State) : (displayNotices old s).camp = s.camp :=
  congrArg SparedRecords.camp (displayNotices_spared s old)

@[simp] theorem report_camp (s : State) (l : Link) (f : Frame) : (s.report l f).camp = s.camp :=
  congrArg SparedRecords.camp (report_spared s l f)

/-- Reporting a change on both links leaves the campaign record. -/
theorem reported_camp (s old : State) (f : Frame) :
    (displayNotices old (((s.report .S f).report .O f).noticeBoth .campaign)).camp = s.camp := by simp

/-- Of the campaign record, a change of the campaign state writes the state alone. -/
theorem setCamp_camp (s : State) (st : CampState) : (s.setCamp st).camp = { s.camp with state := st } := by
  unfold State.setCamp
  dsimp only
  split
  next same => rw [← same]
  next => exact reported_camp ..

theorem endCampaign_camp (s : State) : s.endCampaign.camp =
    { s.camp with state := .none, roster := [], cause := none, also := [], deadline := none } := setCamp_camp ..

section Judge
variable {s : State}

theorem judgeCampaign_active (h : s.camp.state = .active) : s.judgeCampaign =
    if s.camp.allFinal then
      s.setCamp (if s.wind.stage = .stow ∨ s.camp.operatorHeld = true then .holding else .calm)
    else s := by
  simp only [State.judgeCampaign, h, apply_ite s.setCamp]

theorem judgeCampaign_holding (h : s.camp.state = .holding) :
    s.judgeCampaign = if s.camp.allFinal then s else s.setCamp .active := by simp only [State.judgeCampaign, h]

theorem judgeCampaign_released (h : s.camp.state = .ending) (released : ∀ e ∈ s.camp.roster, e.status.isReleased = true) :
    s.judgeCampaign = s.endCampaign := by
  simp only [State.judgeCampaign, h]
  exact if_pos (List.all_eq_true.mpr released)

theorem judgeCampaign_idle (h : s.camp.state = .calm ∨ s.camp.state = .none) : s.judgeCampaign = s := by
  obtain h | h := h <;> simp only [State.judgeCampaign, h]

end Judge

/-- Settles O38: the judgement in each campaign state, and what the change it makes writes. -/
theorem campaignFollowsItsRoster : Obligations.CampaignFollowsItsRoster := by
  refine fun s => ⟨fun active final => ?_, fun active waiting => ?_, fun holding waiting => ?_, fun ending released => ?_,
    judgeCampaign_idle⟩
  · rw [judgeCampaign_active active, if_pos final, setCamp_camp]
  · rw [judgeCampaign_active active, if_neg (by simp [waiting])]
  · rw [judgeCampaign_holding holding, if_neg (by simp [waiting]), setCamp_camp]
  · rw [judgeCampaign_released ending released, endCampaign_camp]
    exact ⟨rfl, rfl, rfl, rfl, rfl⟩

/-! ### What building a roster leaves of the campaign record (R105, R111, R118) -/

/-- The campaign record beside its roster: state, causes, times and LATE mark. -/
def State.campHead (s : State) : Campaign := { s.camp with roster := [] }

section Head
variable (s : State) (i : Stn)

theorem campHead_of_camp {s t : State} (h : t.camp = s.camp) : t.campHead = s.campHead :=
  congrArg (fun c : Campaign => { c with roster := [] }) h

theorem giveEntry_campHead (st : RosterStatus) : (s.giveEntry i st).campHead = s.campHead := rfl

theorem setMotion_camp (m : Motion) : (s.setMotion i m).camp = s.camp := congrArg SparedRecords.camp (setMotion_spared s i m)

theorem setMotion_campHead (m : Motion) : (s.setMotion i m).campHead = s.campHead := campHead_of_camp (setMotion_camp s i m)

theorem stowOutcome_campHead (o : MoveOutcome) : (s.stowOutcome i o).campHead = s.campHead := by
  unfold State.stowOutcome
  dsimp only
  obtain ⟨-, -, pin⟩ := withdrawPin_rest (State.withdrawMotion (s.modRoster i _) i _) i .pinIn
  obtain ⟨-, -, motion⟩ := withdrawMotion_rest (s.modRoster i _) i _
  exact campHead_of_camp (s := s.modRoster i _) (pin.trans motion)

theorem snowOutcome_camp : (s.snowOutcome i).camp = s.camp := by
  obtain ⟨-, -, camp⟩ := withdrawMotion_rest s i MotionCmd.isBrake
  unfold State.snowOutcome
  dsimp only
  split
  · exact camp
  · rfl

/-- An outcome reaches the campaign in a roster entry only. -/
theorem giveOutcome_campHead (o : MoveOutcome) : (s.giveOutcome i o).campHead = s.campHead := by
  cases h : (s.stn i).owner with
  | none => simp only [State.giveOutcome, h]
  | some w =>
    cases w with
    | group n => rw [giveOutcome_group o h]; rfl
    | steer n => rw [giveOutcome_steer o h]; rfl
    | stow => rw [giveOutcome_stow o h, stowOutcome_campHead]; rfl
    | snow => rw [giveOutcome_snow o h]; exact campHead_of_camp (snowOutcome_camp ..)

theorem stopMoving_campHead (o : MoveOutcome) : (s.stopMoving i o).campHead = s.campHead := by
  obtain ⟨-, -, camp, -⟩ := ended_records s i o (s.stopMoving i o) (by simp)
  exact (campHead_of_camp camp).trans (giveOutcome_campHead s i o)

theorem withdrawWaiting_campHead (o : MoveOutcome) : (s.withdrawWaiting i o).campHead = s.campHead := by
  obtain ⟨-, -, camp, -⟩ := ended_records s i o (s.withdrawWaiting i o) (by simp)
  exact (campHead_of_camp camp).trans (giveOutcome_campHead s i o)

theorem joinCampaign_campHead : (s.joinCampaign i).campHead = s.campHead := by
  unfold State.joinCampaign
  dsimp only
  split
  · exact setMotion_campHead s i .stowing
  · exact setMotion_campHead s i .admitting

/-- An entry that is given, and whose station then joins. -/
theorem giveAndJoin_campHead (st : RosterStatus) : ((s.giveEntry i st).joinCampaign i).campHead = s.campHead :=
  joinCampaign_campHead ..

theorem buildEntry_campHead : (s.buildEntry i).campHead = s.campHead := by
  unfold State.buildEntry
  split
  case h_1 | h_10 => rfl
  case h_2 | h_3 | h_4 | h_5 | h_6 => rfl
  case h_7 =>
    split
    · split
      · rfl
      · exact (giveAndJoin_campHead ..).trans (withdrawWaiting_campHead s i _)
    · rfl
  case h_8 =>
    split
    · exact stopMoving_campHead s i _
    · rfl
  case h_9 => split <;> rfl
  case h_11 | h_12 | h_13 =>
    split
    · exact giveAndJoin_campHead ..
    · rfl

theorem unstowEntry_campHead : (s.unstowEntry i).campHead = s.campHead := by
  unfold State.unstowEntry
  split
  · split
    · rfl
    · exact setMotion_campHead ..
  · rfl

end Head

/-! ### STOW_ALL (R104, R116, R117) -/

/-- A start writes the campaign record, and the roster that it then builds leaves the rest of the record. -/
theorem startCampaign_campHead (s : State) (c : CampCause) (kept : List Stn) : (s.startCampaign c kept).campHead =
    { s.camp.addCause c with
      state := .active, start := some s.clock, deadline := some (s.clock + seconds s.cfg.stowDeadline), late := false,
      roster := [] } := by
  unfold State.startCampaign
  dsimp only
  rw [campHead_of_camp (reported_camp ..), foldl_kept State.campHead buildEntry_campHead]
  rfl

/-- From an empty roster nothing is kept of it, and STOW_ALL is a start. -/
theorem stowAll_of_none {s : State} (idle : s.camp.state = .none) (empty : s.camp.roster = []) :
    s.stowAll = s.startCampaign .operator [] := by
  simp only [State.stowAll, idle, State.startOrRestart, Campaign.unpinning, empty, List.foldl_nil, List.filter_nil, List.map_nil]

theorem addCause_of_none {c : Campaign} (h : c.cause = none) (x : CampCause) : c.addCause x = { c with cause := some x } := by
  simp only [Campaign.addCause, h]

theorem stowAll_done {s : State} {f : Frame} (h : Ready s .O f 0x12) (empty : f.payload = []) :
    exec .stowAll s = .next (requestDone s .O f State.stowAll
      (u16 ((s.openRequest .O f).stowAll.stowOwned - (s.openRequest .O f).stowOwned))) :=
  congrArg Host.Outcome.next (takeRequest_done (g := takeStowAll) h (noArgs_nil empty _))

/-- Settles O39: the request done, and the start that it makes from NONE. -/
theorem stowAllStartsACampaign : Obligations.StowAllStartsACampaign := by
  refine ⟨fun s f => stowAll_done, fun s idle noCause empty => ?_⟩
  have head := startCampaign_campHead s .operator []
  rw [← stowAll_of_none idle empty, addCause_of_none noCause] at head
  refine ⟨congrArg Campaign.state head, congrArg Campaign.cause head, congrArg Campaign.start head,
    (congrArg Campaign.deadline head).trans ?_, congrArg Campaign.late head⟩
  rw [Nat.mul_comm]
  rfl

/-! ### UNSTOW (R118) -/

section Accepted
variable {s : State}

theorem unstowAccepted_calm (h : s.camp.state = .calm) : s.unstowAccepted = true := by simp only [State.unstowAccepted, h]

theorem unstowAccepted_busy (h : s.camp.state = .active ∨ s.camp.state = .ending) : s.unstowAccepted = false := by
  obtain h | h := h <;> simp only [State.unstowAccepted, h]

theorem unstowAccepted_holding (h : s.camp.state = .holding) :
    s.unstowAccepted = true ↔ s.camp.operatorHeld = true ∧ s.wind.stage ≠ .stow := by
  simp [State.unstowAccepted, h]

theorem mem_stowedStns {i : Stn} : i ∈ s.stowedStns ↔ (s.stn i).enabled = true ∧ (s.stn i).motion = .stowed := by
  simp [State.stowedStns, State.enabledStns, allStns, State.isStowed, and_comm]

theorem unstowAccepted_none (h : s.camp.state = .none) :
    s.unstowAccepted = true ↔ ∃ i : Stn, (s.stn i).enabled = true ∧ (s.stn i).motion = .stowed := by
  simp only [State.unstowAccepted, h, decide_eq_true_eq, ne_eq, List.eq_nil_iff_forall_not_mem, mem_stowedStns, not_forall, not_not]

end Accepted

theorem beginEnding_campHead (s : State) : s.beginEnding.campHead = { s.campHead with state := .ending, deadline := none } := by
  have entries := foldl_kept State.campHead unstowEntry_campHead s.stowedStns
    { s with camp := { s.camp with roster := [], deadline := none } }
  have ended (t : State) : (t.setCamp .ending).campHead = { t.campHead with state := .ending } := by
    simp only [State.campHead, setCamp_camp]
  unfold State.beginEnding
  dsimp only
  rw [ended, entries]
  rfl

section UnstowRequest
variable {s : State} {f : Frame}

@[simp] theorem openRequest_camp (l : Link) : (s.openRequest l f).camp = s.camp := modLink_camp ..

@[simp] theorem openRequest_unstowAccepted (l : Link) : (s.openRequest l f).unstowAccepted = s.unstowAccepted := by
  cases l <;> rfl

theorem unstow_done (h : Ready s .O f 0x13) (empty : f.payload = []) (accepted : s.unstowAccepted = true) :
    exec .unstow s = .next (requestDone s .O f State.beginEnding (unstowCounts (s.openRequest .O f).beginEnding.camp)) := by
  refine congrArg Host.Outcome.next (takeRequest_done (g := takeUnstow) h ((noArgs_nil empty _).trans ?_))
  rw [openRequest_unstowAccepted, if_pos accepted]

theorem unstow_refused (h : Ready s .O f 0x13) (empty : f.payload = []) (rejected : s.unstowAccepted = false)
    (campaign : s.camp.state ≠ .none) : exec .unstow s = .next (requestAnswered s .O f .state []) := by
  refine congrArg Host.Outcome.next (takeRequest_refused (g := takeUnstow) h nofun ((noArgs_nil empty _).trans ?_))
  rw [openRequest_unstowAccepted, if_neg (by simp [rejected]), openRequest_camp, if_neg campaign]

end UnstowRequest

/-- Settles O40: the request by acceptance, and acceptance by campaign state. -/
theorem unstowByCampaignState : Obligations.UnstowByCampaignState := by
  refine ⟨fun s f h empty accepted => ⟨unstow_done h empty accepted, ?_⟩, fun s f => unstow_refused,
    fun s => unstowAccepted_busy, fun s => unstowAccepted_calm, fun s => unstowAccepted_none, fun s => unstowAccepted_holding⟩
  have head := beginEnding_campHead s
  exact ⟨congrArg Campaign.state head, congrArg Campaign.deadline head⟩

end Sys2Proof.Machine

/-! # Snow melting: duties and cycles, the mode and bars (O42 to O44) -/

namespace Sys2Proof.Machine

/-! ### What a change of a heater channel writes (R129) -/

section Channel
variable (s : State) (i : Stn)

theorem setChan_chan (h : HeaterState) :
    (s.setChan i h).chan i = { s.chan i with state := h, timer := none, after := none } := modChan_chan_same ..

theorem offPhase_chan (n : Nat) :
    (s.offPhase i n).chan i = { s.chan i with state := .offPhase, timer := some (s.clock + 1000 * n), after := none } := by
  rw [← seconds_eq]
  exact modChan_chan_same ..

@[simp] theorem joinList_chan (b : Waiting) (c : GrantClass) (n : Nat) : (s.joinList b c n).chan i = s.chan i := rfl

@[simp] theorem leaveHeat_chan : (s.leaveHeat i).chan i = s.chan i := rfl

theorem stopHeat_chan (a : AfterStop) :
    (s.stopHeat i a).chan i = { s.chan i with state := .stopping, timer := none, after := some a } := modChan_chan_same ..

end Channel

/-! ### Duties (R130) -/

theorem duty_eq (c : Params) (raw : Int) : (duty c raw : Int) = max (c.dutyMin : Int) (min (c.dutyMax : Int) raw) :=
  Int.toNat_of_nonneg (by omega)

theorem duty_le_hundred {c : Params} (low : c.dutyMin ≤ 100) (high : c.dutyMax ≤ 100) (raw : Int) : duty c raw ≤ 100 := by
  have limits := duty_eq c raw
  omega

/-- A in whole seconds covers the duty's share of HEAT_PERIOD just where it is no less than A. -/
theorem onLength_le_iff (c : Params) (d t : Nat) : onLength c d ≤ t ↔ c.heatPeriod * d ≤ t * 100 := ceilDiv_le_iff (by decide)

theorem onLength_le_period {c : Params} {d : Nat} (h : d ≤ 100) : onLength c d ≤ c.heatPeriod :=
  (onLength_le_iff c d _).mpr (Nat.mul_le_mul_left _ h)

theorem onLength_covers (c : Params) (d : Nat) : c.heatPeriod * d ≤ 100 * onLength c d := by
  rw [Nat.mul_comm 100]
  exact (onLength_le_iff c d _).mp le_rfl

/-- One second less would not cover the duty. -/
theorem onLength_least (c : Params) (d : Nat) : 100 * onLength c d < c.heatPeriod * d + 100 := by
  have shorter := onLength_le_iff c d (onLength c d - 1)
  omega

/-! ### Cycle starts (R131) -/

section Cycle
variable {s : State} {i : Stn} {stowed : Bool}

/-- The state that holds the lengths of a computed cycle, before the channel goes on. -/
def State.cycleComputed (s : State) (i : Stn) (stowed : Bool) : State :=
  s.modChan i fun k =>
    { k with
      onLen := some (onLength s.cfg (s.cycleDuty i stowed))
      offLen := some (s.cfg.heatPeriod - onLength s.cfg (s.cycleDuty i stowed)) }

/-- A cycle with no ON phase is all OFF phase. -/
theorem startCycleAs_off (h : onLength s.cfg (s.cycleDuty i stowed) = 0) :
    s.startCycleAs i stowed = (s.cycleComputed i stowed).offPhase i s.cfg.heatPeriod := if_pos h

/-- A cycle with an ON phase waits for power. -/
theorem startCycleAs_wait (h : onLength s.cfg (s.cycleDuty i stowed) ≠ 0) :
    s.startCycleAs i stowed =
      ((s.cycleComputed i stowed).setChan i .wait).joinList (.heater i) .heat s.cfg.heatPriority := if_neg h

theorem startCycleAs_lengths :
    ((s.startCycleAs i stowed).chan i).onLen = some (onLength s.cfg (s.cycleDuty i stowed)) ∧
    ((s.startCycleAs i stowed).chan i).offLen = some (s.cfg.heatPeriod - onLength s.cfg (s.cycleDuty i stowed)) := by
  have computed : (s.cycleComputed i stowed).chan i = { s.chan i with
      onLen := some (onLength s.cfg (s.cycleDuty i stowed))
      offLen := some (s.cfg.heatPeriod - onLength s.cfg (s.cycleDuty i stowed)) } := modChan_chan_same ..
  by_cases zero : onLength s.cfg (s.cycleDuty i stowed) = 0
  · rw [startCycleAs_off zero, offPhase_chan, computed]
    exact ⟨rfl, rfl⟩
  · rw [startCycleAs_wait zero, joinList_chan, setChan_chan, computed]
    exact ⟨rfl, rfl⟩

end Cycle

/-- Settles O42: the two limits and the rounding, then a cycle start by whether its ON length is 0. -/
theorem dutyStaysInItsLimits : Obligations.DutyStaysInItsLimits := by
  refine ⟨fun c raw low high => ?duty, fun s i stowed low high => ?cycle⟩
  case duty =>
    have limits := duty_eq c raw
    have whole := duty_le_hundred low high raw
    exact ⟨whole, by omega, by omega, by omega, onLength_le_period whole, onLength_covers .., onLength_least ..⟩
  case cycle =>
    obtain ⟨on, off⟩ := startCycleAs_lengths (s := s) (i := i) (stowed := stowed)
    have fits : onLength s.cfg (s.cycleDuty i stowed) ≤ s.cfg.heatPeriod := onLength_le_period (duty_le_hundred low high _)
    refine ⟨_, _, on, off, rfl, Nat.add_sub_cancel' fits, fun pos => ?_, fun zero => ?_⟩
    · rw [startCycleAs_wait (Nat.ne_of_gt pos)]
      have waits := setChan_chan (s.cycleComputed i stowed) i .wait
      exact ⟨congrArg Channel.state waits, congrArg Channel.timer waits, rfl⟩
    · rw [startCycleAs_off zero]
      have rests := offPhase_chan (s.cycleComputed i stowed) i s.cfg.heatPeriod
      exact ⟨congrArg Channel.state rests, congrArg Channel.timer rests, rfl⟩

/-! ### SNOW_ON, SNOW_OFF and the mode turning OFF (R125, R136) -/

/-- The states of a channel whose cycle runs: what R136 ends when the mode turns OFF. -/
def HeaterState.inCycle : HeaterState → Bool
  | .offPhase | .wait | .starting | .on => true
  | .idle | .stopping | .barred => false

theorem HeaterState.inCycle_eq_false_iff (h : HeaterState) :
    h.inCycle = false ↔ h ≠ .offPhase ∧ h ≠ .wait ∧ h ≠ .starting ∧ h ≠ .on := by
  cases h <;> decide

section ModeOff
variable (s : State) (i : Stn)

theorem chanModeOff_chan_ne {j : Stn} (h : j ≠ i) : (s.chanModeOff i).chan j = s.chan j := by
  unfold State.chanModeOff
  split
  case h_1 | h_2 | h_3 | h_4 => exact modChan_chan_ne _ _ h
  case h_5 | h_6 | h_7 => rfl

theorem chanModeOff_out : ((s.chanModeOff i).chan i).state.inCycle = false := by
  unfold State.chanModeOff
  split
  case h_1 | h_2 => rw [setChan_chan]; rfl
  case h_3 | h_4 => rw [stopHeat_chan]; rfl
  case h_5 state | h_6 state | h_7 state => rw [state]; rfl

/-- A channel that the pass has reached, or that was out of its cycle before, is out of it after the pass. -/
theorem modeOffPass_out (l : List Stn) {j : Stn} (h : j ∈ l ∨ (s.chan j).state.inCycle = false) :
    ((l.foldl State.chanModeOff s).chan j).state.inCycle = false := by
  induction l generalizing s with
  | nil => exact h.resolve_left List.not_mem_nil
  | cons i l ih =>
    rw [List.foldl_cons]
    refine ih _ ?_
    by_cases same : j = i
    · subst same
      exact .inr (chanModeOff_out s j)
    · rw [chanModeOff_chan_ne s i same]
      exact h.imp_left fun mem => (List.mem_cons.mp mem).resolve_left same

theorem snowTurnOff_out (on : s.snow.mode = .on) : ((s.snowTurnOff.chan i).state).inCycle = false := by
  unfold State.snowTurnOff
  rw [if_neg (by simp [on])]
  exact modeOffPass_out _ _ (.inl (List.mem_finRange i))

theorem snowTurnOff_mode : s.snowTurnOff.snow.mode = .off := by
  cases mode : s.snow.mode with
  | off => rwa [State.snowTurnOff, if_pos mode]
  | on => exact congrArg SnowFront.mode (snowTurnOff_front s mode)

end ModeOff

theorem snowOn_done {s : State} {f : Frame} (h : Ready s .O f 0x14) (empty : f.payload = []) :
    exec .snowOn s = .next (requestDone s .O f (fun o => o.snowTurnOn .command)
      (snowData ((s.openRequest .O f).snowTurnOn .command).snow)) :=
  congrArg Host.Outcome.next (takeRequest_done (g := takeSnowOn) h (noArgs_nil empty _))

theorem snowOff_done {s : State} {f : Frame} (h : Ready s .O f 0x15) (empty : f.payload = []) :
    exec .snowOff s = .next (requestDone s .O f State.snowTurnOff (snowData (s.openRequest .O f).snowTurnOff.snow)) :=
  congrArg Host.Outcome.next (takeRequest_done (g := takeSnowOff) h (noArgs_nil empty _))

/-- Settles O43: the two requests done, and what each leaves of the mode, its source and the channels. -/
theorem snowRequestsSetTheMode : Obligations.SnowRequestsSetTheMode := by
  refine ⟨fun s f => snowOn_done, fun s f => snowOff_done, fun s => ?_, snowTurnOff_mode, fun s on => ⟨?_, fun i => ?_⟩⟩
  · have front := snowTurnOn_front s .command
    exact ⟨congrArg SnowFront.mode front, congrArg SnowFront.source front⟩
  · exact congrArg SnowFront.source (snowTurnOff_front s on)
  · exact (HeaterState.inCycle_eq_false_iff _).mp (snowTurnOff_out s i on)

/-! ### A bar that comes into force (R137) -/

section Bar
variable {s : State} {i : Stn}

theorem judgeBar_barred (h : s.barred i = true) : s.judgeBar i = s.barRise i := if_pos h

/-- A channel without a grant is BARRED at once. -/
theorem barRise_unheated (h : (s.chan i).state = .idle ∨ (s.chan i).state = .offPhase) :
    s.barRise i = s.setChan i .barred := by
  obtain h | h := h <;> simp only [State.barRise, h]

theorem barRise_wait (h : (s.chan i).state = .wait) : s.barRise i = (s.leaveHeat i).setChan i .barred := by
  simp only [State.barRise, h]

/-- A channel that holds a grant is stopped first. -/
theorem barRise_heated (h : (s.chan i).state = .on ∨ (s.chan i).state = .starting) :
    s.barRise i = s.stopHeat i .newCycle := by
  obtain h | h := h <;> simp only [State.barRise, h]

/-- A bar stops a channel that holds a grant, and one without a grant is BARRED with its timer stopped. -/
theorem barRise_cases (stopping : (s.chan i).state ≠ .stopping) (barred : (s.chan i).state ≠ .barred) :
    ((s.chan i).state = .on ∨ (s.chan i).state = .starting) ∧ s.barRise i = s.stopHeat i .newCycle ∨
    ¬ ((s.chan i).state = .on ∨ (s.chan i).state = .starting) ∧
      (s.barRise i).chan i = { s.chan i with state := .barred, timer := none, after := none } := by
  cases state : (s.chan i).state with
  | starting => exact .inl ⟨by decide, barRise_heated (.inr state)⟩
  | on => exact .inl ⟨by decide, barRise_heated (.inl state)⟩
  | idle => exact .inr ⟨by decide, by rw [barRise_unheated (.inl state), setChan_chan]⟩
  | offPhase => exact .inr ⟨by decide, by rw [barRise_unheated (.inr state), setChan_chan]⟩
  | wait => exact .inr ⟨by decide, by rw [barRise_wait state, setChan_chan, leaveHeat_chan]⟩
  | stopping => exact absurd state stopping
  | barred => exact absurd state barred

end Bar

/-! ### A confirmed stop (R134, R135) -/

section Confirm
variable {s : State} {i : Stn} {stowed : Bool}

@[simp] theorem endHeatGrant_barred (j : Stn) : (s.endHeatGrant i).barred j = s.barred j := rfl
@[simp] theorem endHeatGrant_chan (j : Stn) : (s.endHeatGrant i).chan j = s.chan j := rfl
@[simp] theorem endHeatGrant_snow : (s.endHeatGrant i).snow = s.snow := rfl

theorem confirmStop_barred (bar : s.barred i = true) :
    s.confirmStop i stowed = (s.endHeatGrant i).setChan i .barred := if_pos bar

theorem confirmStop_off (free : s.barred i = false) (off : s.snow.mode = .off) :
    s.confirmStop i stowed = (s.endHeatGrant i).setChan i .idle := by
  simp only [State.confirmStop, endHeatGrant_barred, endHeatGrant_snow, free, off, Bool.false_eq_true, if_false, if_true]

theorem confirmStop_newCycle (free : s.barred i = false) (on : s.snow.mode = .on) (after : (s.chan i).after = some .newCycle) :
    s.confirmStop i stowed = (s.endHeatGrant i).startCycleAs i stowed := by
  simp only [State.confirmStop, endHeatGrant_barred, endHeatGrant_snow, free, on, after, Bool.false_eq_true, reduceCtorEq,
    if_false]

theorem confirmStop_offPhase (free : s.barred i = false) (on : s.snow.mode = .on) (after : (s.chan i).after = some .offPhase) :
    s.confirmStop i stowed = (s.endHeatGrant i).enterOffPhase i stowed := by
  simp only [State.confirmStop, endHeatGrant_barred, endHeatGrant_snow, free, on, after, Bool.false_eq_true, reduceCtorEq,
    if_false]

/-- A B of 0 makes the entry into OFF_PHASE a cycle start. -/
theorem enterOffPhase_zero (h : (s.chan i).offLen = some 0) : s.enterOffPhase i stowed = s.startCycleAs i stowed := by
  simp only [State.enterOffPhase, h]

theorem enterOffPhase_pos {n : Nat} (h : (s.chan i).offLen = some n) (pos : n ≠ 0) :
    s.enterOffPhase i stowed = s.offPhase i n := by
  obtain ⟨m, rfl⟩ := Nat.exists_eq_succ_of_ne_zero pos
  simp only [State.enterOffPhase, h]

/-- Wherever the channel goes on to, only the end of its grant is written in the grant table. -/
theorem confirmStop_grants : (s.confirmStop i stowed).grants = (s.endHeatGrant i).grants := by
  unfold State.confirmStop
  dsimp only
  split
  · exact setChan_grants ..
  · split
    · exact setChan_grants ..
    · split
      · exact enterOffPhase_grants ..
      · exact startCycleAs_grants ..

theorem confirmStop_amount : ((s.confirmStop i stowed).heatGrant i).amount = 0 := by
  have heat : (s.confirmStop i stowed).heatGrant i = (s.endHeatGrant i).heatGrant i :=
    congrArg (fun g => g.2.get i) confirmStop_grants
  rw [heat, State.endHeatGrant, modHeatGrant_heatGrant_same, setAmount_amount]

end Confirm

/-! ### Replies in STOPPING (R134, R171) -/

section Reply
variable {s : State} {i : Stn} {stowed : Bool} {a : Answer}

theorem askHeatOff_snow : (s.askHeatOff i).snow = s.snow := by unfold State.askHeatOff; split <;> rfl

theorem askHeatOff_power : (s.askHeatOff i).power = s.power := by unfold State.askHeatOff; split <;> rfl

theorem askHeatOff_heat : ((s.askHeatOff i).cab i).heat = if (s.cab i).heat = none then some .heatOff else (s.cab i).heat := by
  unfold State.askHeatOff
  split
  · exact placeHeat_heat ..
  · rfl

theorem heatReply_confirms (stopping : (s.chan i).state = .stopping) :
    s.heatReply i false true a stowed = s.confirmStop i stowed := by
  simp only [State.heatReply, stopping, Bool.not_false, Bool.and_self, if_true]

/-- A reply that confirms no stop has a rejected HEAT_OFF placed again, and does nothing else. -/
theorem heatReply_stopping {closed taken : Bool} (stopping : (s.chan i).state = .stopping) (other : taken = false ∨ closed = true) :
    s.heatReply i closed taken a stowed = if a.rejects (.heat .heatOff) then s.askHeatOff i else s := by
  have unjudged : (taken && !closed) = false := by obtain rfl | rfl := other <;> simp
  simp only [State.heatReply, stopping, unjudged, Bool.false_eq_true, if_false]

end Reply

/-- Settles O44: the rise of a bar by whether the channel holds a grant, then the replies in STOPPING by whether they confirm the stop. -/
theorem barStopsTheChannel : Obligations.BarStopsTheChannel := by
  refine ⟨fun s i bar stopping barred => ?rise, fun s i closed taken a stowed stopping => ⟨?confirmed, fun other => ?unjudged⟩⟩
  case rise =>
    rw [judgeBar_barred bar]
    obtain ⟨-, rise⟩ | ⟨unheated, rise⟩ := barRise_cases stopping barred
    · obtain ⟨state, after, heat⟩ := stopHeat_effect s i .newCycle
      rw [rise]
      exact ⟨.inr state, congrArg Channel.timer (stopHeat_chan ..), fun _ => ⟨heat, after, rfl⟩⟩
    · exact ⟨.inl (congrArg Channel.state rise), congrArg Channel.timer rise, fun heated => absurd heated unheated⟩
  case confirmed =>
    rintro rfl rfl
    rw [heatReply_confirms stopping]
    refine ⟨confirmStop_amount, fun bar => ?_, fun free off => ?_, fun free on after n length => ?_,
      fun free on => confirmStop_newCycle free on⟩
    · rw [confirmStop_barred bar, setChan_chan]
    · rw [confirmStop_off free off, setChan_chan]
    · rw [← endHeatGrant_chan i] at length
      rw [confirmStop_offPhase free on after]
      refine ⟨fun pos => ?_, ?_⟩
      · rw [enterOffPhase_pos length pos, offPhase_chan]
        exact ⟨rfl, rfl⟩
      · rintro rfl
        exact enterOffPhase_zero length
  case unjudged =>
    rw [heatReply_stopping stopping other]
    cases a.rejects (.heat .heatOff) with
    | true => exact ⟨askHeatOff_snow, askHeatOff_power, nofun, fun _ => askHeatOff_heat⟩
    | false => exact ⟨rfl, rfl, fun _ => rfl, nofun⟩

end Sys2Proof.Machine

/-! # The lockout records at every step (O8, O10)

The rules of R152 and R155 read, of a station, its lockout records and the latest status of its cabinet: `State.lockFacts`. All but the
lockout manager and the reply of a cabinet leave these, which is an equation for each operation, in the order of the model's files.
`LockLaws` then follows the operations that write them. -/

namespace Sys2Proof.Machine

/-- The lockout records of the stations, and the latest status that each cabinet returned. -/
structure LockFacts where
  recs : Vector LockRec 32
  last : Stn → Option LastStatus

/-- The facts of a lockout table and a table of cabinets. -/
def lockFactsOf (recs : Vector LockRec 32) (cabs : Vector Cabinet 32) : LockFacts := ⟨recs, fun i => (cabs.get i).last⟩

def State.lockFacts (s : State) : LockFacts := lockFactsOf s.locks.recs s.bus.cabs

section Facts
variable (s : State)

/-! ### Reading the facts -/

theorem lock_of_facts {s t : State} (e : t.lockFacts = s.lockFacts) (i : Stn) : t.lock i = s.lock i :=
  congrArg (fun x : LockFacts => x.recs.get i) e

theorem last_of_facts {s t : State} (e : t.lockFacts = s.lockFacts) (i : Stn) : (t.cab i).last = (s.cab i).last :=
  congrArg (fun x : LockFacts => x.last i) e

@[simp] theorem lockFacts_mk (clock : Nat) (cfg : Params) (stns : Vector Station 32) (sched : SchedQueue) (oper : OperQueue)
    (power : Power) (wind : Wind) (camp : Campaign) (snow : Snow) (locks : Locks) (bus : Bus) (linkS linkO : LinkState)
    (site : Receiver) (stats : Stats) (choices : Nat) (pending : List Instr) :
    State.lockFacts ⟨clock, cfg, stns, sched, oper, power, wind, camp, snow, locks, bus, linkS, linkO, site, stats, choices, pending⟩ =
      lockFactsOf locks.recs bus.cabs := rfl

@[simp] theorem lockFacts_eta : lockFactsOf s.locks.recs s.bus.cabs = s.lockFacts := rfl

@[simp] theorem lockFacts_ite (p : Prop) [Decidable p] (t : State) :
    (if p then s else t).lockFacts = if p then s.lockFacts else t.lockFacts := apply_ite State.lockFacts p s t

/-- A pass over a list leaves the facts where each of its steps does. -/
@[simp] theorem foldl_lockFacts {α : Type} {f : State → α → State} (h : ∀ s a, (f s a).lockFacts = s.lockFacts) (l : List α) :
    (l.foldl f s).lockFacts = s.lockFacts := foldl_kept State.lockFacts h l s

/-- A pass that carries a state beside something else. -/
theorem foldl_lockFacts_of {α β : Type} (st : β → State) {f : β → α → β} (h : ∀ x a, (st (f x a)).lockFacts = (st x).lockFacts)
    (l : List α) (x : β) : (st (l.foldl f x)).lockFacts = (st x).lockFacts := by
  induction l generalizing x with
  | nil => rfl
  | cons a l ih => rw [List.foldl_cons, ih, h]

/-- A cabinet record that is rewritten beside its latest status. -/
theorem modCab_lockFacts (i : Stn) {f : Cabinet → Cabinet} (hf : ∀ k, (f k).last = k.last) :
    (s.modCab i f).lockFacts = s.lockFacts := by
  refine congrArg (LockFacts.mk s.locks.recs) (funext fun j => ?_)
  by_cases e : j = i
  · subst e
    exact (congrArg Cabinet.last (modCab_cab_same s j f)).trans (hf _)
  · exact congrArg Cabinet.last (modCab_cab_ne s f e)

/-! ### Links, lines and notices -/

@[simp] theorem modLink_lockFacts (l : Link) (f : LinkState → LinkState) : (s.modLink l f).lockFacts = s.lockFacts := by cases l <;> rfl
@[simp] theorem notice_lockFacts (l : Link) (x : NoticeFlag) : (s.notice l x).lockFacts = s.lockFacts := modLink_lockFacts ..
@[simp] theorem noticeBoth_lockFacts (x : NoticeFlag) : (s.noticeBoth x).lockFacts = s.lockFacts := rfl
@[simp] theorem modLine_lockFacts (ln : Line) (f : LineStats → LineStats) : (s.modLine ln f).lockFacts = s.lockFacts := by cases ln <;> rfl
@[simp] theorem report_lockFacts (l : Link) (f : Frame) : (s.report l f).lockFacts = s.lockFacts := by simp [State.report]
@[simp] theorem displayNotices_lockFacts (old : State) : (displayNotices old s).lockFacts = s.lockFacts := by simp [displayNotices]

/-! ### The records of a station -/

@[simp] theorem modStn_lockFacts (i : Stn) (f : Station → Station) : (s.modStn i f).lockFacts = s.lockFacts := rfl
@[simp] theorem modStnStats_lockFacts (i : Stn) (f : StnStats → StnStats) : (s.modStnStats i f).lockFacts = s.lockFacts := rfl
@[simp] theorem modChan_lockFacts (i : Stn) (f : Channel → Channel) : (s.modChan i f).lockFacts = s.lockFacts := rfl
@[simp] theorem setPark_lockFacts (i : Stn) (p : Option ParkStep) : (s.setPark i p).lockFacts = s.lockFacts := rfl
@[simp] theorem modMotionGrant_lockFacts (i : Stn) (f : Grant → Grant) : (s.modMotionGrant i f).lockFacts = s.lockFacts := rfl
@[simp] theorem modHeatGrant_lockFacts (i : Stn) (f : Grant → Grant) : (s.modHeatGrant i f).lockFacts = s.lockFacts := rfl
@[simp] theorem modRoster_lockFacts (i : Stn) (f : RosterEntry → RosterEntry) : (s.modRoster i f).lockFacts = s.lockFacts := rfl
@[simp] theorem setRoster_lockFacts (i : Stn) (st : RosterStatus) : (s.setRoster i st).lockFacts = s.lockFacts := rfl
@[simp] theorem giveEntry_lockFacts (i : Stn) (st : RosterStatus) : (s.giveEntry i st).lockFacts = s.lockFacts := rfl
@[simp] theorem setIdle_lockFacts (i : Stn) (t : Option Nat) : (s.setIdle i t).lockFacts = s.lockFacts := rfl
@[simp] theorem leaveMotion_lockFacts (i : Stn) : (s.leaveMotion i).lockFacts = s.lockFacts := rfl
@[simp] theorem leaveHeat_lockFacts (i : Stn) : (s.leaveHeat i).lockFacts = s.lockFacts := rfl
@[simp] theorem joinList_lockFacts (b : Waiting) (c : GrantClass) (n : Nat) : (s.joinList b c n).lockFacts = s.lockFacts := rfl
@[simp] theorem modGroup_lockFacts (n : Nat) (f : Group → Group) : (s.modGroup n f).lockFacts = s.lockFacts := rfl
@[simp] theorem modSteer_lockFacts (n : Nat) (f : Steer → Steer) : (s.modSteer n f).lockFacts = s.lockFacts := rfl

@[simp] theorem setMotion_lockFacts (i : Stn) (m : Motion) : (s.setMotion i m).lockFacts = s.lockFacts := by simp [State.setMotion]

/-! ### Command slots, outcomes and stops -/

@[simp] theorem placeMotion_lockFacts (i : Stn) (c : MotionCmd) : (s.placeMotion i c).lockFacts = s.lockFacts := by
  unfold State.placeMotion
  refine (modCab_lockFacts _ i (by exact fun _ => rfl)).trans ?_
  split <;> rfl

@[simp] theorem placePin_lockFacts (i : Stn) (c : PinCmd) : (s.placePin i c).lockFacts = s.lockFacts := modCab_lockFacts s i fun _ => rfl
@[simp] theorem placeHeat_lockFacts (i : Stn) (c : HeatCmd) : (s.placeHeat i c).lockFacts = s.lockFacts := modCab_lockFacts s i fun _ => rfl
@[simp] theorem emptySlots_lockFacts (i : Stn) : (s.emptySlots i).lockFacts = s.lockFacts := modCab_lockFacts s i fun _ => rfl
@[simp] theorem withdrawHeat_lockFacts (i : Stn) : (s.withdrawHeat i).lockFacts = s.lockFacts := modCab_lockFacts s i fun _ => rfl

@[simp] theorem withdrawMotion_lockFacts (i : Stn) (p : MotionCmd → Bool) : (s.withdrawMotion i p).lockFacts = s.lockFacts := by
  unfold State.withdrawMotion
  split
  · dsimp only
    split
    · refine (modCab_lockFacts _ i (by exact fun _ => rfl)).trans ?_
      split <;> rfl
    · rfl
  · exact modCab_lockFacts s i fun _ => rfl

@[simp] theorem withdrawPin_lockFacts (i : Stn) (c : PinCmd) : (s.withdrawPin i c).lockFacts = s.lockFacts := by
  unfold State.withdrawPin
  split
  · split
    · exact modCab_lockFacts s i fun _ => rfl
    · rfl
  · exact modCab_lockFacts s i fun _ => rfl

@[simp] theorem stowOutcome_lockFacts (i : Stn) (o : MoveOutcome) : (s.stowOutcome i o).lockFacts = s.lockFacts := by
  simp [State.stowOutcome]

@[simp] theorem snowOutcome_lockFacts (i : Stn) : (s.snowOutcome i).lockFacts = s.lockFacts := by simp [State.snowOutcome]

@[simp] theorem giveOutcome_lockFacts (i : Stn) (o : MoveOutcome) : (s.giveOutcome i o).lockFacts = s.lockFacts := by
  unfold State.giveOutcome
  cases (s.stn i).owner with
  | none => rfl
  | some w => cases w <;> simp

@[simp] theorem withdrawWaiting_lockFacts (i : Stn) (o : MoveOutcome) : (s.withdrawWaiting i o).lockFacts = s.lockFacts := by
  simp [State.withdrawWaiting]

@[simp] theorem stopMoving_lockFacts (i : Stn) (o : MoveOutcome) : (s.stopMoving i o).lockFacts = s.lockFacts := by
  simp [State.stopMoving]

@[simp] theorem brakePointed_lockFacts (i : Stn) : (s.brakePointed i).lockFacts = s.lockFacts := by simp [State.brakePointed]
@[simp] theorem beginAdmitting_lockFacts (i : Stn) (w : Owner) : (s.beginAdmitting i w).lockFacts = s.lockFacts := by
  simp [State.beginAdmitting]

@[simp] theorem leaveStowed_lockFacts (i : Stn) (r : Reason) : (s.leaveStowed i r).lockFacts = s.lockFacts := by simp [State.leaveStowed]

/-! ### The power allocator -/

@[simp] theorem setTargets_lockFacts (p : Plan) : (s.setTargets p).lockFacts = s.lockFacts := rfl

@[simp] theorem admitMotion_lockFacts (c : GrantClass) (seq : BitVec 32) (p : Plan) :
    (s.admitMotion c seq p).lockFacts = s.lockFacts := by
  unfold State.admitMotion
  dsimp only
  split
  · split <;> simp
  · rfl

@[simp] theorem stopHeat_lockFacts (i : Stn) (a : AfterStop) : (s.stopHeat i a).lockFacts = s.lockFacts := placeHeat_lockFacts s i .heatOff
@[simp] theorem cutHeater_lockFacts (i : Stn) : (s.cutHeater i).lockFacts = s.lockFacts := by simp [State.cutHeater]
@[simp] theorem admitHeat_lockFacts (seq : BitVec 32) (i : Stn) : (s.admitHeat seq i).lockFacts = s.lockFacts := placeHeat_lockFacts ..

@[simp] theorem admitEntry_lockFacts (e : Entry) : (s.admitEntry e).lockFacts = s.lockFacts := by
  unfold State.admitEntry
  cases e.body <;> simp

@[simp] theorem reconsiderN_lockFacts (n : Nat) : (State.reconsiderN n s).lockFacts = s.lockFacts := by
  induction n generalizing s with
  | zero => rfl
  | succ n ih =>
    unfold State.reconsiderN
    split
    · rfl
    · simp only [lockFacts_ite, ih, admitEntry_lockFacts, foldl_lockFacts s cutHeater_lockFacts, ite_self]

@[simp] theorem reconsider_lockFacts : s.reconsider.lockFacts = s.lockFacts := reconsiderN_lockFacts ..

@[simp] theorem markShed_lockFacts (i : Stn) : (s.markShed i).lockFacts = s.lockFacts := rfl

/-- A deficit action cuts a heater or stops a dish, and leaves the lockouts (R79). -/
@[simp] theorem deficitActs_lockFacts (n : Nat) : (State.deficitActs n s).lockFacts = s.lockFacts := by
  induction n generalizing s with
  | zero => rfl
  | succ n ih =>
    unfold State.deficitActs
    split
    · rfl
    · split
      · simp [ih]
      · split
        · simp [ih]
        · split <;> simp [ih]

@[simp] theorem setDeficit_lockFacts (b : Bool) : (s.setDeficit b).lockFacts = s.lockFacts := rfl

@[simp] theorem enterDeficit_lockFacts : s.enterDeficit.lockFacts = s.lockFacts := by
  unfold State.enterDeficit
  split <;> rfl

@[simp] theorem judgeDeficit_lockFacts : s.judgeDeficit.lockFacts = s.lockFacts := by simp [State.judgeDeficit]

@[simp] theorem judgePower_lockFacts (force : Bool) (old : State) : (judgePower force old s).lockFacts = s.lockFacts := by
  simp [judgePower]

/-- A join that leaves the facts leaves them also as an event of its own. -/
theorem ownJoin_lockFacts {join : State → State} (h : ∀ s, (join s).lockFacts = s.lockFacts) (x : State × State) :
    (ownJoin join x).2.lockFacts = x.2.lockFacts := by
  unfold ownJoin
  split <;> simp [h]

@[simp] theorem endHeatGrant_lockFacts (i : Stn) : (s.endHeatGrant i).lockFacts = s.lockFacts := rfl
@[simp] theorem allocReply_lockFacts (i : Stn) (st : CabStatus) : (s.allocReply i st).lockFacts = s.lockFacts := rfl

/-! ### Heater channels, snow mode and idle parks -/

@[simp] theorem setChan_lockFacts (i : Stn) (h : HeaterState) : (s.setChan i h).lockFacts = s.lockFacts := rfl
@[simp] theorem offPhase_lockFacts (i : Stn) (n : Nat) : (s.offPhase i n).lockFacts = s.lockFacts := rfl
@[simp] theorem startCycleAs_lockFacts (i : Stn) (b : Bool) : (s.startCycleAs i b).lockFacts = s.lockFacts := by simp [State.startCycleAs]
@[simp] theorem startCycle_lockFacts (i : Stn) : (s.startCycle i).lockFacts = s.lockFacts := startCycleAs_lockFacts ..

@[simp] theorem enterOffPhase_lockFacts (i : Stn) (b : Bool) : (s.enterOffPhase i b).lockFacts = s.lockFacts := by
  unfold State.enterOffPhase
  split <;> simp

@[simp] theorem confirmStop_lockFacts (i : Stn) (b : Bool) : (s.confirmStop i b).lockFacts = s.lockFacts := by
  unfold State.confirmStop
  dsimp only
  split
  · rfl
  · split <;> [skip; split] <;> simp

@[simp] theorem barRise_lockFacts (i : Stn) : (s.barRise i).lockFacts = s.lockFacts := by
  unfold State.barRise
  split <;> simp

@[simp] theorem barFall_lockFacts (i : Stn) (b : Bool) : (s.barFall i b).lockFacts = s.lockFacts := by simp [State.barFall]
@[simp] theorem judgeBarAs_lockFacts (i : Stn) (b : Bool) : (s.judgeBarAs i b).lockFacts = s.lockFacts := by simp [State.judgeBarAs]
@[simp] theorem judgeBar_lockFacts (i : Stn) : (s.judgeBar i).lockFacts = s.lockFacts := judgeBarAs_lockFacts ..
@[simp] theorem askHeatOff_lockFacts (i : Stn) : (s.askHeatOff i).lockFacts = s.lockFacts := by simp [State.askHeatOff]
@[simp] theorem loseHeat_lockFacts (i : Stn) : (s.loseHeat i).lockFacts = s.lockFacts := by simp [State.loseHeat]

@[simp] theorem settleHeatFirst_lockFacts (i : Stn) (closed : Bool) : (s.settleHeatFirst i closed).lockFacts = s.lockFacts := by
  simp [State.settleHeatFirst]

@[simp] theorem heatReply_lockFacts (i : Stn) (closed taken : Bool) (a : Answer) (b : Bool) :
    (s.heatReply i closed taken a b).lockFacts = s.lockFacts := by
  unfold State.heatReply
  split <;> simp

@[simp] theorem heatTakes_lockFacts (i : Stn) (st : CabStatus) (first : Bool) (tk : TakenFlags) (a : Answer) (was : Bool) :
    (s.heatTakes i st first tk a was).lockFacts = s.lockFacts := by simp [State.heatTakes]

@[simp] theorem judgePark_lockFacts (i : Stn) : (s.judgePark i).lockFacts = s.lockFacts := by simp [State.judgePark]
@[simp] theorem judgeParks_lockFacts : s.judgeParks.lockFacts = s.lockFacts := by simp [State.judgeParks]
@[simp] theorem chanModeOn_lockFacts (i : Stn) : (s.chanModeOn i).lockFacts = s.lockFacts := by simp [State.chanModeOn]

@[simp] theorem chanModeOff_lockFacts (i : Stn) : (s.chanModeOff i).lockFacts = s.lockFacts := by
  unfold State.chanModeOff
  split <;> simp

@[simp] theorem snowTurnOn_lockFacts (src : SnowSource) : (s.snowTurnOn src).lockFacts = s.lockFacts := by simp [State.snowTurnOn]
@[simp] theorem snowTurnOff_lockFacts : s.snowTurnOff.lockFacts = s.lockFacts := by simp [State.snowTurnOff]
@[simp] theorem judgeAuto_lockFacts (before : Bool) : (s.judgeAuto before).lockFacts = s.lockFacts := by simp [State.judgeAuto]

@[simp] theorem takePrecip_lockFacts (c : PrecipClass) (air : Option Int) : (s.takePrecip c air).lockFacts = s.lockFacts :=
  judgeAuto_lockFacts ..

@[simp] theorem clearEnd_lockFacts : s.clearEnd.lockFacts = s.lockFacts := by simp [State.clearEnd]
@[simp] theorem idleEnd_lockFacts (i : Stn) : (s.idleEnd i).lockFacts = s.lockFacts := judgePark_lockFacts ..

/-! ### What a lockout that takes effect leaves -/

@[simp] theorem lockTakesEffect_lockFacts (i : Stn) : (s.lockTakesEffect i).lockFacts = s.lockFacts := by
  unfold State.lockTakesEffect
  split <;> simp

/-! ### The stow sequencer -/

@[simp] theorem setCamp_lockFacts (st : CampState) : (s.setCamp st).lockFacts = s.lockFacts := by simp [State.setCamp]

@[simp] theorem joinCampaign_lockFacts (i : Stn) : (s.joinCampaign i).lockFacts = s.lockFacts := by simp [State.joinCampaign]

@[simp] theorem buildEntry_lockFacts (i : Stn) : (s.buildEntry i).lockFacts = s.lockFacts := by
  unfold State.buildEntry
  split <;> simp

@[simp] theorem preemptWaitingSteers_lockFacts : s.preemptWaitingSteers.lockFacts = s.lockFacts := rfl

@[simp] theorem startCampaign_lockFacts (c : CampCause) (kept : List Stn) : (s.startCampaign c kept).lockFacts = s.lockFacts := by
  simp [State.startCampaign]

@[simp] theorem restartEntry_lockFacts (e : RosterEntry) : (s.restartEntry e).lockFacts = s.lockFacts := by simp [State.restartEntry]
@[simp] theorem startOrRestart_lockFacts (c : CampCause) : (s.startOrRestart c).lockFacts = s.lockFacts := by simp [State.startOrRestart]

@[simp] theorem judgeRejoin_lockFacts (i : Stn) : (s.judgeRejoin i).lockFacts = s.lockFacts := by
  unfold State.judgeRejoin
  split
  · rfl
  · split
    · split <;> simp
    · rfl

@[simp] theorem judgeWaitRest_lockFacts (i : Stn) : (s.judgeWaitRest i).lockFacts = s.lockFacts := by
  unfold State.judgeWaitRest
  split
  · split <;> simp
  · rfl

@[simp] theorem rosterStep_lockFacts (old : State) (i : Stn) : (rosterStep old i s).lockFacts = s.lockFacts := by simp [rosterStep]

@[simp] theorem rosterPass_lockFacts (old : State) (x : State × State) : (rosterPass old x).2.lockFacts = x.2.lockFacts :=
  foldl_lockFacts_of Prod.snd (fun x i => ownJoin_lockFacts (fun s => rosterStep_lockFacts s old i) x) _ x

@[simp] theorem endCampaign_lockFacts : s.endCampaign.lockFacts = s.lockFacts := setCamp_lockFacts ..

@[simp] theorem judgeCampaign_lockFacts : s.judgeCampaign.lockFacts = s.lockFacts := by
  unfold State.judgeCampaign
  split <;> simp

@[simp] theorem rejoinAll_lockFacts (old : State) : (s.rejoinAll old).lockFacts = s.lockFacts :=
  foldl_lockFacts_of Prod.snd (fun x i => ownJoin_lockFacts (fun s => judgeRejoin_lockFacts s i) x) _ (old, s)

@[simp] theorem resumeCampaign_lockFacts : s.resumeCampaign.lockFacts = s.lockFacts := by simp [State.resumeCampaign]
@[simp] theorem addCause_lockFacts (c : CampCause) : (s.addCause c).lockFacts = s.lockFacts := rfl

@[simp] theorem stowTakesStage_lockFacts (old : State) : (s.stowTakesStage old).lockFacts = s.lockFacts := by
  unfold State.stowTakesStage
  dsimp only
  split
  · split <;> simp
  · simp

@[simp] theorem beginPinning_lockFacts (i : Stn) : (s.beginPinning i).lockFacts = s.lockFacts := by simp [State.beginPinning]
@[simp] theorem beginStowBrake_lockFacts (i : Stn) (noPin : Bool) : (s.beginStowBrake i noPin).lockFacts = s.lockFacts := by
  simp [State.beginStowBrake]
@[simp] theorem completeStow_lockFacts (i : Stn) (noPin : Bool) : (s.completeStow i noPin).lockFacts = s.lockFacts := by
  simp [State.completeStow]
@[simp] theorem pinDrawn_lockFacts (i : Stn) : (s.pinDrawn i).lockFacts = s.lockFacts := by simp [State.pinDrawn]
@[simp] theorem pinStuck_lockFacts (i : Stn) : (s.pinStuck i).lockFacts = s.lockFacts := rfl

@[simp] theorem stowReply_lockFacts (i : Stn) (st : CabStatus) (tk : TakenFlags) (a : Answer) :
    (s.stowReply i st tk a).lockFacts = s.lockFacts := by
  unfold State.stowReply
  split
  · rfl
  · split
    · simp
    · cases st.pin <;> simp
    · simp
    · cases st.pin <;> simp
    · rfl

@[simp] theorem unstowEntry_lockFacts (i : Stn) : (s.unstowEntry i).lockFacts = s.lockFacts := by simp [State.unstowEntry]
@[simp] theorem beginEnding_lockFacts : s.beginEnding.lockFacts = s.lockFacts := by simp [State.beginEnding]

@[simp] theorem stowAll_lockFacts : s.stowAll.lockFacts = s.lockFacts := by
  unfold State.stowAll
  split <;> simp

@[simp] theorem deadlineEnd_lockFacts : s.deadlineEnd.lockFacts = s.lockFacts := by simp [State.deadlineEnd]

/-! ### The motion queues -/

@[simp] theorem completeGroup_lockFacts (g : Group) (byClear : Bool) : (s.completeGroup g byClear).lockFacts = s.lockFacts := by
  simp [State.completeGroup]

@[simp] theorem completeSteer_lockFacts (t : Steer) : (s.completeSteer t).lockFacts = s.lockFacts := by simp [State.completeSteer]
@[simp] theorem countArrival_lockFacts (i : Stn) : (s.countArrival i).lockFacts = s.lockFacts := rfl

@[simp] theorem dispatchMember_lockFacts (g : Group) (x : State × List Plan) (i : Stn) :
    (State.dispatchMember g x i).1.lockFacts = x.1.lockFacts := by
  unfold State.dispatchMember
  dsimp only
  split
  · simp
  · split
    · rfl
    · split
      · simp
      · split <;> simp

@[simp] theorem dispatchGroup_lockFacts (g : Group) : (s.dispatchGroup g).lockFacts = s.lockFacts := by
  have members (x : State × List Plan) : (g.stations.foldl (State.dispatchMember g) x).1.lockFacts = x.1.lockFacts :=
    foldl_lockFacts_of Prod.fst (dispatchMember_lockFacts g) _ x
  unfold State.dispatchGroup
  cases g.mode with
  | stagger => exact (foldl_lockFacts _ (fun s p => joinList_lockFacts s _ _ _) _).trans (members _)
  | gang => simp [members]

@[simp] theorem planSteer_lockFacts (t : Steer) : (s.planSteer t).lockFacts = s.lockFacts := by
  unfold State.planSteer
  dsimp only
  split
  · split <;> simp
  · rfl

@[simp] theorem steerWaits_lockFacts (t : Steer) : (s.steerWaits t).lockFacts = s.lockFacts := rfl

@[simp] theorem dispatchSteer_lockFacts (t : Steer) : (s.dispatchSteer t).lockFacts = s.lockFacts := by
  unfold State.dispatchSteer
  dsimp only
  split <;> simp

@[simp] theorem endWait_lockFacts (t : Steer) : (s.endWait t).lockFacts = s.lockFacts := by
  unfold State.endWait
  split <;> simp

@[simp] theorem takeAct_lockFacts (a : QueueAct) : (s.takeAct a).lockFacts = s.lockFacts := by
  cases a <;> simp [State.takeAct]

@[simp] theorem queuePass_lockFacts (n : Nat) : (State.queuePass n s).lockFacts = s.lockFacts := by
  induction n generalizing s with
  | zero => rfl
  | succ n ih =>
    unfold State.queuePass
    split
    · rfl
    · rw [ih, takeAct_lockFacts]

@[simp] theorem endOwned_lockFacts (w : Owner) (o : MoveOutcome) (i : Stn) : (State.endOwned w o s i).lockFacts = s.lockFacts := by
  unfold State.endOwned
  split
  · split <;> simp
  · rfl

@[simp] theorem endGroup_lockFacts (o : MoveOutcome) (g : Group) : (State.endGroup o s g).lockFacts = s.lockFacts := by
  simp [State.endGroup]

@[simp] theorem clearSteer_lockFacts (t : Steer) : (s.clearSteer t).lockFacts = s.lockFacts := by simp [State.clearSteer]

@[simp] theorem clearedGroup_lockFacts (n : Nat) : (s.clearedGroup n).lockFacts = s.lockFacts := by
  unfold State.clearedGroup
  split <;> simp

@[simp] theorem clearedSteer_lockFacts (n : Nat) : (s.clearedSteer n).lockFacts = s.lockFacts := by
  unfold State.clearedSteer
  split <;> simp

@[simp] theorem clearQueues_lockFacts : s.clearQueues.lockFacts = s.lockFacts := by simp [State.clearQueues]

@[simp] theorem haltStation_lockFacts (i : Stn) : (s.haltStation i).lockFacts = s.lockFacts := by
  unfold State.haltStation
  split <;> simp

@[simp] theorem parksAfterCampaign_lockFacts (acted : State) : (parksAfterCampaign acted s).lockFacts = s.lockFacts := by
  simp [parksAfterCampaign]

/-! ### The wind monitor -/

@[simp] theorem replanAll_lockFacts : s.replanAll.lockFacts = s.lockFacts := rfl

@[simp] theorem handStage_lockFacts (old : State) : (s.handStage old).lockFacts = s.lockFacts := by
  unfold State.handStage
  split
  · rfl
  · simp

@[simp] theorem evaluate_lockFacts (expiry : Bool) : (s.evaluate expiry).lockFacts = s.lockFacts := handStage_lockFacts ..

@[simp] theorem takeMast_lockFacts (num : Nat) (readings : List (Option Nat)) : (s.takeMast num readings).lockFacts = s.lockFacts := by
  unfold State.takeMast
  split <;> simp

@[simp] theorem silenceEnd_lockFacts (i : MastNo) : (s.silenceEnd i).lockFacts = s.lockFacts := evaluate_lockFacts ..

/-! ### The drive bus -/

@[simp] theorem stopAfresh_lockFacts (i : Stn) : (s.stopAfresh i).lockFacts = s.lockFacts := by simp [State.stopAfresh]

@[simp] theorem resolveFirst_lockFacts (i : Stn) (st : CabStatus) : (s.resolveFirst i st).lockFacts = s.lockFacts := by
  simp [State.resolveFirst]

@[simp] theorem takenAway_lockFacts (i : Stn) (m : Motion) (r : Reason) (o : MoveOutcome) :
    (s.takenAway i m r o).lockFacts = s.lockFacts := by simp [State.takenAway]

@[simp] theorem judgeArrival_lockFacts (i : Stn) (st : CabStatus) : (s.judgeArrival i st).lockFacts = s.lockFacts := by
  simp [State.judgeArrival]

@[simp] theorem moveRefused_lockFacts (i : Stn) (st : CabStatus) (origin : Posture) (v : Verdict) :
    (s.moveRefused i st origin v).lockFacts = s.lockFacts := by simp [State.moveRefused]

@[simp] theorem stationRemote_lockFacts (i : Stn) (st : CabStatus) (tk : TakenFlags) (a : Answer) (mark : Bool) :
    (s.stationRemote i st tk a mark).lockFacts = s.lockFacts := by
  unfold State.stationRemote
  split
  case h_4 => split <;> [skip; split] <;> simp
  case h_5 => split <;> simp
  all_goals simp

@[simp] theorem stationReply_lockFacts (i : Stn) (st : CabStatus) (first : Bool) (tk : TakenFlags) (a : Answer) (mark : Bool) :
    (s.stationReply i st first tk a mark).lockFacts = s.lockFacts := by simp [State.stationReply]

@[simp] theorem parkReply_lockFacts (i : Stn) (st : CabStatus) (tk : TakenFlags) : (s.parkReply i st tk).lockFacts = s.lockFacts := by
  unfold State.parkReply
  split
  · split <;> simp
  · rfl

@[simp] theorem jobsReply_lockFacts (i : Stn) (st : CabStatus) (tk : TakenFlags) (a : Answer) :
    (s.jobsReply i st tk a).lockFacts = s.lockFacts := by simp [State.jobsReply]

@[simp] theorem allocFirst_lockFacts (i : Stn) (st : CabStatus) (first : Bool) (a : Answer) :
    (s.allocFirst i st first a).lockFacts = s.lockFacts := by simp [State.allocFirst]

@[simp] theorem returnRejected_lockFacts (i : Stn) (st : CabStatus) (a : Answer) :
    (s.returnRejected i st a).lockFacts = s.lockFacts := by
  unfold State.returnRejected
  split
  · split
    · exact modCab_lockFacts s i fun _ => rfl
    · rfl
  · rfl

theorem restore_last (k : Cabinet) : k.restore.last = k.last := by
  unfold Cabinet.restore
  dsimp only
  repeat' split
  all_goals rfl

@[simp] theorem nextVisit_lockFacts (after : Option Stn) : (s.nextVisit after).lockFacts = s.lockFacts := by
  have unslotted (k : Cabinet) (c : Sent) : (k.unslot c).last = k.last := by cases c <;> rfl
  unfold State.nextVisit
  split
  · exact modCab_lockFacts s _ fun k => unslotted k _
  · rfl

@[simp] theorem nextPanel_lockFacts (after : Option Stn) : (s.nextPanel after).lockFacts = s.lockFacts := rfl

@[simp] theorem wakeLines_lockFacts : s.wakeLines.lockFacts = s.lockFacts := by
  unfold State.wakeLines
  cases s.bus.visit <;> dsimp only <;> split <;> simp

end Facts

/-! ### The lockout records of one station (R146, R152, R155) -/

theorem hasInForce_iff (r : LockRec) : r.hasInForce = true ↔ ∃ k e, r.slots.get k = some e ∧ e.state = .inForce := by
  unfold LockRec.hasInForce
  rw [List.any_eq_true]
  constructor
  · rintro ⟨x, mem, inForce⟩
    obtain ⟨n, hn, rfl⟩ := Vector.getElem_of_mem (Vector.mem_toList_iff.mp mem)
    split at inForce
    next e he => exact ⟨⟨n, hn⟩, e, he, of_decide_eq_true inForce⟩
    next => cases inForce
  · rintro ⟨k, e, he, inForce⟩
    refine ⟨some e, Vector.mem_toList_iff.mpr ?_, decide_eq_true inForce⟩
    rw [← he]
    exact Vector.getElem_mem k.isLt

/-- What is IN_FORCE is read from the slots alone. -/
theorem hasInForce_of_slots {r q : LockRec} (h : r.slots = q.slots) : r.hasInForce = q.hasInForce := by
  unfold LockRec.hasInForce
  rw [h]

theorem setStates_get (r : LockRec) (st : LockState) (k : Fin 6) :
    (r.setStates st).slots.get k = (r.slots.get k).map fun e => { e with state := st } := by
  simp [LockRec.setStates, Vector.get_eq_getElem]

theorem setStates_pending (r : LockRec) : (r.setStates .pending).hasInForce = false := by
  rw [← Bool.not_eq_true, hasInForce_iff]
  rintro ⟨k, e, he, inForce⟩
  rw [setStates_get] at he
  obtain ⟨x, -, rfl⟩ := Option.map_eq_some_iff.mp he
  cases inForce

/-- A slot that becomes empty, or takes an entry that is PENDING, puts nothing IN_FORCE. -/
theorem hasInForce_of_upd {r : LockRec} {k : Fin 6} {x : Option LockEntry} (hx : ∀ e, x = some e → e.state = .pending)
    (h : LockRec.hasInForce { r with slots := upd r.slots k fun _ => x } = true) : r.hasInForce = true := by
  rw [hasInForce_iff] at h ⊢
  obtain ⟨j, e, he, inForce⟩ := h
  by_cases hj : j = k
  · subst hj
    rw [upd_get_same] at he
    rw [hx e he] at inForce
    cases inForce
  · rw [upd_get_ne _ _ hj] at he
    exact ⟨j, e, he, inForce⟩

/-- A DISABLE leaves no entry IN_FORCE (R147). -/
theorem disable_hasInForce (r : LockRec) : r.disable.hasInForce = false := by
  rw [← Bool.not_eq_true, hasInForce_iff]
  rintro ⟨k, e, he, inForce⟩
  have slot : r.disable.slots.get k = if k.val < 4 then none else (r.setStates .pending).slots.get k := by
    simp [LockRec.disable, Vector.get_eq_getElem]
  rw [slot] at he
  split at he
  · cases he
  · have none : (r.setStates .pending).hasInForce = true := (hasInForce_iff _).mpr ⟨k, e, he, inForce⟩
    rw [setStates_pending] at none
    cases none

theorem judgeRelease_status (r : LockRec) (d rest : Bool) (now w : Nat) : (r.judgeRelease d rest now w).status = r.status := by
  unfold LockRec.judgeRelease
  repeat' split
  all_goals rfl

theorem judgeRelease_lOcc (r : LockRec) (d rest : Bool) (now w : Nat) : (r.judgeRelease d rest now w).lOcc = r.lOcc := by
  unfold LockRec.judgeRelease
  repeat' split
  all_goals rfl

theorem judgeRelease_occupied (r : LockRec) (d rest : Bool) (now w : Nat) :
    (r.judgeRelease d rest now w).occupied = r.occupied := by
  unfold LockRec.occupied
  rw [judgeRelease_slots]

theorem judgeRelease_blocked (r : LockRec) (d rest : Bool) (now w : Nat) :
    releaseBlocked d (r.judgeRelease d rest now w) = releaseBlocked d r := by
  simp only [releaseBlocked, judgeRelease_known, judgeRelease_occupied, judgeRelease_lOcc]

theorem deriveStatus_free {d : Bool} {r : LockRec} (h : deriveStatus d r = .free) : releaseBlocked d r = false ∧ r.phase = .none := by
  unfold deriveStatus at h
  unfold releaseBlocked
  split at h
  · cases h
  · split at h
    · cases h
    · split at h
      · cases h
      · split at h
        · cases h
        · cases phase : r.phase <;> simp_all

/-- A judgement ends no release: where nothing stands in its way, the phase is NONE after it only in a status that is FREE already (R155). -/
theorem judgeRelease_phase_none {r : LockRec} {d rest : Bool} {now w : Nat} (clear : releaseBlocked d r = false)
    (h : (r.judgeRelease d rest now w).phase = .none) : r.status = .free := by
  unfold LockRec.judgeRelease at h
  rw [clear] at h
  by_contra barred
  cases phase : r.phase <;> cases rest <;> simp_all

/-- A judged station is FREE only where it was (R146, R155). -/
theorem deriveStatus_judgeRelease {r : LockRec} {d rest : Bool} {now w : Nat}
    (h : deriveStatus d (r.judgeRelease d rest now w) = .free) : r.status = .free := by
  obtain ⟨clear, phase⟩ := deriveStatus_free h
  rw [judgeRelease_blocked] at clear
  exact judgeRelease_phase_none clear phase

/-! ### The two rules together -/

/-- R152 of one station: an entry is IN_FORCE only while the latest status showed both axes BRAKED. -/
def State.ForceSeen (s : State) (i : Stn) : Prop := (s.lock i).hasInForce = true → (s.cab i).lastBraked = true

/-- R152 holds of the stations of `seen`, and no station of `barred` is FREE (R155). An operation that keeps this, whatever the stations
are, keeps either rule of every station by itself. -/
structure LockLaws (seen barred : Stn → Prop) (s : State) : Prop where
  force : ∀ i, seen i → s.ForceSeen i
  bar : ∀ i, barred i → (s.lock i).status ≠ .free

theorem forceSeen_of_last {s : State} {i : Stn} {st : CabStatus} {t : Nat} (last : (s.cab i).last = some { status := st, time := t })
    (braked : st.braked = true) : s.ForceSeen i := fun _ => by simp only [Cabinet.lastBraked, last, braked]

theorem forceSeen_of_none {s : State} {i : Stn} (h : (s.lock i).hasInForce = false) : s.ForceSeen i := fun k => by
  rw [h] at k
  cases k

theorem setLockStatus_same {s : State} {i : Stn} {new : LockStatus} (h : (s.lock i).status = new) : s.setLockStatus i new = s := by
  simp [State.setLockStatus, h]

/-- Of the facts a new status writes itself only (R146, R151). -/
theorem setLockStatus_lockFacts {s : State} {i : Stn} {new : LockStatus} (h : (s.lock i).status ≠ new) :
    (s.setLockStatus i new).lockFacts = (s.modLock i fun r => { r with status := new }).lockFacts := by
  unfold State.setLockStatus
  simp only [h, if_false, lockFacts_ite, judgePark_lockFacts, lockTakesEffect_lockFacts, noticeBoth_lockFacts, ite_self]

namespace LockLaws
variable {seen barred : Stn → Prop} {s : State} (h : LockLaws seen barred s)
include h

/-! ### Using the rules -/

theorem same {t : State} (e : t.lockFacts = s.lockFacts) : LockLaws seen barred t where
  force i hi := by
    unfold State.ForceSeen Cabinet.lastBraked
    rw [lock_of_facts e, last_of_facts e]
    exact h.force i hi
  bar i hi := by
    rw [lock_of_facts e]
    exact h.bar i hi

theorem ite (p : Prop) [Decidable p] {t : State} (k : LockLaws seen barred t) : LockLaws seen barred (if p then s else t) := by
  split
  · exact h
  · exact k

theorem foldl {α : Type} {f : State → α → State} (hf : ∀ {s}, LockLaws seen barred s → ∀ a, LockLaws seen barred (f s a)) (l : List α) :
    LockLaws seen barred (l.foldl f s) := by
  induction l generalizing s with
  | nil => exact h
  | cons a l ih => exact ih (hf h a)

/-- R152 is left open at one station. -/
theorem leave (i : Stn) : LockLaws (fun j => seen j ∧ j ≠ i) barred s := ⟨fun j hj => h.force j hj.1, h.bar⟩

omit h in
/-- R152 holds at the station where it was left open. -/
theorem regain {i : Stn} (h : LockLaws (fun j => seen j ∧ j ≠ i) barred s) (hi : s.ForceSeen i) : LockLaws seen barred s where
  force j hj := by
    by_cases e : j = i
    · exact e ▸ hi
    · exact h.force j ⟨hj, e⟩
  bar := h.bar

/-- The records of one station are written, with nothing new IN_FORCE and the station not FREE where it was not. -/
theorem modLock {i : Stn} {f : LockRec → LockRec} (force : seen i → (f (s.lock i)).hasInForce = true → (s.lock i).hasInForce = true)
    (bar : barred i → (s.lock i).status ≠ .free → (f (s.lock i)).status ≠ .free) : LockLaws seen barred (s.modLock i f) where
  force j hj := by
    unfold State.ForceSeen
    rw [modLock_cab]
    by_cases e : j = i
    · subst e
      rw [modLock_lock_same]
      exact fun inForce => h.force j hj (force hj inForce)
    · rw [modLock_lock_ne s f e]
      exact h.force j hj
  bar j hj := by
    by_cases e : j = i
    · subst e
      rw [modLock_lock_same]
      exact bar hj (h.bar j hj)
    · rw [modLock_lock_ne s f e]
      exact h.bar j hj

/-- The cabinet of a station at which R152 is left open is written. -/
theorem modCab {i : Stn} {f : Cabinet → Cabinet} (out : ¬ seen i) : LockLaws seen barred (s.modCab i f) where
  force j hj := by
    have e : j ≠ i := fun e => out (e ▸ hj)
    unfold State.ForceSeen
    rw [modCab_cab_ne s f e]
    exact h.force j hj
  bar := h.bar

/-! ### The lockout manager -/

theorem setLockStatus {i : Stn} {new : LockStatus} (hn : barred i → new ≠ .free) : LockLaws seen barred (s.setLockStatus i new) := by
  by_cases e : (s.lock i).status = new
  · rwa [setLockStatus_same e]
  · exact (h.modLock (f := fun r => { r with status := new }) (fun _ => id) fun hi _ => hn hi).same (setLockStatus_lockFacts e)

/-- A judgement frees no station (R155). -/
theorem judgeLock (i : Stn) : LockLaws seen barred (s.judgeLock i) := by
  have judged := h.modLock (i := i) (f := fun r => r.judgeRelease (s.isDisabled i) (s.stn i).motion.isResting s.clock s.cfg.warnTime)
    (fun _ inForce => (hasInForce_of_slots (judgeRelease_slots ..)).symm.trans inForce) fun _ bar => by rwa [judgeRelease_status]
  refine judged.setLockStatus fun hi free => h.bar i hi ?_
  rw [modLock_lock_same] at free
  exact deriveStatus_judgeRelease free

theorem judgeRests : LockLaws seen barred s.judgeRests := h.foldl (fun k i => (k.judgeLock i).ite _ k) _

theorem judgeLockBar (i : Stn) : LockLaws seen barred (s.judgeLockBar i) := (h.judgeLock i).same (judgeBar_lockFacts ..)

/-- The end of a warning frees its own station, and no other (R156). -/
theorem warningEnd {i : Stn} (out : ¬ barred i) : LockLaws seen barred (s.warningEnd i) := by
  have ended := h.modLock (i := i) (f := fun r => { r with phase := .none, warnExp := none }) (fun _ => id) fun _ => id
  exact (((ended.same (setIdle_lockFacts ..)).ite _ ended).setLockStatus fun hi => absurd hi out).same (judgeBar_lockFacts ..)

/-- A slot becomes empty, or takes an entry that is PENDING (R144). -/
theorem writeSlot (i : Stn) (k : Fin 6) {x : Option LockEntry} (hx : ∀ e, x = some e → e.state = .pending) :
    LockLaws seen barred (s.modLock i fun r => { r with slots := upd r.slots k fun _ => x }) :=
  h.modLock (fun _ => hasInForce_of_upd hx) fun _ => id

theorem joinSlot (i : Stn) (k : Fin 6) (holder : Nat) (kind : LockKind) : LockLaws seen barred (s.joinSlot i k holder kind) :=
  (h.writeSlot i k (x := some { holder := holder, kind := kind, state := .pending, taken := s.clock })
    (by rintro _ ⟨⟩; rfl)).same (modStnStats_lockFacts ..)

theorem emptySlot (i : Stn) (k : Fin 6) : LockLaws seen barred (s.emptySlot i k) := h.writeSlot i k nofun

theorem compareSlot (i : Stn) (x : Fin 6 × Option (Nat × LockKind)) : LockLaws seen barred (State.compareSlot i s x) := by
  unfold State.compareSlot
  split
  · exact h
  · exact h.emptySlot ..
  · exact h.joinSlot ..
  · exact h.ite _ (h.joinSlot ..)

theorem takeKeys (i : Stn) (keys : List (Option (Nat × LockKind))) : LockLaws seen barred (s.takeKeys i keys) :=
  ((h.modLock (fun _ => id) fun _ => id).foldl (fun k x => k.compareSlot i x) _).judgeLockBar i

theorem panelSilent (i : Stn) : LockLaws seen barred (s.panelSilent i) := (h.modLock (fun _ => id) fun _ => id).judgeLockBar i

theorem moveSilence (i : Stn) : LockLaws seen barred (s.moveSilence i) := by
  unfold State.moveSilence
  dsimp only
  split
  · split
    · have moved (e : Nat) : LockLaws seen barred (s.modLock i fun r => { r with silence := some e }) :=
        h.modLock (fun _ => id) fun _ => id
      exact ((moved _).panelSilent i).ite _ (moved _)
    · exact h
  · exact h

omit h in
/-- A reply settles R152 at its station: entries stand IN_FORCE only where it shows both axes BRAKED (R152, R153). -/
theorem lockReply {i : Stn} {st : CabStatus} {t : Nat} (h : LockLaws (fun j => seen j ∧ j ≠ i) barred s)
    (last : (s.cab i).last = some { status := st, time := t }) (a : Answer) : LockLaws seen barred (s.lockReply i st a) := by
  have switched := h.modLock (i := i) (f := fun r => { r with lOcc := decide (st.switch = .localDrive) }) (fun _ => id) fun _ => id
  have written (x : LockState) := switched.modLock (i := i) (f := fun r => r.setStates x) (fun out => absurd rfl out.2) fun _ => id
  unfold State.lockReply
  dsimp only
  split
  next braked =>
    have shown : st.braked = true := by simp [CabStatus.braked, braked]
    exact ite (switched.regain (forceSeen_of_last last shown)) _ ((written .inForce).regain (forceSeen_of_last last shown))
  next =>
    split
    next =>
      have reverted := (written .pending).regain (forceSeen_of_none (by rw [modLock_lock_same]; exact setStates_pending _))
      exact reverted.ite _ (reverted.same (placeMotion_lockFacts ..))
    next none => exact switched.regain (forceSeen_of_none (Bool.not_eq_true _ ▸ none))

/-! ### What follows an event -/

theorem settleOnce (force : Bool) (old : State) : LockLaws seen barred (settleOnce force old s) := judgeRests (h.same (by simp))

theorem settleMore (n : Nat) : LockLaws seen barred (settleMore n s) := by
  induction n generalizing s with
  | zero => exact h
  | succ n ih => exact (ih (h.settleOnce ..)).ite _ h

theorem settle (force : Bool) (old : State) : LockLaws seen barred (settle force old s) := (h.settleOnce ..).settleMore _

/-! ### The drive bus -/

theorem lose (i : Stn) : LockLaws seen barred (s.lose i) := by
  rw [lose_eq]
  refine (h.same ?_).judgeLock i
  simp [State.frozen, State.released, State.freezeGrants]

theorem judgeLoss (i : Stn) : LockLaws seen barred (s.judgeLoss i) := (h.lose i).ite _ h

theorem miss (i : Stn) : LockLaws seen barred (s.miss i) := by
  unfold State.miss
  refine judgeLoss (h.same ((modStnStats_lockFacts ..).trans (modCab_lockFacts s i ?_))) i
  exact restore_last

omit h in
theorem lockAndStation {i : Stn} {st : CabStatus} {t : Nat} (h : LockLaws (fun j => seen j ∧ j ≠ i) barred s)
    (last : (s.cab i).last = some { status := st, time := t }) (first : Bool) (tk : TakenFlags) (a : Answer) (mark : Bool) :
    LockLaws seen barred (s.lockAndStation i st first tk a mark) := by
  have moved := stationReply_lockFacts s i st first tk a mark
  have stationFirst := lockReply (h.same moved) ((last_of_facts moved i).trans last) a
  exact ((((h.lockReply last a).judgeLock i).same (stationReply_lockFacts ..)).judgeLock i).ite _ (stationFirst.judgeLock i)

theorem countChoice (n : Nat) : LockLaws seen barred { s with choices := n } := h.same rfl

/-- Every block takes a good reply (R165): its status is the latest of its cabinet before the lockout manager takes it. -/
theorem takeReply (i : Stn) (st : CabStatus) (a : Answer) : LockLaws seen barred (s.takeReply i st a) := by
  have replied := (h.leave i).modCab (i := i) (f := fun k => k.takeReply st a s.clock) (fun out => out.2 rfl)
  have last : ((s.modCab i fun k => k.takeReply st a s.clock).cab i).last = some { status := st, time := s.clock } := by
    rw [modCab_cab_same]
    rfl
  have alloc (first : Bool) : (((((s.modCab i fun k => k.takeReply st a s.clock).modStn i fun r => r.write st).allocFirst i st first
      a).allocReply i st).lockFacts) = (s.modCab i fun k => k.takeReply st a s.clock).lockFacts := by simp
  have locked (first : Bool) := lockAndStation (replied.same (alloc first)) ((last_of_facts (alloc first) i).trans last) first
    (s.cab i).taken a (s.cab i).mark
  unfold State.takeReply
  dsimp only
  refine countChoice (judgeLock (same (locked (s.pollOnly i)) ?_) i) _
  simp

/-! ### The requests that act -/

theorem enableStation (i : Stn) : LockLaws seen barred (s.enableStation i) := by
  have fresh (g : Cabinet → Cabinet) : LockLaws (fun j => seen j ∧ j ≠ i) barred
      ((((s.modStn i fun r => { r with enabled := true }).setMotion i .unknown).modCab i g).modLock i fun r => r.setStates .pending) :=
    (modCab ((h.leave i).same (by simp)) fun out => out.2 rfl).modLock (fun out => absurd rfl out.2) fun _ => id
  have judged (g : Cabinet → Cabinet) :=
    ((fresh g).regain (forceSeen_of_none (by rw [modLock_lock_same]; exact setStates_pending _))).judgeLockBar i
  unfold State.enableStation
  dsimp only
  split
  case h_4 => exact judged _
  all_goals exact (judged _).same (giveEntry_lockFacts ..)

theorem takenOut (i : Stn) : LockLaws seen barred (s.takenOut i) := by
  have reset := modCab (f := fun k => { Cabinet.reset with outstanding := k.outstanding }) (h.leave i) fun out => out.2 rfl
  have disabled := (reset.same (t := State.voidVisits _ i) rfl).modLock (i := i) (f := LockRec.disable)
    (fun out => absurd rfl out.2) fun _ => id
  exact (disabled.regain (forceSeen_of_none (by rw [modLock_lock_same]; exact disable_hasInForce _))).same rfl

theorem disableStation (i : Stn) : LockLaws seen barred (s.disableStation i) := by
  rw [disableStation_eq]
  exact ((takenOut (h.same (by simp)) i).judgeLock i).same (setChan_lockFacts ..)

end LockLaws

/-! ### Warnings at rest (R155) -/

/-- A station in its warning is at rest. -/
def State.RestsInWarning (s : State) (i : Stn) : Prop := (s.lock i).phase = .warning → (s.stn i).motion.isResting = true

section Rests
variable {s : State} {i j : Stn}

theorem setLockStatus_lock_ne (new : LockStatus) (h : j ≠ i) : (s.setLockStatus i new).lock j = s.lock j := by
  by_cases e : (s.lock i).status = new
  · rw [setLockStatus_same e]
  · rw [lock_of_facts (setLockStatus_lockFacts e), modLock_lock_ne _ _ h]

theorem judgeLock_lock_ne (h : j ≠ i) : (s.judgeLock i).lock j = s.lock j := by
  unfold State.judgeLock
  dsimp only
  rw [setLockStatus_lock_ne _ h, modLock_lock_ne _ _ h]

/-- The lockout records of a station after the release is judged (R155). -/
def State.judgedRelease (s : State) (i : Stn) : LockRec :=
  (s.lock i).judgeRelease (s.isDisabled i) (s.stn i).motion.isResting s.clock s.cfg.warnTime

/-- A judged station: the release is judged, and the status follows (R146, R155). -/
theorem judgeLock_lock : (s.judgeLock i).lock i =
    { s.judgedRelease i with status := deriveStatus (s.isDisabled i) (s.judgedRelease i) } := by
  unfold State.judgeLock
  dsimp only
  rw [setLockStatus_lock, modLock_lock_same]
  rfl

theorem judgeLock_stn_ne (h : j ≠ i) : (s.judgeLock i).stn j = s.stn j := (others_of_view (judgeLock_view s i) h).1

/-- A status that is open, and not FREE, has nothing taken (R151). -/
theorem setLockStatus_releasing : (s.setLockStatus i .releasing).stns = s.stns := by
  unfold State.setLockStatus
  dsimp only
  split
  · rfl
  · simp [LockStatus.open]

/-- In a judged release that stands at WARNING, nothing stands in its way (R155). -/
theorem judgeRelease_phase_warning {r : LockRec} {d rest : Bool} {now w : Nat}
    (h : (r.judgeRelease d rest now w).phase = .warning) : releaseBlocked d r = false := by
  unfold LockRec.judgeRelease at h
  split at h
  · cases h
  · exact Bool.not_eq_true _ ▸ ‹_›

theorem occupied_of_pending {r : LockRec} (h : r.hasPending = true) : r.occupied = true := by
  unfold LockRec.hasPending at h
  unfold LockRec.occupied
  obtain ⟨x, mem, pending⟩ := List.any_eq_true.mp h
  refine List.any_eq_true.mpr ⟨x, mem, ?_⟩
  cases x with
  | none => cases pending
  | some e => rfl

/-- A station in WARNING with nothing in its way is RELEASING (R146). -/
theorem deriveStatus_warning {d : Bool} {r : LockRec} (clear : releaseBlocked d r = false) (h : r.phase = .warning) :
    deriveStatus d r = .releasing := by
  simp only [releaseBlocked, Bool.or_eq_false_iff] at clear
  obtain ⟨⟨⟨on, known⟩, empty⟩, remote⟩ := clear
  have none : r.hasPending = false := by
    rw [← Bool.not_eq_true]
    intro pending
    rw [occupied_of_pending pending] at empty
    cases empty
  simp [deriveStatus, on, known, empty, remote, none, h]

/-- The judgement of a station leaves it in WARNING only at rest, and then moves nothing (R155). -/
theorem judgeLock_restsInWarning (s : State) (i : Stn) : (s.judgeLock i).RestsInWarning i := by
  intro warning
  rw [judgeLock_lock] at warning
  replace warning : (s.judgedRelease i).phase = .warning := warning
  have clear : releaseBlocked (s.isDisabled i) (s.judgedRelease i) = false :=
    (judgeRelease_blocked ..).trans (judgeRelease_phase_warning warning)
  have still : (s.judgeLock i).stns = s.stns := by
    have releasing := deriveStatus_warning clear warning
    unfold State.judgedRelease at releasing
    unfold State.judgeLock
    dsimp only
    rw [modLock_lock_same, releasing, setLockStatus_releasing, modLock_stns]
  rw [stn_of_stns still]
  exact judgeRelease_warning warning

theorem judgeRest_restsInWarning (s : State) (i : Stn) : (s.judgeRest i).RestsInWarning i := by
  obtain ⟨fits, e⟩ | ⟨-, e⟩ := judgeRest_cases s i <;> rw [e]
  · intro warning
    by_contra moves
    rw [(releaseStale_iff s i).mpr (.inl ⟨warning, Bool.not_eq_true _ ▸ moves⟩)] at fits
    cases fits
  · exact judgeLock_restsInWarning s i

theorem judgeRest_others (h : j ≠ i) : (s.judgeRest i).stn j = s.stn j ∧ (s.judgeRest i).lock j = s.lock j := by
  obtain ⟨-, e⟩ | ⟨-, e⟩ := judgeRest_cases s i <;> rw [e]
  · exact ⟨rfl, rfl⟩
  · exact ⟨judgeLock_stn_ne h, judgeLock_lock_ne h⟩

theorem foldl_judgeRest_restsInWarning (l : List Stn) (s : State) (h : s.RestsInWarning i ∨ i ∈ l) :
    (l.foldl State.judgeRest s).RestsInWarning i := by
  induction l generalizing s with
  | nil => exact h.resolve_right List.not_mem_nil
  | cons j l ih =>
    refine ih _ ?_
    by_cases e : i = j
    · exact .inl (e ▸ judgeRest_restsInWarning s j)
    · refine h.imp (fun rests => ?_) fun mem => (List.mem_cons.mp mem).resolve_left e
      obtain ⟨stn, lock⟩ := judgeRest_others (s := s) e
      unfold State.RestsInWarning
      rwa [stn, lock]

/-- Once every release has followed its station, no station is in its warning away from rest (R155). -/
theorem judgeRests_restsInWarning (s : State) (i : Stn) : s.judgeRests.RestsInWarning i :=
  foldl_judgeRest_restsInWarning _ s (.inr (List.mem_finRange i))

theorem settleMore_restsInWarning (n : Nat) {s : State} (h : s.RestsInWarning i) : (settleMore n s).RestsInWarning i := by
  induction n generalizing s with
  | zero => exact h
  | succ n ih =>
    unfold settleMore
    split
    · exact ih (judgeRests_restsInWarning _ i)
    · exact h

/-- What follows an event ends with the releases (R155). -/
theorem settle_restsInWarning (force : Bool) (old s : State) (i : Stn) : (settle force old s).RestsInWarning i :=
  settleMore_restsInWarning _ (judgeRests_restsInWarning _ i)

end Rests

/-! ### A whole command

Between events the stations in their warning rest as well. A command ends with what follows its event, or changes nothing that the rules
read: the station records and the facts, which are the `scene`. -/

def State.scene (s : State) : Vector Station 32 × LockFacts := (s.stns, s.lockFacts)

section Scene
variable (s : State)

@[simp] theorem scene_ite (p : Prop) [Decidable p] (t : State) :
    (if p then s else t).scene = if p then s.scene else t.scene := apply_ite State.scene p s t

@[simp] theorem modLink_scene (l : Link) (f : LinkState → LinkState) : (s.modLink l f).scene = s.scene := by cases l <;> rfl
@[simp] theorem modLine_scene (ln : Line) (f : LineStats → LineStats) : (s.modLine ln f).scene = s.scene := by cases ln <;> rfl
@[simp] theorem notice_scene (l : Link) (x : NoticeFlag) : (s.notice l x).scene = s.scene := modLink_scene ..
@[simp] theorem setRx_scene (ln : Line) (r : Receiver) : (s.setRx ln r).scene = s.scene := by cases ln <;> rfl
@[simp] theorem discard_scene (ln : Line) (held : List Byte) : (s.discard ln held).scene = s.scene := by simp [State.discard]
@[simp] theorem gathered_scene (ln : Line) (rest : List Byte) : (s.gathered ln rest).scene = s.scene := by simp [State.gathered]
@[simp] theorem joinFifo_scene (l : Link) (f : Frame) : (s.joinFifo l f).scene = s.scene := by simp [State.joinFifo]
@[simp] theorem openRequest_scene (l : Link) (f : Frame) : (s.openRequest l f).scene = s.scene := modLink_scene ..
@[simp] theorem answer_scene (l : Link) (k : Byte) (c : Code) (data : List Byte) : (s.answer l k c data).scene = s.scene := modLink_scene ..
@[simp] theorem nextPanel_scene (after : Option Stn) : (s.nextPanel after).scene = s.scene := rfl

@[simp] theorem endVisit_scene (v : BusVisit) : (s.endVisit v).scene = s.scene := by
  have stns : (s.nextVisit (some v.station)).stns = s.stns := by
    unfold State.nextVisit
    split <;> rfl
  exact Prod.ext stns (nextVisit_lockFacts ..)

@[simp] theorem dropOutstanding_scene (i : Stn) : (s.dropOutstanding i).scene = s.scene :=
  congrArg (Prod.mk s.stns) (modCab_lockFacts s i fun _ => rfl)

/-- A site frame is read in a state with the scene before it. -/
theorem siteFrame_scene {s t : State} {bytes : List Byte} {p : Frame → Bool} {f : Frame}
    (h : s.siteFrame bytes p = some (f, t)) : t.scene = s.scene := by
  unfold State.siteFrame at h
  split at h
  · split at h
    · cases h
      exact gathered_scene ..
    · cases h
  · cases h

@[simp] theorem takeQuery_scene (l : Link) (c : Instr) (q : State → List Byte → Code × List Byte) :
    (s.takeQuery l c q).scene = s.scene := by
  unfold State.takeQuery
  split <;> simp

@[simp] theorem takeUnknown_scene (l : Link) : (s.takeUnknown l).scene = s.scene := by
  unfold State.takeUnknown
  split <;> simp

/-- A request of the flags or the statistics leaves the scene where its handler does. -/
theorem takeLocal_scene {q : State → List Byte → Result} (hq : ∀ s p, (q s p).state.scene = s.scene) (l : Link) (c : Instr) :
    (s.takeLocal l c q).scene = s.scene := by
  unfold State.takeLocal
  split <;> simp [hq]

theorem takeAck_scene (l : Link) (p : List Byte) : (takeAck l s p).state.scene = s.scene := by
  unfold takeAck
  split <;> simp

theorem takeDump_scene (p : List Byte) : (takeDump s p).state.scene = s.scene := by
  have cleared (t : Stats) (b : Bool) : (if b then { s with stats := t } else s).scene = s.scene := by cases b <;> rfl
  unfold takeDump
  split
  · split
    · rfl
    · split
      · exact cleared _ _
      · split
        · exact cleared _ _
        · rfl
  · rfl

theorem linkFrame_scene (l : Link) (bytes : List Byte) : (s.linkFrame l bytes).scene = s.scene := by
  unfold State.linkFrame
  split <;> simp

theorem badFrame_scene (ln : Line) (bytes : List Byte) : (s.badFrame ln bytes).scene = s.scene := by
  unfold State.badFrame
  split <;> simp

theorem startCollecting_scene (ln : Line) (bytes : List Byte) : (s.startCollecting ln bytes).scene = s.scene := by
  unfold State.startCollecting
  split <;> simp

theorem ignoredFrame_scene (bytes : List Byte) : (s.ignoredFrame bytes).scene = s.scene := by
  unfold State.ignoredFrame
  split
  · rfl
  next h => exact siteFrame_scene h

theorem panelMissed_scene (bytes : Option (List Byte)) : (s.panelMissed bytes).scene = s.scene := by
  unfold State.panelMissed
  split
  · rfl
  · split <;> simp

end Scene

/-- The two laws, with every station that is in its warning at rest, if it was so before: `rested` is the ground of that. -/
structure LockRules (seen barred : Stn → Prop) (rested : Prop) (s : State) : Prop where
  laws : LockLaws seen barred s
  rests : rested → ∀ i, s.RestsInWarning i

/-- What the block makes of a request: a refusal leaves the state, and what is DONE keeps the two laws. -/
def Lawful (seen barred : Stn → Prop) (s : State) (r : Result) : Prop :=
  r.state = s ∨ (r.code = .done ∧ LockLaws seen barred r.state)

/-- A handler of requests is lawful in a lawful state. -/
def KeepsLocks (q : State → List Byte → Result) : Prop :=
  ∀ {seen barred : Stn → Prop} {s : State}, LockLaws seen barred s → ∀ p, Lawful seen barred s (q s p)

section Handlers

theorem refused {seen barred : Stn → Prop} {s : State} {c : Code} : Lawful seen barred s (s.refuse c) := .inl rfl

theorem LockLaws.done {seen barred : Stn → Prop} {s t : State} (h : LockLaws seen barred t) {data : List Byte} :
    Lawful seen barred s (t.done data) := .inr ⟨rfl, h⟩

/-- A request without arguments is lawful where what it runs is. -/
theorem Lawful.noArgs {seen barred : Stn → Prop} {s : State} {r : Unit → Result} (h : Lawful seen barred s (r ())) (p : List Byte) :
    Lawful seen barred s (noArgs p r s) := by
  unfold Machine.noArgs
  split
  · exact h
  · exact refused

theorem takeSlew_keepsLocks : KeepsLocks takeSlew := fun h p => by
  unfold takeSlew
  split
  · exact refused
  · split
    · exact refused
    · exact (h.same (by simp [State.addGroup])).done

theorem takeCancel_keepsLocks : KeepsLocks takeCancel := fun h p => by
  unfold takeCancel
  split
  · split
    · exact refused
    · split
      · exact refused
      · exact (h.same (endGroup_lockFacts ..)).done
  · exact refused

theorem takeFlush_keepsLocks : KeepsLocks takeFlush := fun h p => .noArgs (h.same (by simp)).done p

theorem takeResume_keepsLocks : KeepsLocks takeResume := fun h p => .noArgs (h.same (by simp)).done p

theorem takeRest_keepsLocks : KeepsLocks takeRest := fun h p => by
  unfold takeRest
  split
  · exact refused
  · exact (h.same (by simp)).done

theorem takeSteer_keepsLocks : KeepsLocks takeSteer := fun h p => by
  unfold takeSteer
  split
  · exact refused
  · split
    · exact refused
    · exact (h.same (by simp [State.addSteer])).done

theorem takeHalt_keepsLocks : KeepsLocks takeHalt := fun h p => by
  unfold takeHalt
  split
  · exact refused
  · exact (h.same (by simp)).done

theorem takeStowAll_keepsLocks : KeepsLocks takeStowAll := fun h p => .noArgs (h.same (stowAll_lockFacts _)).done p

theorem takeUnstow_keepsLocks : KeepsLocks takeUnstow := fun h p => by
  refine .noArgs ?_ p
  dsimp only
  split
  · exact (h.same (beginEnding_lockFacts _)).done
  · split
    · exact h.done
    · exact refused

theorem takeSnowOn_keepsLocks : KeepsLocks takeSnowOn := fun h p => .noArgs (h.same (snowTurnOn_lockFacts ..)).done p

theorem takeSnowOff_keepsLocks : KeepsLocks takeSnowOff := fun h p => .noArgs (h.same (snowTurnOff_lockFacts _)).done p

theorem takeConsoleLock_keepsLocks : KeepsLocks takeConsoleLock := fun h p => by
  unfold takeConsoleLock
  split
  · exact refused
  · split
    · exact refused
    · exact ((h.joinSlot ..).judgeLockBar _).done

theorem takeConsoleUnlock_keepsLocks : KeepsLocks takeConsoleUnlock := fun h p => by
  unfold takeConsoleUnlock
  split
  · exact refused
  · split
    · exact refused
    · split
      · exact ((h.emptySlot ..).judgeLockBar _).done
      · exact refused

theorem takeWriteOff_keepsLocks : KeepsLocks takeWriteOff := fun h p => by
  unfold takeWriteOff
  split
  · exact refused
  · split
    · exact (h.same (by rfl)).done
    · exact refused

theorem takeEnable_keepsLocks : KeepsLocks takeEnable := fun h p => by
  unfold takeEnable
  split
  · exact refused
  · exact ((h.foldl (fun k i => k.enableStation i) _).same (wakeLines_lockFacts _)).done

theorem takeDisable_keepsLocks : KeepsLocks takeDisable := fun h p => by
  unfold takeDisable
  split
  · exact refused
  · dsimp only
    split
    · exact (h.foldl (fun k i => k.disableStation i) _).done
    · exact .inl rfl

theorem takeClear_keepsLocks : KeepsLocks takeClear := fun h p => .noArgs (h.same (clearQueues_lockFacts _)).done p

theorem LockLaws.applyParam {seen barred : Stn → Prop} {s : State} (h : LockLaws seen barred s) (p : Param) (before : Params) :
    LockLaws seen barred (s.applyParam p before) := by
  cases p with
  | panelSilence => exact h.foldl (fun k i => k.moveSilence i) _
  | missLimit => exact h.foldl (fun k i => k.judgeLoss i) _
  | mastEnable => exact h.same (by simp [State.applyParam, State.enableMasts])
  | mastSilence => exact h.same (by simp [State.applyParam, State.moveMastSilence])
  | snowIdle => exact h.same (by simp [State.applyParam, State.moveIdle])
  | minMasts => exact h.same (evaluate_lockFacts ..)
  | snowClass | snowTemp | autoSnow => exact h.same (judgeAuto_lockFacts ..)
  | maskS | maskO => exact h.same (by simp [State.applyParam, State.maskSet])
  | heatPriority => exact h.same rfl
  | _ => exact h

theorem takeSet_keepsLocks : KeepsLocks takeSet := fun {_ _ s} h p => by
  unfold takeSet
  split
  · exact refused
  next v _ =>
    split
    next q _ =>
      split
      · exact refused
      · dsimp only
        split
        · exact refused
        · have assigned := h.same (t := { s with cfg := s.cfg.assign q (s.cfg.taken q v) }) rfl
          exact .inr ⟨rfl, assigned.applyParam q s.cfg⟩
    next => exact refused

end Handlers

namespace LockRules
variable {seen barred : Stn → Prop} {rested : Prop} {s : State} (h : LockRules seen barred rested s)
include h

theorem same {t : State} (e : t.scene = s.scene) : LockRules seen barred rested t where
  laws := h.laws.same (congrArg Prod.snd e)
  rests hr i := by
    unfold State.RestsInWarning
    rw [lock_of_facts (congrArg Prod.snd e), stn_of_stns (congrArg Prod.fst e)]
    exact h.rests hr i

theorem ite (p : Prop) [Decidable p] {t : State} (k : LockRules seen barred rested t) :
    LockRules seen barred rested (if p then s else t) := by
  split
  · exact h
  · exact k

omit h in
/-- An event that keeps the two laws ends at rest with what follows it. -/
theorem settle (h : LockLaws seen barred s) (force : Bool) (old : State) : LockRules seen barred rested (settle force old s) :=
  ⟨h.settle .., fun _ => settle_restsInWarning force old s⟩

theorem takeRequest {q : State → List Byte → Result} (hq : KeepsLocks q) (l : Link) (c : Instr) :
    LockRules seen barred rested (s.takeRequest l c q) := by
  unfold State.takeRequest
  split
  · exact h
  next f _ =>
    have opened := h.same (openRequest_scene s l f)
    dsimp only
    refine same ?_ (answer_scene ..)
    obtain left | ⟨done, laws⟩ := hq opened.laws f.payload
    · rw [left]
      exact (settle opened.laws ..).ite _ opened
    · rw [if_pos done]
      exact settle laws ..

/-! ### The line events and the expiries -/

theorem mastFrame (bytes : List Byte) : LockRules seen barred rested (s.mastFrame bytes) := by
  unfold State.mastFrame
  split
  · exact h
  next ht =>
    split
    · exact settle ((h.same (siteFrame_scene ht)).laws.same (takeMast_lockFacts ..)) ..
    · exact h

theorem precipFrame (bytes : List Byte) : LockRules seen barred rested (s.precipFrame bytes) := by
  unfold State.precipFrame
  split
  · exact h
  next ht =>
    have gathered := h.same (siteFrame_scene ht)
    split
    · split
      · exact settle (gathered.laws.same (takePrecip_lockFacts ..)) ..
      · exact gathered
    · exact h

theorem feederFrame (bytes : List Byte) : LockRules seen barred rested (s.feederFrame bytes) := by
  unfold State.feederFrame
  split
  · exact h
  next t ht =>
    split
    next n _ => exact settle ((h.same (siteFrame_scene ht)).laws.same (t := t.takeFeeder n) rfl) ..
    next => exact h

theorem dropVisit (v : BusVisit) : LockRules seen barred rested ((s.dropOutstanding v.station).endVisit v) := h.same (by simp)

theorem statusReply (bytes : List Byte) : LockRules seen barred rested (s.statusReply bytes) := by
  unfold State.statusReply
  split
  · exact h
  · split
    · exact h
    · exact (h.dropVisit _).ite _ ((settle (h.laws.takeReply _ _ _) ..).same (endVisit_scene ..))

theorem missVisit (v : BusVisit) : LockRules seen barred rested (s.missVisit v) :=
  (h.dropVisit v).ite _ ((settle (h.laws.miss _) ..).same (endVisit_scene ..))

theorem badReply (bytes : List Byte) : LockRules seen barred rested (s.badReply bytes) := by
  unfold State.badReply
  split
  · exact h
  · exact h.ite _ (h.missVisit _)

theorem replyTimeout : LockRules seen barred rested s.replyTimeout := by
  unfold State.replyTimeout
  split
  · exact h
  · exact (h.missVisit _).ite _ h

theorem keysReply (bytes : List Byte) : LockRules seen barred rested (s.keysReply bytes) := by
  unfold State.keysReply
  split
  · exact h
  · split
    · exact h
    · exact (h.ite _ (settle (h.laws.takeKeys _ _) ..)).same (nextPanel_scene ..)

/-! ### Every command -/

omit h in
theorem next {r t : State} (e : (.next r : Out) = .next t) (h : LockRules seen barred rested r) : LockRules seen barred rested t :=
  Host.Outcome.next.inj e ▸ h

theorem expire {t : State} {due : Bool} {f : State → State} (hf : ∀ {s}, LockLaws seen barred s → LockLaws seen barred (f s))
    (e : s.expire due f = .next t) : LockRules seen barred rested t := by
  cases due with
  | false => exact next e h
  | true => exact next e (settle (hf h.laws) ..)

omit h in
/-- Reset leaves every slot empty and every status UNKNOWN (R144 to R146). -/
theorem powerOnReset (n : Nat) (l : List Instr) : LockRules seen barred rested { State.reset with choices := n, pending := l } := by
  have reset (i : Stn) : State.lock { State.reset with choices := n, pending := l } i = LockRec.reset := reset_lock i
  refine ⟨⟨fun i _ => (reset_lockRule i).1, fun i _ => ?_⟩, fun _ i => (reset_lockRule i).2⟩
  rw [reset]
  exact nofun

/-- Every command keeps the rules of the lockout records; only the end of a warning frees a station. -/
theorem exec {c : Instr} {t : State} (e : exec c s = .next t) (out : ∀ i, c = .warningExpiry i → ¬ barred i) :
    LockRules seen barred rested t := by
  cases c with
  | powerOnReset => exact next e (powerOnReset ..)
  | linkFrameReceived l b => exact next e (h.same (linkFrame_scene ..))
  | badFrame ln b => exact next e (h.same (badFrame_scene ..))
  | collectingStart ln b => exact next e (h.same (startCollecting_scene ..))
  | transmitFrameEnd l => exact next e (h.same (modLink_scene ..))
  | slew => exact next e (h.takeRequest takeSlew_keepsLocks ..)
  | cancel => exact next e (h.takeRequest takeCancel_keepsLocks ..)
  | flush => exact next e (h.takeRequest takeFlush_keepsLocks ..)
  | resume => exact next e (h.takeRequest takeResume_keepsLocks ..)
  | rest => exact next e (h.takeRequest takeRest_keepsLocks ..)
  | steer => exact next e (h.takeRequest takeSteer_keepsLocks ..)
  | halt => exact next e (h.takeRequest takeHalt_keepsLocks ..)
  | stowAll => exact next e (h.takeRequest takeStowAll_keepsLocks ..)
  | unstow => exact next e (h.takeRequest takeUnstow_keepsLocks ..)
  | snowOn => exact next e (h.takeRequest takeSnowOn_keepsLocks ..)
  | snowOff => exact next e (h.takeRequest takeSnowOff_keepsLocks ..)
  | consoleLock => exact next e (h.takeRequest takeConsoleLock_keepsLocks ..)
  | consoleUnlock => exact next e (h.takeRequest takeConsoleUnlock_keepsLocks ..)
  | writeOff => exact next e (h.takeRequest takeWriteOff_keepsLocks ..)
  | enable => exact next e (h.takeRequest takeEnable_keepsLocks ..)
  | disable => exact next e (h.takeRequest takeDisable_keepsLocks ..)
  | setParam => exact next e (h.takeRequest takeSet_keepsLocks ..)
  | clearAll => exact next e (h.takeRequest takeClear_keepsLocks ..)
  | getParam => exact next e (h.same (takeQuery_scene ..))
  | qStation l | qPower l | qWind l | qCampaign l | qQueue l | qLockout l => exact next e (h.same (takeQuery_scene ..))
  | ack l => exact next e (h.same (takeLocal_scene s (fun s => takeAck_scene s l) ..))
  | dump l => exact next e (h.same (takeLocal_scene s takeDump_scene ..))
  | unknownRequestKind l => exact next e (h.same (takeUnknown_scene ..))
  | mast b => exact next e (h.mastFrame b)
  | precip b => exact next e (h.precipFrame b)
  | feeder b => exact next e (h.feederFrame b)
  | siteFrameIgnored b => exact next e (h.same (ignoredFrame_scene ..))
  | statusReply b => exact next e (h.statusReply b)
  | badReply b => exact next e (h.badReply b)
  | replyTimeoutExpiry => exact next e h.replyTimeout
  | keys b => exact next e (h.keysReply b)
  | panelReplyMissed b => exact next e (h.same (panelMissed_scene ..))
  | panelSilenceExpiry i => exact h.expire (fun k => k.panelSilent i) e
  | warningExpiry i => exact h.expire (fun k => k.warningEnd (out i rfl)) e
  | silenceExpiry m => exact h.expire (fun k => k.same (silenceEnd_lockFacts ..)) e
  | dwellExpiry => exact h.expire (fun k => k.same (evaluate_lockFacts ..)) e
  | deadlineExpiry => exact h.expire (fun k => k.same (deadlineEnd_lockFacts _)) e
  | clearTimerExpiry => exact h.expire (fun k => k.same (clearEnd_lockFacts _)) e
  | timerAExpiry i => exact h.expire (fun k => k.same (stopHeat_lockFacts ..)) e
  | timerBExpiry i => exact h.expire (fun k => k.same (startCycle_lockFacts ..)) e
  | idleExpiry i => exact h.expire (fun k => k.same (idleEnd_lockFacts ..)) e

/-- A step takes a command, or only time. -/
theorem step {t : State} (e : step s = .next t) (out : ∀ i, ¬ barred i) : LockRules seen barred rested t := by
  unfold Machine.step idle at e
  split at e
  next c rest _ => exact exec (h.same (t := { s with pending := rest }) rfl) e fun i _ => out i
  next =>
    split at e
    next => exact h.exec e fun i _ => out i
    next => exact next e (h.same rfl)

end LockRules

/-- Settles O8: R152 at every station is one ground, and rest in every warning the other. -/
theorem stepKeepsLockRule : Obligations.StepKeepsLockRule := fun s t rule e i => by
  have kept := LockRules.step (seen := fun _ => True) (barred := fun _ => False) (rested := True) (s := s)
    ⟨⟨fun i _ => (rule i).1, nofun⟩, fun _ i => (rule i).2⟩ e fun _ => id
  exact ⟨kept.laws.force i trivial, kept.rests trivial i⟩

/-- Settles O10: that the one station is not FREE is the ground. -/
theorem onlyWarningExpiryFrees : Obligations.OnlyWarningExpiryFrees := fun c i s t e other locked => by
  have kept := LockRules.exec (seen := fun _ => False) (barred := fun j => j = i) (rested := False) (s := s)
    ⟨⟨nofun, fun j hj => hj ▸ locked⟩, nofun⟩ e fun j ends hj => other (hj ▸ ends)
  exact kept.laws.bar i rfl

/-! ### What a lockout that takes effect does (O45) -/

section TakesEffect
variable {s : State} {i : Stn}

theorem lockTakesEffect_admitting (hm : (s.stn i).motion = .admitting) : s.lockTakesEffect i = s.withdrawWaiting i .lockout := by
  simp only [State.lockTakesEffect, hm]

theorem lockTakesEffect_moving (hm : (s.stn i).motion = .slewing ∨ (s.stn i).motion = .stowing) :
    s.lockTakesEffect i = s.stopMoving i .lockout := by
  obtain hm | hm := hm <;> simp only [State.lockTakesEffect, hm]

theorem lockTakesEffect_pointed (hm : (s.stn i).motion = .pointed) : s.lockTakesEffect i = s.brakePointed i := by
  simp only [State.lockTakesEffect, hm]

theorem lockTakesEffect_unpinning (hm : (s.stn i).motion = .stowed) (hr : s.rosterStatus? i = some .unpinning) :
    s.lockTakesEffect i =
      (s.withdrawPin i .pinOut).setRoster i (if s.camp.state = .ending then .locked else .excluded .lockout) := by
  simp only [State.lockTakesEffect, hm, hr, if_true]

/-- A station that neither waits for a motion, nor moves, is driven or is unpinned, is left as it is. -/
theorem lockTakesEffect_idle (h₁ : (s.stn i).motion ≠ .admitting) (h₂ : (s.stn i).motion ≠ .slewing)
    (h₃ : (s.stn i).motion ≠ .stowing) (h₄ : (s.stn i).motion ≠ .pointed)
    (h₅ : ¬ ((s.stn i).motion = .stowed ∧ s.rosterStatus? i = some .unpinning)) : s.lockTakesEffect i = s := by
  unfold State.lockTakesEffect
  split
  case h_1 hm => exact absurd hm h₁
  case h_2 hm => exact absurd hm h₂
  case h_3 hm => exact absurd hm h₃
  case h_4 hm => exact absurd hm h₄
  case h_5 hm => exact if_neg fun hr => h₅ ⟨hm, hr⟩
  case h_6 => rfl

/-- A stow that a lockout stops leaves no PIN_IN unsent, and its roster entry INTERRUPTED(LOCKOUT) (R111, R151). -/
theorem lockTakesEffect_stow (hm : (s.stn i).motion = .stowing) (hw : (s.stn i).owner = some .stow) :
    ((s.lockTakesEffect i).cab i).pin ≠ some .pinIn ∧
      ∀ e, (s.lockTakesEffect i).entry? i = some e → e.status = .interrupted .lockout ∧ e.outcome = some .lockout := by
  rw [lockTakesEffect_moving (.inr hm)]
  obtain ⟨-, -, camp, -⟩ := ended_records (s := s) (i := i) (o := .lockout) _ List.mem_cons_self
  constructor
  · rw [stopMoving_pin, (giveOutcome_stow_slots .lockout hw).2]
    split
    · exact nofun
    · assumption
  · intro e he
    rw [State.entry?, camp, ← State.entry?, giveOutcome_stow .lockout hw, stowOutcome_entry?] at he
    obtain ⟨x, -, rfl⟩ := Option.map_eq_some_iff.mp he
    exact ⟨rfl, rfl⟩

/-- The roster status of a station after it is set. -/
theorem setRoster_rosterStatus? (s : State) (i : Stn) (st : RosterStatus) :
    (s.setRoster i st).rosterStatus? i = (s.rosterStatus? i).map fun _ => st := by
  unfold State.rosterStatus? State.setRoster
  rw [modRoster_entry? s i (by exact fun _ => rfl), Option.map_map, Option.map_map]
  rfl

/-- An unpinning that a lockout gives up (R119, R151). -/
theorem lockTakesEffect_gives_up (hm : (s.stn i).motion = .stowed) (hr : s.rosterStatus? i = some .unpinning) :
    ((s.lockTakesEffect i).stn i).motion = .stowed ∧ ((s.lockTakesEffect i).cab i).pin ≠ some .pinOut ∧
      (s.lockTakesEffect i).rosterStatus? i = some (if s.camp.state = .ending then .locked else .excluded .lockout) := by
  rw [lockTakesEffect_unpinning hm hr]
  refine ⟨(congrArg Station.motion (stn_of_stns (withdrawPin_stns s i .pinOut) i)).trans hm, ?pin, ?roster⟩
  case pin =>
    change ((s.withdrawPin i .pinOut).cab i).pin ≠ _
    rw [withdrawPin_pin]
    split
    · exact nofun
    · assumption
  case roster =>
    have kept : (s.withdrawPin i .pinOut).rosterStatus? i = s.rosterStatus? i := by
      simp only [State.rosterStatus?, State.entry?, (withdrawPin_rest ..).2.2]
    rw [setRoster_rosterStatus?, kept, hr, Option.map_some]

end TakesEffect

/-- Settles O45, by the cases of the motion state. -/
theorem lockoutActsByMotionState : Obligations.LockoutActsByMotionState := by
  intro s i
  refine ⟨fun w hm _ => ?waiting, fun hm => ?moving, lockTakesEffect_stow, fun hm => ?pointed, lockTakesEffect_gives_up,
    lockTakesEffect_idle⟩
  case waiting =>
    rw [lockTakesEffect_admitting hm]
    obtain ⟨motion, owner, -⟩ := withdrawWaiting_returns s i .lockout
    exact ⟨motion, owner⟩
  case moving =>
    rw [lockTakesEffect_moving hm]
    obtain ⟨motion, owner, -, -, slot, -⟩ := stopMoving_effect s i .lockout hm
    exact ⟨motion, owner, slot⟩
  case pointed =>
    rw [lockTakesEffect_pointed hm]
    obtain ⟨motion, slot, -⟩ := brakePointed_effect (s := s) (i := i)
    exact ⟨motion, slot⟩

/-! ### The end of a warning, and the release by the table (O11) -/

section WarningOver
variable {s : State} {i : Stn}

/-- The station's records after its warning, before the status is written (R156). -/
def State.warningOver (s : State) (i : Stn) : State :=
  let s := s.modLock i fun r => { r with phase := .none, warnExp := none }
  if (s.stn i).motion = .held then s.setIdle i (some s.clock) else s

theorem warningEnd_eq (s : State) (i : Stn) : s.warningEnd i = ((s.warningOver i).setLockStatus i .free).judgeBar i := rfl

theorem warningOver_lock (s : State) (i : Stn) :
    (s.warningOver i).lock i = { s.lock i with phase := .none, warnExp := none } := by
  have facts : (s.warningOver i).lockFacts = (s.modLock i fun r => { r with phase := .none, warnExp := none }).lockFacts := by
    unfold State.warningOver
    dsimp only
    split
    · exact setIdle_lockFacts ..
    · rfl
  rw [lock_of_facts facts, modLock_lock_same]

/-- The warning's expiry frees the station (R156). -/
theorem warningEnd_lock (s : State) (i : Stn) :
    (s.warningEnd i).lock i = { s.lock i with phase := .none, warnExp := none, status := .free } := by
  rw [warningEnd_eq, State.lock, judgeBar_locks, ← State.lock, setLockStatus_lock, warningOver_lock]

theorem judgePark_off (h : s.snow.mode = .off) : s.judgePark i = s := by
  refine if_neg fun due => ?_
  rw [(parkDue_iff.mp due).1] at h
  cases h

/-- While the snow mode is OFF, a station that becomes FREE is left as it is: nothing is taken from it, and no park follows (R140, R151). -/
theorem setLockStatus_free_stns (h : s.snow.mode = .off) : (s.setLockStatus i .free).stns = s.stns := by
  unfold State.setLockStatus
  dsimp only
  split
  · rfl
  · have off : ((s.modLock i fun r => { r with status := .free }).noticeBoth .lockout).snow.mode = .off := by simpa using h
    simp [LockStatus.open, judgePark_off off]

theorem warningEnd_idleSince (held : (s.stn i).motion = .held) (off : s.snow.mode = .off) :
    ((s.warningEnd i).stn i).idleSince = some s.clock := by
  have ended : s.warningOver i = (s.modLock i fun r => { r with phase := .none, warnExp := none }).setIdle i (some s.clock) :=
    if_pos held
  have snow : (s.warningOver i).snow.mode = .off := by rw [ended]; exact off
  rw [warningEnd_eq, State.stn, judgeBar_stns, setLockStatus_free_stns snow, ended]
  simp [State.setIdle, State.modStn]

end WarningOver

section Release
variable {r : LockRec} {d rest : Bool} {now w : Nat}

theorem judgeRelease_of_blocked (h : releaseBlocked d r = true) :
    r.judgeRelease d rest now w = { r with phase := .none, warnExp := none } := if_pos h

section Clear
variable (clear : releaseBlocked d r = false)
include clear

/-- No release begins where the station is FREE. -/
theorem judgeRelease_free (phase : r.phase = .none) (free : r.status = .free) : r.judgeRelease d rest now w = r := by
  simp only [LockRec.judgeRelease, clear, phase, free, Bool.false_eq_true, if_false, if_true]

/-- The warning begins at rest: from NONE where the station is not FREE, or from WAIT_REST. -/
theorem judgeRelease_warns (h : r.phase = .waitRest ∨ (r.phase = .none ∧ r.status ≠ .free)) :
    r.judgeRelease d true now w = { r with phase := .warning, warnExp := some (now + 1000 * w) } := by
  rw [Nat.mul_comm]
  obtain phase | ⟨phase, barred⟩ := h
  · simp only [LockRec.judgeRelease, clear, phase, Bool.false_eq_true, if_false, if_true, seconds]
  · simp only [LockRec.judgeRelease, clear, phase, if_neg barred, Bool.false_eq_true, if_false, if_true, seconds]

/-- Away from rest a release waits: one that begins, and one that was in its warning. -/
theorem judgeRelease_waits (h : r.phase = .warning ∨ (r.phase = .none ∧ r.status ≠ .free)) :
    r.judgeRelease d false now w = { r with phase := .waitRest, warnExp := none } := by
  obtain phase | ⟨phase, barred⟩ := h
  · simp only [LockRec.judgeRelease, clear, phase, Bool.false_eq_true, if_false]
  · simp only [LockRec.judgeRelease, clear, phase, if_neg barred, Bool.false_eq_true, if_false]

/-- A release goes on as it is while its phase fits the station. -/
theorem judgeRelease_fits (h : (r.phase = .waitRest ∧ rest = false) ∨ (r.phase = .warning ∧ rest = true)) :
    r.judgeRelease d rest now w = r := by
  obtain ⟨phase, rfl⟩ | ⟨phase, rfl⟩ := h
  · simp only [LockRec.judgeRelease, clear, phase, Bool.false_eq_true, if_false]
  · simp only [LockRec.judgeRelease, clear, phase, Bool.false_eq_true, if_false, if_true]

end Clear

theorem occupied_iff (r : LockRec) : r.occupied = true ↔ ∃ k : Fin 6, (r.slots.get k).isSome = true := by
  unfold LockRec.occupied
  rw [List.any_eq_true]
  constructor
  · rintro ⟨x, mem, some⟩
    obtain ⟨n, hn, rfl⟩ := Vector.getElem_of_mem (Vector.mem_toList_iff.mp mem)
    exact ⟨⟨n, hn⟩, some⟩
  · rintro ⟨k, some⟩
    exact ⟨_, Vector.mem_toList_iff.mpr (Vector.getElem_mem k.isLt), some⟩

theorem releaseBlocked_iff (d : Bool) (r : LockRec) : releaseBlocked d r = true ↔
    d = true ∨ r.known = false ∨ r.lOcc = true ∨ ∃ k : Fin 6, (r.slots.get k).isSome = true := by
  rw [← occupied_iff]
  simp only [releaseBlocked, Bool.or_eq_true, Bool.not_eq_true']
  tauto

end Release

theorem isResting_iff (m : Motion) : m.isResting = true ↔ m = .held ∨ m = .pointed ∨ m = .parked ∨ m = .stowed := by
  cases m <;> simp [Motion.isResting]

/-- Settles O11: the expiry by its records, the release by the table of R155, and the rest by what every settlement ends with. -/
theorem warningEndFrees : Obligations.WarningEndFrees := by
  refine ⟨fun i s due => ⟨expire_of_due due (·.warningEnd i), ?_⟩, fun r d rest now w => ?release,
    fun force old s i warning => (isResting_iff _).mp (settle_restsInWarning force old s i warning)⟩
  · rw [warningEnd_lock]
    exact ⟨rfl, rfl, rfl, warningEnd_idleSince⟩
  case release =>
    refine ⟨fun blocked => ?_, judgeRelease_free, ?_, ?_, fun clear phase away => judgeRelease_fits clear (.inl ⟨phase, away⟩),
      fun clear phase still => judgeRelease_fits clear (.inr ⟨phase, still⟩), ?_, releaseBlocked_iff d r⟩
    · rw [judgeRelease_of_blocked blocked]
      exact ⟨rfl, rfl⟩
    · rintro clear begins rfl
      rw [judgeRelease_warns clear begins]
      exact ⟨rfl, rfl⟩
    · rintro clear phase barred rfl
      rw [judgeRelease_waits clear (.inr ⟨phase, barred⟩)]
    · rintro clear phase rfl
      rw [judgeRelease_waits clear (.inl phase)]
      exact ⟨rfl, rfl⟩

/-! ### A KEYS reply in the slots (O47) -/

/-- A slot of the list, after the panel has shown what it holds: an unchanged key keeps its entry (R149). -/
def comparedEntry (now : Nat) (old : Option LockEntry) (shown : Option (Nat × LockKind)) : Option LockEntry :=
  if old.map (fun e => (e.holder, e.kind)) = shown then old
  else shown.map fun x => { holder := x.1, kind := x.2, state := .pending, taken := now }

/-- The slots after one of them is compared. -/
def comparedSlots (now : Nat) (v : Vector (Option LockEntry) 6) (x : Fin 6 × Option (Nat × LockKind)) : Vector (Option LockEntry) 6 :=
  upd v x.1 fun e => comparedEntry now e x.2

section Compared
variable {now : Nat} {old : Option LockEntry} {shown : Option (Nat × LockKind)}

theorem comparedEntry_shown : (comparedEntry now old shown).map (fun e => (e.holder, e.kind)) = shown := by
  unfold comparedEntry
  split
  · assumption
  · rw [Option.map_map]
    exact Option.map_id'

theorem comparedEntry_unchanged (h : old.map (fun e => (e.holder, e.kind)) = shown) : comparedEntry now old shown = old := if_pos h

theorem comparedEntry_joined {h : Nat} {q : LockKind} (other : ∀ e, old = some e → ¬ (e.holder = h ∧ e.kind = q)) :
    comparedEntry now old (some (h, q)) = some { holder := h, kind := q, state := .pending, taken := now } := by
  refine if_neg fun same => ?_
  obtain ⟨e, he, eq⟩ := Option.map_eq_some_iff.mp same
  exact other e he (Prod.mk.inj eq)

end Compared

section Slots
variable {s : State} {i : Stn}

theorem joinSlot_lock (k : Fin 6) (h : Nat) (q : LockKind) : (s.joinSlot i k h q).lock i = { s.lock i with
    slots := upd (s.lock i).slots k fun _ => some { holder := h, kind := q, state := .pending, taken := s.clock } } :=
  modLock_lock_same ..

theorem emptySlot_lock (k : Fin 6) :
    (s.emptySlot i k).lock i = { s.lock i with slots := upd (s.lock i).slots k fun _ => none } := modLock_lock_same ..

theorem joinSlot_lock_ne {j : Stn} (k : Fin 6) (h : Nat) (q : LockKind) (hj : j ≠ i) : (s.joinSlot i k h q).lock j = s.lock j :=
  modLock_lock_ne _ _ hj

theorem emptySlot_lock_ne {j : Stn} (k : Fin 6) (hj : j ≠ i) : (s.emptySlot i k).lock j = s.lock j := modLock_lock_ne _ _ hj

/-- What a slot of the list holds, as a panel shows it. -/
def State.shownAt (s : State) (i : Stn) (k : Fin 6) : Option (Nat × LockKind) :=
  ((s.lock i).slots.get k).map fun e => (e.holder, e.kind)

/-- A comparison changes the list only where the panel shows something else. -/
theorem compareSlot_same {x : Fin 6 × Option (Nat × LockKind)} (h : s.shownAt i x.1 = x.2) : State.compareSlot i s x = s := by
  obtain ⟨k, shown⟩ := x
  unfold State.shownAt at h
  unfold State.compareSlot
  dsimp only at h ⊢
  subst h
  cases (s.lock i).slots.get k <;> simp

theorem compareSlot_emptied {k : Fin 6} (h : s.shownAt i k ≠ none) : State.compareSlot i s (k, none) = s.emptySlot i k := by
  unfold State.shownAt at h
  unfold State.compareSlot
  cases held : (s.lock i).slots.get k with
  | none => rw [held] at h; exact absurd rfl h
  | some e => rfl

theorem compareSlot_joined {k : Fin 6} {n : Nat} {q : LockKind} (h : s.shownAt i k ≠ some (n, q)) :
    State.compareSlot i s (k, some (n, q)) = s.joinSlot i k n q := by
  unfold State.shownAt at h
  unfold State.compareSlot
  cases held : (s.lock i).slots.get k with
  | none => rfl
  | some e =>
    rw [held] at h
    exact if_neg fun eq => h (by rw [Option.map_some, eq.1, eq.2])

/-- One comparison, in the slots: the rest of the lockout records stays. -/
theorem compareSlot_lock (x : Fin 6 × Option (Nat × LockKind)) :
    (State.compareSlot i s x).lock i = { s.lock i with slots := comparedSlots s.clock (s.lock i).slots x } := by
  obtain ⟨k, shown⟩ := x
  by_cases same : s.shownAt i k = shown
  · rw [compareSlot_same same, comparedSlots, upd, comparedEntry_unchanged same, Vector.get_eq_getElem, Vector.set_getElem_self]
  · have entry : comparedEntry s.clock ((s.lock i).slots.get k) shown = _ := if_neg same
    rw [comparedSlots, upd, entry]
    cases shown with
    | none => rw [compareSlot_emptied same, emptySlot_lock]; rfl
    | some x => rw [compareSlot_joined same, joinSlot_lock]; rfl

theorem compareSlot_clock (x : Fin 6 × Option (Nat × LockKind)) : (State.compareSlot i s x).clock = s.clock := by
  unfold State.compareSlot
  repeat' split
  all_goals rfl

theorem compareSlot_lock_ne {j : Stn} (x : Fin 6 × Option (Nat × LockKind)) (hj : j ≠ i) :
    (State.compareSlot i s x).lock j = s.lock j := by
  unfold State.compareSlot
  repeat' split
  case h_1 | isTrue => rfl
  case h_2 => exact emptySlot_lock_ne _ hj
  all_goals exact joinSlot_lock_ne _ _ _ hj

/-- The comparisons of a reply, in the slots. -/
theorem foldl_compareSlot_lock (l : List (Fin 6 × Option (Nat × LockKind))) (s : State) :
    (l.foldl (State.compareSlot i) s).lock i =
      { s.lock i with slots := l.foldl (comparedSlots s.clock) (s.lock i).slots } := by
  induction l generalizing s with
  | nil => rfl
  | cons x l ih => rw [List.foldl_cons, ih, compareSlot_lock, compareSlot_clock, List.foldl_cons]

/-- Each of the four key slots is compared with what the reply shows for it, and the console slots stay. -/
theorem comparedFour_get (now : Nat) (v : Vector (Option LockEntry) 6) (a b c d : Option (Nat × LockKind)) :
    ∀ w, w = ([(0, a), (1, b), (2, c), (3, d)] : List (Fin 6 × Option (Nat × LockKind))).foldl (comparedSlots now) v →
      (∀ k : Fin 4, w.get (k.castLE (by omega)) = comparedEntry now (v.get (k.castLE (by omega))) [a, b, c, d][k]!) ∧
      w.get 4 = v.get 4 ∧ w.get 5 = v.get 5 := by
  rintro w rfl
  simp only [List.foldl_cons, List.foldl_nil, comparedSlots, upd_get]
  refine ⟨fun k => ?_, rfl, rfl⟩
  match k with
  | 0 => rfl
  | 1 => rfl
  | 2 => rfl
  | 3 => rfl

end Slots

/-- Settles O47: the reply is four comparisons, each of one slot of its own. -/
theorem keysReplaceThePanelSlots : Obligations.KeysReplaceThePanelSlots := by
  intro s i a b c d k
  dsimp only
  obtain ⟨keys, first, second⟩ := comparedFour_get s.clock (s.lock i).slots a b c d _ rfl
  rw [foldl_compareSlot_lock]
  refine ⟨(congrArg _ (keys k)).trans comparedEntry_shown, fun e he shown => ?_, fun h q shown other => ?_, first, second,
    fun j hj => foldl_kept (·.lock j) (fun t x => compareSlot_lock_ne x hj) _ s⟩
  · refine (keys k).trans ((comparedEntry_unchanged ?_).trans he)
    rw [he, shown, Option.map_some]
  · refine (keys k).trans ?_
    rw [shown]
    exact comparedEntry_joined other

/-! ### Console locks (O46) -/

@[simp] theorem openRequest_lock (s : State) (l : Link) (f : Frame) (i : Stn) : (s.openRequest l f).lock i = s.lock i :=
  lock_modLink ..

@[simp] theorem openRequest_isDisabled (s : State) (l : Link) (f : Frame) (i : Stn) :
    (s.openRequest l f).isDisabled i = s.isDisabled i := by
  rw [State.isDisabled, openRequest_stn]
  rfl

theorem stnOf_range {n : Nat} {i : Stn} (h : stnOf n = some i) : 1 ≤ n ∧ n ≤ 32 := (Option.dite_none_right_eq_some.mp h).1

theorem consoleSlotOf_range {b : Byte} {k : Fin 6} (h : consoleSlotOf b = some k) : b.toNat ≤ 1 := by
  unfold consoleSlotOf at h
  split at h
  · omega
  · omega
  · cases h

theorem lockKindOf_range {b : Byte} {q : LockKind} (h : lockKindOf b = some q) : b.toNat ≤ 1 := by
  unfold lockKindOf at h
  split at h
  · omega
  · omega
  · cases h

/-- The bytes of both requests in range: the holder of a console lock is in 1..9999, its station in 1..32 and its slot C1 or C2 (R150). -/
def ConsoleRange (n c a b : Byte) : Prop :=
  (1 ≤ n.toNat ∧ n.toNat ≤ 32) ∧ c.toNat ≤ 1 ∧ 1 ≤ rd16 a b ∧ rd16 a b ≤ 9999

theorem consoleLockArgs_range {p : List Byte} {x : Stn × Fin 6 × Nat × LockKind} (h : consoleLockArgs p = some x) :
    ∃ n c a b q, p = [n, c, a, b, q] ∧ ConsoleRange n c a b ∧ q.toNat ≤ 1 := by
  unfold consoleLockArgs at h
  split at h
  next n c a b q =>
    split at h
    next hn hc hq =>
      split at h
      next holder =>
        exact ⟨n, c, a, b, q, rfl, ⟨stnOf_range hn, consoleSlotOf_range hc, holder⟩, lockKindOf_range hq⟩
      next => cases h
    next => cases h
  next => cases h

theorem consoleUnlockArgs_range {p : List Byte} {x : Stn × Fin 6 × Nat} (h : consoleUnlockArgs p = some x) :
    ∃ n c a b, p = [n, c, a, b] ∧ ConsoleRange n c a b := by
  unfold consoleUnlockArgs at h
  split at h
  next n c a b =>
    split at h
    next hn hc =>
      split at h
      next holder => exact ⟨n, c, a, b, rfl, stnOf_range hn, consoleSlotOf_range hc, holder⟩
      next => cases h
    next => cases h
  next => cases h

theorem consoleLockArgs_outside {p : List Byte} (h : p.length ≠ 5 ∨ ∃ n c a b q, p = [n, c, a, b, q] ∧
    (n.toNat = 0 ∨ 32 < n.toNat ∨ 1 < c.toNat ∨ rd16 a b = 0 ∨ 9999 < rd16 a b ∨ 1 < q.toNat)) : consoleLockArgs p = none := by
  refine Option.eq_none_iff_forall_ne_some.mpr fun x hx => ?_
  obtain ⟨n, c, a, b, q, rfl, ⟨station, slot, holder⟩, kind⟩ := consoleLockArgs_range hx
  obtain length | ⟨n', c', a', b', q', e, outside⟩ := h
  · exact length rfl
  · cases e
    omega

theorem consoleUnlockArgs_outside {p : List Byte} (h : p.length ≠ 4 ∨ ∃ n c a b, p = [n, c, a, b] ∧
    (n.toNat = 0 ∨ 32 < n.toNat ∨ 1 < c.toNat ∨ rd16 a b = 0 ∨ 9999 < rd16 a b)) : consoleUnlockArgs p = none := by
  refine Option.eq_none_iff_forall_ne_some.mpr fun x hx => ?_
  obtain ⟨n, c, a, b, rfl, station, slot, holder⟩ := consoleUnlockArgs_range hx
  obtain length | ⟨n', c', a', b', e, outside⟩ := h
  · exact length rfl
  · cases e
    omega

section ConsoleRequests
variable {s : State} {f : Frame} {i : Stn} {k : Fin 6} {n : Nat} {q : LockKind}

section Lock
variable (h : Ready s .O f 0x16)
include h

theorem consoleLock_done (ha : consoleLockArgs f.payload = some (i, k, n, q)) (empty : (s.lock i).slots.get k = none)
    (on : s.isDisabled i = false) :
    exec .consoleLock s = .next (requestDone s .O f (fun o => (o.joinSlot i k n q).judgeLockBar i) []) := by
  refine congrArg Host.Outcome.next (takeRequest_done (g := takeConsoleLock) h ?_)
  simp [takeConsoleLock, ha, empty, on]

theorem consoleLock_refused (ha : consoleLockArgs f.payload = some (i, k, n, q))
    (barred : ((s.lock i).slots.get k).isSome = true ∨ s.isDisabled i = true) :
    exec .consoleLock s = .next (requestAnswered s .O f .state []) := by
  refine congrArg Host.Outcome.next (takeRequest_refused (g := takeConsoleLock) h nofun ?_)
  simp only [takeConsoleLock, ha, openRequest_lock, openRequest_isDisabled, Bool.or_eq_true, if_pos barred]

theorem consoleLock_badArg (ha : consoleLockArgs f.payload = none) :
    exec .consoleLock s = .next (requestAnswered s .O f .badArg []) := by
  refine congrArg Host.Outcome.next (takeRequest_refused (g := takeConsoleLock) h nofun ?_)
  simp only [takeConsoleLock, ha]

end Lock

section Unlock
variable {e : LockEntry} (h : Ready s .O f 0x17)
include h

theorem consoleUnlock_done (ha : consoleUnlockArgs f.payload = some (i, k, n)) (he : (s.lock i).slots.get k = some e)
    (named : e.holder = n) :
    exec .consoleUnlock s = .next (requestDone s .O f (fun o => (o.emptySlot i k).judgeLockBar i) []) := by
  refine congrArg Host.Outcome.next (takeRequest_done (g := takeConsoleUnlock) h ?_)
  simp only [takeConsoleUnlock, ha, openRequest_lock, he, if_pos named]

theorem consoleUnlock_refused (ha : consoleUnlockArgs f.payload = some (i, k, n)) (he : (s.lock i).slots.get k = some e)
    (other : e.holder ≠ n) : exec .consoleUnlock s = .next (requestAnswered s .O f .state []) := by
  refine congrArg Host.Outcome.next (takeRequest_refused (g := takeConsoleUnlock) h nofun ?_)
  simp only [takeConsoleUnlock, ha, openRequest_lock, he, if_neg other]

theorem consoleUnlock_noSuch (ha : consoleUnlockArgs f.payload = some (i, k, n)) (empty : (s.lock i).slots.get k = none) :
    exec .consoleUnlock s = .next (requestAnswered s .O f .noSuch []) := by
  refine congrArg Host.Outcome.next (takeRequest_refused (g := takeConsoleUnlock) h nofun ?_)
  simp only [takeConsoleUnlock, ha, openRequest_lock, empty]

theorem consoleUnlock_badArg (ha : consoleUnlockArgs f.payload = none) :
    exec .consoleUnlock s = .next (requestAnswered s .O f .badArg []) := by
  refine congrArg Host.Outcome.next (takeRequest_refused (g := takeConsoleUnlock) h nofun ?_)
  simp only [takeConsoleUnlock, ha]

end Unlock

end ConsoleRequests

/-- Settles O46: each request done and refused, and the slot that it writes. -/
theorem consoleLocksJoinAndLeave : Obligations.ConsoleLocksJoinAndLeave := by
  refine ⟨fun s f i k n q h ha empty on => ⟨consoleLock_done h ha empty on, ?joined⟩, fun s f i k n q => consoleLock_refused,
    fun s f i k n e h ha he => ?unlocked, fun s f i k n => consoleUnlock_noSuch, fun s i k => ?emptied,
    fun s f h outside => consoleLock_badArg h (consoleLockArgs_outside outside),
    fun s f h outside => consoleUnlock_badArg h (consoleUnlockArgs_outside outside)⟩
  case joined => rw [joinSlot_lock, upd_get_same]
  case emptied => rw [emptySlot_lock, upd_get_same]
  case unlocked =>
    split
    next named => exact consoleUnlock_done h ha he named
    next other => exact consoleUnlock_refused h ha he other

/-! ### What a panel visit brings (O58) -/

/-- A payload of KEYS has four slots (R192). -/
theorem keysOf_four {p : List Byte} {ks : List (Option (Nat × LockKind))} (h : keysOf p = some ks) :
    ∃ a b c d, ks = [a, b, c, d] := by
  unfold keysOf at h
  split at h
  · split at h
    · exact ⟨_, _, _, _, (Option.some.inj h).symm⟩
    · cases h
  · cases h

theorem goodKeys_four {s : State} {v : PanelVisit} {b : List Byte} {ks : List (Option (Nat × LockKind))}
    (h : s.goodKeys v b = some ks) : ∃ a b' c d, ks = [a, b', c, d] := by
  unfold State.goodKeys at h
  split at h
  · split at h
    · split at h
      · exact keysOf_four h
      · cases h
    · cases h
  · cases h

section Kept
variable (s : State) (i j : Stn)

theorem judgeRelease_lastGood (r : LockRec) (d rest : Bool) (now w : Nat) :
    (r.judgeRelease d rest now w).lastGood = r.lastGood := by
  unfold LockRec.judgeRelease
  repeat' split
  all_goals rfl

theorem judgeRelease_silence (r : LockRec) (d rest : Bool) (now w : Nat) :
    (r.judgeRelease d rest now w).silence = r.silence := by
  unfold LockRec.judgeRelease
  repeat' split
  all_goals rfl

/-- Judging a station leaves the entries of every station (R146, R155). -/
theorem judgeLock_slots : ((s.judgeLock i).lock j).slots = (s.lock j).slots := by
  by_cases h : j = i
  · subst h
    rw [judgeLock_lock]
    exact judgeRelease_slots ..
  · rw [judgeLock_lock_ne h]

theorem judgeRests_slots : (s.judgeRests.lock j).slots = (s.lock j).slots := by
  refine foldl_kept (fun t => (t.lock j).slots) (fun t i => ?_) allStns s
  unfold State.judgeRest
  split
  · exact judgeLock_slots t i j
  · rfl

theorem settleOnce_slots (force : Bool) (old : State) : ((settleOnce force old s).lock j).slots = (s.lock j).slots :=
  (judgeRests_slots ..).trans (congrArg LockRec.slots (lock_of_facts (by simp) j))

theorem settleMore_slots (n : Nat) : ((settleMore n s).lock j).slots = (s.lock j).slots := by
  induction n generalizing s with
  | zero => rfl
  | succ n ih =>
    unfold settleMore
    split
    · rw [ih, settleOnce_slots]
    · rfl

/-- What follows an event leaves the entries of every station (R149, R150). -/
theorem settle_slots (force : Bool) (old : State) : ((settle force old s).lock j).slots = (s.lock j).slots :=
  (settleMore_slots ..).trans (settleOnce_slots ..)

end Kept

/-- The records of a panel that a good reply leaves, before the judgement (R148, R149). -/
theorem takeKeys_lock (s : State) (i : Stn) (ks : List (Option (Nat × LockKind))) :
    ((s.takeKeys i ks).lock i).known = true ∧ ((s.takeKeys i ks).lock i).lastGood = some s.clock ∧
    ((s.takeKeys i ks).lock i).silence = some (s.clock + 1000 * s.cfg.panelSilence) ∧
    ((s.takeKeys i ks).lock i).slots = (((([0, 1, 2, 3] : List (Fin 6)).zip ks).foldl (State.compareSlot i) s).lock i).slots := by
  have judged (t : State) : (t.judgeLockBar i).lock i = (t.judgeLock i).lock i :=
    congrArg (·.recs.get i) (judgeBar_locks (t.judgeLock i) i)
  unfold State.takeKeys
  dsimp only
  rw [judged, judgeLock_lock, State.judgedRelease, foldl_compareSlot_lock, foldl_compareSlot_lock, modLock_lock_same]
  dsimp only
  rw [judgeRelease_known, judgeRelease_lastGood, judgeRelease_silence, judgeRelease_slots, Nat.mul_comm]
  exact ⟨rfl, rfl, rfl, rfl⟩

section Visit
variable {s : State} {v : PanelVisit} {b : List Byte} {ks : List (Option (Nat × LockKind))}

theorem keys_taken (hv : s.locks.visit = some v) (good : s.goodKeys v b = some ks) (live : s.panelVoid v = false) :
    exec (.keys b) s = .next ((settle false s (s.takeKeys v.station ks)).nextPanel (some v.station)) := by
  simp only [exec, execKeys, State.keysReply, hv, good, live, Bool.false_eq_true, if_false]

theorem keys_void (hv : s.locks.visit = some v) (good : s.goodKeys v b = some ks) (void : s.panelVoid v = true) :
    exec (.keys b) s = .next (s.nextPanel (some v.station)) := by
  simp only [exec, execKeys, State.keysReply, hv, good, void, if_true]

theorem panelReplyMissed_bad (hv : s.locks.visit = some v) (bad : s.goodKeys v b = none) :
    exec (.panelReplyMissed (some b)) s = .next (s.nextPanel (some v.station)) := by
  simp only [exec, execPanelReplyMissed, State.panelMissed, hv, bad, Option.isSome_none, Bool.false_eq_true, if_false]

theorem panelReplyMissed_none (hv : s.locks.visit = some v) (late : v.start + v.timeout ≤ s.clock) :
    exec (.panelReplyMissed none) s = .next (s.nextPanel (some v.station)) := by
  have timeout : s.panelTimeout = true := by
    rw [State.panelTimeout, hv]
    exact decide_eq_true late
  simp only [exec, execPanelReplyMissed, State.panelMissed, hv, timeout, if_true]

end Visit

/-- Settles O58: the reply is taken into the records, and what follows it leaves the slots. -/
theorem panelRepliesComplete : Obligations.PanelRepliesComplete := by
  refine ⟨fun b s v ks hv good live => ?taken, fun b s v ks hv good void => ⟨keys_void hv good void, rfl, rfl⟩,
    fun b s v hv bad => ⟨panelReplyMissed_bad hv bad, rfl, rfl⟩, fun s v => panelReplyMissed_none⟩
  obtain ⟨known, lastGood, silence, slots⟩ := takeKeys_lock s v.station ks
  obtain ⟨a, b', c, d, rfl⟩ := goodKeys_four good
  refine ⟨keys_taken hv good live, known, lastGood, silence, a, b', c, d, rfl, ?_⟩
  rintro _ rfl
  refine ⟨slots, _, keys_taken hv good live, ?_⟩
  rw [lock_of_facts (nextPanel_lockFacts ..), settle_slots]
  exact slots

end Sys2Proof.Machine

/-! # The drive bus: polled replies, visits and misses (O17, O48, O50) -/

namespace Sys2Proof.Machine

/-! ### Numbers of two and four bytes (R187) -/

theorem rd16_u16 {n : Nat} (h : n < 65536) : rd16 (BitVec.ofNat 8 (n / 256)) (BitVec.ofNat 8 n) = n := by
  simp only [rd16, BitVec.toNat_ofNat]
  omega

theorem rd32_u32 {n : Nat} (h : n < 4294967296) :
    rd32 (BitVec.ofNat 8 (n / 16777216)) (BitVec.ofNat 8 (n / 65536)) (BitVec.ofNat 8 (n / 256)) (BitVec.ofNat 8 n) = n := by
  simp only [rd32, BitVec.toNat_ofNat]
  omega

/-- A number below 32768 either way goes as two bytes that read as it. -/
theorem i16_bytes {z : Int} (low : -32768 ≤ z) (high : z ≤ 32767) :
    ∃ a b, i16 z = [a, b] ∧ rdS16 a b = z ∧ (rd16 a b = 32768 ↔ z = -32768) := by
  refine ⟨_, _, rfl, ?_⟩
  have read := rd16_u16 (n := (z % 65536).toNat) (by omega)
  rw [rdS16, read]
  split <;> omega

theorem i32_bytes {z : Int} (low : -2147483648 ≤ z) (high : z ≤ 2147483647) :
    ∃ a b c d, i32 z = [a, b, c, d] ∧ rdS32 a b c d = z := by
  refine ⟨_, _, _, _, rfl, ?_⟩
  have read := rd32_u32 (n := (z % 4294967296).toNat) (by omega)
  rw [rdS32, read]
  split <;> omega

/-! ### The fields of a STATUS payload (R164, R190, R192) -/

theorem verdict_bytes (v : Verdict) : ∃ a b, encVerdict v = [a, b] ∧ verdictOf a b = some v := by
  cases v with
  | none => exact ⟨_, _, rfl, rfl⟩
  | accepted => exact ⟨_, _, rfl, rfl⟩
  | rejected c => cases c <;> exact ⟨_, _, rfl, rfl⟩

theorem phaseOf_code (p : Phase) : phaseOf (BitVec.ofNat 8 p.ctorIdx) = some p := by cases p <;> rfl

theorem pinOf_code (p : Pin) : pinOf (BitVec.ofNat 8 p.ctorIdx) = some p := by cases p <;> rfl

theorem switchOf_code (w : Switch) : switchOf (BitVec.ofNat 8 w.ctorIdx) = some w := by cases w <;> rfl

theorem flag_byte (b : Bool) : ∃ a, encFlag b = [a] ∧ rdFlag a = some b := by cases b <;> exact ⟨_, rfl, rfl⟩

/-- An absent temperature goes as 8000h, which no legal temperature does. -/
theorem temp_bytes {t : Option Int} (legal : ∀ z, t = some z → -32768 < z ∧ z ≤ 32767) :
    ∃ a b, encTemp t = [a, b] ∧ tempOf a b = t := by
  cases t with
  | none => exact ⟨_, _, rfl, if_pos (by decide)⟩
  | some z =>
    obtain ⟨low, high⟩ := legal z rfl
    obtain ⟨a, b, bytes, read, absent⟩ := i16_bytes (le_of_lt low) high
    refine ⟨a, b, bytes, ?_⟩
    rw [tempOf, if_neg (mt absent.1 (by omega)), read]

theorem axis_bytes {x : AxisStatus} (legal : x.legal) :
    ∃ p q r t ph f, encAxisStatus x = [p, q, r, t, ph, f] ∧ axisStatusOf p q r t ph f = some x := by
  obtain ⟨low, high, fault⟩ := legal
  obtain ⟨p, q, r, t, bytes, read⟩ := i32_bytes (z := x.pos) (by omega) (by omega)
  refine ⟨p, q, r, t, _, _, by rw [encAxisStatus, bytes]; rfl, ?_⟩
  have position : positionOf p q r t = some x.pos := by
    rw [positionOf, read]
    exact if_pos ⟨low, high⟩
  have code : (BitVec.ofNat 8 x.fault).toNat = x.fault := by
    rw [BitVec.toNat_ofNat]
    omega
  simp only [axisStatusOf, position, phaseOf_code, code]

theorem statusOf_encStatus (v : Verdict) {st : CabStatus} (legal : st.legal) : statusOf (encStatus v st) = some (v, st) := by
  obtain ⟨azLegal, elLegal, tempLegal⟩ := legal
  obtain ⟨_, _, verdictBytes, verdict⟩ := verdict_bytes v
  obtain ⟨_, _, _, _, _, _, azBytes, az⟩ := axis_bytes azLegal
  obtain ⟨_, _, _, _, _, _, elBytes, el⟩ := axis_bytes elLegal
  obtain ⟨_, closedByte, closed⟩ := flag_byte st.closed
  obtain ⟨_, _, tempBytes, temp⟩ := temp_bytes tempLegal
  rw [encStatus, verdictBytes, azBytes, elBytes, closedByte, tempBytes]
  simp only [u8, List.cons_append, List.nil_append, statusOf, verdict, az, el, pinOf_code, switchOf_code, closed, temp]

theorem encStatus_length (v : Verdict) {st : CabStatus} (legal : st.legal) : (encStatus v st).length = 19 := by
  obtain ⟨azLegal, elLegal, tempLegal⟩ := legal
  obtain ⟨_, _, verdictBytes, -⟩ := verdict_bytes v
  obtain ⟨_, _, _, _, _, _, azBytes, -⟩ := axis_bytes azLegal
  obtain ⟨_, _, _, _, _, _, elBytes, -⟩ := axis_bytes elLegal
  obtain ⟨_, closedByte, -⟩ := flag_byte st.closed
  obtain ⟨_, _, tempBytes, -⟩ := temp_bytes tempLegal
  rw [encStatus, verdictBytes, azBytes, elBytes, closedByte, tempBytes]
  rfl

/-! ### Frames of polled replies (R164, R173, R187, R188) -/

/-- A candidate of the length that LEN says, with its own check behind it, is a frame, and nothing is left. -/
theorem collect_checked {len k t c d : Byte} {p : List Byte} (length : len.toNat = p.length + 2)
    (check : [c, d] = u16 (frameCheck (len :: k :: t :: p)).toNat) :
    collect len (k :: t :: p ++ [c, d]) = some (some { kind := k, tag := t, payload := p }, []) := by
  have whole : len.toNat = (k :: t :: p).length := length
  have checked : checkMatches (len :: k :: t :: p) [c, d] = true := decide_eq_true check
  simp only [collect, whole, List.take_left, List.drop_left]
  simp [checked]

/-- A frame of the bus is read back from its bytes. -/
theorem polledFrame_bytes {f : Frame} (short : f.payload.length ≤ 248) : polledFrame f.bytes = some f := by
  have length : (BitVec.ofNat 8 (f.payload.length + 2)).toNat = f.payload.length + 2 := by
    rw [BitVec.toNat_ofNat]
    omega
  have len : lenOk (BitVec.ofNat 8 (f.payload.length + 2)) = true := by
    rw [lenOk, length]
    simpa using short
  have taken := collect_checked (k := f.kind) (t := f.tag) (p := f.payload) length rfl
  rw [Frame.bytes]
  simp only [polledFrame, List.cons_append, len, and_self, if_true, u16]
  simp only [List.cons_append] at taken
  rw [taken]

/-- The frame of a STATUS reply is good at the visit that it answers (R164). -/
theorem goodStatus_encStatus {s : State} {v : BusVisit} {o : Outstanding} {vd : Verdict} {st : CabStatus}
    (inTime : s.clock ≤ v.start + v.timeout) (sent : (s.cab v.station).outstanding = some o)
    (suits : verdictSuits o.cmd vd = true) (legal : st.legal) :
    s.goodStatus v
      (Frame.bytes { kind := kindStatus, tag := BitVec.ofNat 8 (v.station.val + 1), payload := encStatus vd st }) =
      some (st, { cmd := o.cmd, verdict := vd }) := by
  have short : (encStatus vd st).length ≤ 248 := by
    rw [encStatus_length vd legal]
    decide
  have tag : (BitVec.ofNat 8 (v.station.val + 1)).toNat = v.station.val + 1 := by
    rw [BitVec.toNat_ofNat]
    omega
  rw [State.goodStatus, if_pos inTime, polledFrame_bytes short]
  simp only [tag, and_self, if_true, statusOf_encStatus vd legal, sent, suits]

/-! ### The slots of a KEYS payload (R148, R192) -/

theorem lockKindOf_code (q : LockKind) : lockKindOf (BitVec.ofNat 8 q.ctorIdx) = some q := by cases q <;> rfl

theorem key_bytes {k : Option (Nat × LockKind)} (legal : keyLegal k) :
    ∃ a b c, encKey k = [a, b, c] ∧ keySlotOf a b c = some k := by
  cases k with
  | none => exact ⟨0, 0, 0, rfl, by simp [keySlotOf, rd16]⟩
  | some x =>
    obtain ⟨h, q⟩ := x
    obtain ⟨low, high⟩ := legal h q rfl
    refine ⟨_, _, _, rfl, ?_⟩
    simp only [keySlotOf]
    rw [rd16_u16 (by omega), if_neg (by omega), if_pos high, lockKindOf_code]
    rfl

theorem keysOf_encKey {a b c d : Option (Nat × LockKind)} (la : keyLegal a) (lb : keyLegal b) (lc : keyLegal c) (ld : keyLegal d) :
    keysOf (encKey a ++ encKey b ++ encKey c ++ encKey d) = some [a, b, c, d] := by
  obtain ⟨_, _, _, bytesA, readA⟩ := key_bytes la
  obtain ⟨_, _, _, bytesB, readB⟩ := key_bytes lb
  obtain ⟨_, _, _, bytesC, readC⟩ := key_bytes lc
  obtain ⟨_, _, _, bytesD, readD⟩ := key_bytes ld
  rw [bytesA, bytesB, bytesC, bytesD]
  simp only [List.cons_append, List.nil_append, keysOf, readA, readB, readC, readD]

/-- Settles O17: the frame is read back whole, and each field of its payload from its own bytes. -/
theorem polledRepliesReadBack : Obligations.PolledRepliesReadBack :=
  ⟨fun _ _ _ _ _ inTime sent suits legal => goodStatus_encStatus inTime sent suits legal,
    fun _ _ _ _ la lb lc ld => keysOf_encKey la lb lc ld⟩

/-! ### What a visit sends (R160, R161) -/

section Choice
variable {k : Cabinet} {free : Bool}

/-- A MOVE goes only to a FREE station whose axes rest. -/
theorem moveToSend_some {c : Sent} (h : k.moveToSend free = some c) :
    ∃ m, k.motion = some (.move m) ∧ c = .motion (.move m) ∧ free = true ∧ k.atRest = true := by
  unfold Cabinet.moveToSend at h
  split at h
  case h_1 m slot =>
    split at h
    case isTrue ready =>
      obtain ⟨isFree, atRest⟩ := Bool.and_eq_true_iff.1 ready
      exact ⟨m, slot, (Option.some.inj h).symm, isFree, atRest⟩
    case isFalse => cases h
  case h_2 => cases h

theorem moveToSend_none (h : k.motion = none ∨ free = false ∨ k.atRest = false) : k.moveToSend free = none := by
  cases sent : k.moveToSend free with
  | none => rfl
  | some c =>
    obtain ⟨m, slot, -, isFree, atRest⟩ := moveToSend_some sent
    simp [slot, isFree, atRest] at h

theorem moveToSend_ready {m : Move} (slot : k.motion = some (.move m)) (isFree : free = true) (atRest : k.atRest = true) :
    k.moveToSend free = some (.motion (.move m)) := by
  simp only [Cabinet.moveToSend, slot, isFree, atRest, Bool.and_self, if_true]

/-- A pin command goes only to a FREE station. -/
theorem pinToSend_some {c : Sent} (h : k.pinToSend free = some c) : ∃ p, k.pin = some p ∧ c = .pin p ∧ free = true := by
  unfold Cabinet.pinToSend at h
  split at h
  case h_1 p slot =>
    split at h
    case isTrue isFree => exact ⟨p, slot, (Option.some.inj h).symm, isFree⟩
    case isFalse => cases h
  case h_2 => cases h

theorem pinToSend_none (h : k.pin = none ∨ free = false) : k.pinToSend free = none := by
  cases sent : k.pinToSend free with
  | none => rfl
  | some c =>
    obtain ⟨p, slot, -, isFree⟩ := pinToSend_some sent
    simp [slot, isFree] at h

theorem pinToSend_ready {p : PinCmd} (slot : k.pin = some p) (isFree : free = true) : k.pinToSend free = some (.pin p) := by
  simp only [Cabinet.pinToSend, slot, isFree, if_true]

theorem choose_stop (stop : k.motion = some .stop) : k.choose free = .motion .stop := if_pos stop

theorem choose_heatOff (noStop : k.motion ≠ some .stop) (off : k.heat = some .heatOff) : k.choose free = .heat .heatOff := by
  rw [Cabinet.choose, if_neg noStop, if_pos off]

theorem choose_brake (brake : k.motion = some .brake) (noOff : k.heat ≠ some .heatOff) : k.choose free = .motion .brake := by
  rw [Cabinet.choose, if_neg (by simp [brake]), if_neg noOff, if_pos brake]

/-- Without STOP, HEAT_OFF and BRAKE, the MOVE goes before the pin command, and that before HEAT_ON. -/
theorem choose_below (noStop : k.motion ≠ some .stop) (noOff : k.heat ≠ some .heatOff) (noBrake : k.motion ≠ some .brake) :
    k.choose free = (k.moveToSend free).getD
      ((k.pinToSend free).getD (if k.heat = some .heatOn then .heat .heatOn else .poll)) := by
  rw [Cabinet.choose, if_neg noStop, if_neg noOff, if_neg noBrake]
  cases k.moveToSend free with
  | some c => rfl
  | none => cases k.pinToSend free <;> rfl

/-- What goes is STOP, HEAT_OFF or BRAKE, the MOVE or the pin command that is not passed over, HEAT_ON or POLL. -/
theorem choose_cases (k : Cabinet) (free : Bool) :
    k.choose free ∈ ([.motion .stop, .heat .heatOff, .motion .brake, .heat .heatOn, .poll] : List Sent) ∨
      k.moveToSend free = some (k.choose free) ∨ k.pinToSend free = some (k.choose free) := by
  by_cases stop : k.motion = some .stop
  · simp [choose_stop stop]
  by_cases off : k.heat = some .heatOff
  · simp [choose_heatOff stop off]
  by_cases brake : k.motion = some .brake
  · simp [choose_brake brake off]
  rw [choose_below stop off brake]
  cases k.moveToSend free with
  | some c => exact .inr (.inl rfl)
  | none =>
    cases k.pinToSend free with
    | some c => exact .inr (.inr rfl)
    | none => by_cases on : k.heat = some .heatOn <;> simp [on]

theorem choose_move_ready {m : Move} (h : k.choose free = .motion (.move m)) : free = true ∧ k.atRest = true := by
  rcases choose_cases k free with other | move | pin
  · simp [h] at other
  · obtain ⟨-, -, -, ready⟩ := moveToSend_some move
    exact ready
  · obtain ⟨p, -, eq, -⟩ := pinToSend_some pin
    cases h.symm.trans eq

theorem choose_pin_ready {c : PinCmd} (h : k.choose free = .pin c) : free = true := by
  rcases choose_cases k free with other | move | pin
  · simp [h] at other
  · obtain ⟨m, -, eq, -⟩ := moveToSend_some move
    cases h.symm.trans eq
  · obtain ⟨-, -, -, isFree⟩ := pinToSend_some pin
    exact isFree

/-- The order of R161 in a cabinet. -/
theorem choose_order (k : Cabinet) (free : Bool) :
    (k.motion = some .stop → k.choose free = .motion .stop) ∧
    (k.motion ≠ some .stop → k.heat = some .heatOff → k.choose free = .heat .heatOff) ∧
    (k.motion = some .brake → k.heat ≠ some .heatOff → k.choose free = .motion .brake) ∧
    (∀ m, k.motion = some (.move m) → k.heat ≠ some .heatOff → free = true → k.atRest = true →
      k.choose free = .motion (.move m)) ∧
    (k.motion ≠ some .stop → k.motion ≠ some .brake → k.heat ≠ some .heatOff →
      (k.motion = none ∨ free = false ∨ k.atRest = false) →
      (∀ c, k.pin = some c → free = true → k.choose free = .pin c) ∧
      (k.pin = none ∨ free = false → k.choose free = if k.heat = some .heatOn then .heat .heatOn else .poll)) := by
  refine ⟨choose_stop, choose_heatOff, choose_brake, fun m slot noOff isFree atRest => ?move,
    fun noStop noBrake noOff noMove => ⟨fun c slot isFree => ?pin, fun noPin => ?rest⟩⟩
  case move => rw [choose_below (by simp [slot]) noOff (by simp [slot]), moveToSend_ready slot isFree atRest, Option.getD_some]
  case pin =>
    rw [choose_below noStop noOff noBrake, moveToSend_none noMove, pinToSend_ready slot isFree, Option.getD_none, Option.getD_some]
  case rest =>
    rw [choose_below noStop noOff noBrake, moveToSend_none noMove, pinToSend_none noPin, Option.getD_none, Option.getD_none]

theorem unslot_slots (k : Cabinet) (c : Sent) :
    (k.unslot c).motion = (if c.isMotion then none else k.motion) ∧ (k.unslot c).pin = (if c.isPin then none else k.pin) ∧
      (k.unslot c).heat = (if c.isHeat then none else k.heat) := by
  cases c <;> exact ⟨rfl, rfl, rfl⟩

end Choice

/-- What a visit to a station sends: only POLL to an UNKNOWN or LOST one (R161). -/
def State.sends (s : State) (i : Stn) : Sent := if s.pollOnly i then .poll else (s.cab i).choose (s.isFree i)

theorem sends_poll {s : State} {i : Stn} (h : s.pollOnly i = true) : s.sends i = .poll := if_pos h

theorem sends_choice {s : State} {i : Stn} (h : s.pollOnly i = false) : s.sends i = (s.cab i).choose (s.isFree i) := by
  simp only [State.sends, h, Bool.false_eq_true, if_false]

theorem sends_move_ready {s : State} {i : Stn} {m : Move} (h : s.sends i = .motion (.move m)) :
    s.isFree i = true ∧ (s.cab i).atRest = true := by
  cases only : s.pollOnly i with
  | true => cases (sends_poll only).symm.trans h
  | false => exact choose_move_ready ((sends_choice only).symm.trans h)

theorem sends_pin_ready {s : State} {i : Stn} {c : PinCmd} (h : s.sends i = .pin c) : s.isFree i = true := by
  cases only : s.pollOnly i with
  | true => cases (sends_poll only).symm.trans h
  | false => exact choose_pin_ready ((sends_choice only).symm.trans h)

/-- A visit takes what it sends out of its slot, and leaves it outstanding with its mark set (R160). -/
theorem beginVisit_cab (s : State) (i : Stn) : (s.beginVisit i).cab i =
    { (s.cab i).unslot (s.sends i) with outstanding := some { cmd := s.sends i, mark := true } } :=
  modCab_cab_same s i fun k => { k.unslot (s.sends i) with outstanding := some { cmd := s.sends i, mark := true } }

theorem beginVisit_cab_ne (s : State) {i j : Stn} (h : j ≠ i) : (s.beginVisit i).cab j = s.cab j :=
  modCab_cab_ne s (fun k => { k.unslot (s.sends i) with outstanding := some { cmd := s.sends i, mark := true } }) h

/-- Settles O48: a visit sends what the order of R161 chooses from the slots. -/
theorem visitSendsByTheOrder : Obligations.VisitSendsByTheOrder := by
  intro s i
  obtain ⟨motion, pin, heat⟩ := unslot_slots (s.cab i) (s.sends i)
  rw [beginVisit_cab]
  refine ⟨_, rfl, rfl, fun _ => sends_move_ready, fun _ => sends_pin_ready, sends_poll, fun live => ?order, motion, pin, heat, rfl,
    fun j => beginVisit_cab_ne s, fun j => rfl⟩
  rw [sends_choice live]
  exact choose_order (s.cab i) (s.isFree i)

/-! ### Misses (R164, R166) -/

section Missed
variable {s : State} {v : BusVisit}

theorem missVisit_live (live : s.visitVoid v = false) : s.missVisit v = (settle false s (s.miss v.station)).endVisit v := by
  simp only [State.missVisit, live, Bool.false_eq_true, if_false]

theorem missVisit_void (void : s.visitVoid v = true) : s.missVisit v = (s.dropOutstanding v.station).endVisit v := by
  simp only [State.missVisit, void, if_true]

theorem badReply_missed {b : List Byte} (visit : s.bus.visit = some v) (bad : s.goodStatus v b = none) :
    exec (.badReply b) s = .next (s.missVisit v) := by
  simp only [exec, execBadReply, State.badReply, visit, bad, Option.isSome_none, Bool.false_eq_true, if_false]

theorem replyTimeoutExpiry_missed (visit : s.bus.visit = some v) (late : v.start + v.timeout ≤ s.clock) :
    exec .replyTimeoutExpiry s = .next (s.missVisit v) := by
  have timeout : s.busTimeout = true := by
    rw [State.busTimeout, visit]
    exact decide_eq_true late
  simp only [exec, execReplyTimeoutExpiry, State.replyTimeout, visit, timeout, if_true]

end Missed

/-! ### The return of the outstanding command (R166) -/

section Restore
variable {k : Cabinet} {m : Bool}

@[simp] theorem restore_outstanding (k : Cabinet) : k.restore.outstanding = none := by
  unfold Cabinet.restore
  dsimp only
  repeat' split
  all_goals rfl

/-- What returns to a slot: the command, if its mark is set and the slot is empty. -/
def returned {α : Type} (slot : Option α) (mark : Bool) (c : α) : Option α := if mark then slot.or (some c) else slot

theorem returned_marked {α : Type} {slot : Option α} {c : α} (mark : m = true) (empty : slot = none) : returned slot m c = some c := by
  rw [returned, if_pos mark, empty, Option.none_or]

theorem returned_stays {α : Type} {slot : Option α} {c : α} (h : m = false ∨ slot ≠ none) : returned slot m c = slot := by
  cases m with
  | false => rfl
  | true =>
    obtain ⟨d, rfl⟩ := Option.ne_none_iff_exists'.1 (h.resolve_left (by decide))
    rfl

theorem restore_motion {c : MotionCmd} (sent : k.outstanding = some { cmd := .motion c, mark := m }) :
    k.restore = { k with outstanding := none, motion := returned k.motion m c } := by
  cases m <;> cases slot : k.motion <;> simp [Cabinet.restore, sent, slot, returned]

theorem restore_pin {c : PinCmd} (sent : k.outstanding = some { cmd := .pin c, mark := m }) :
    k.restore = { k with outstanding := none, pin := returned k.pin m c } := by
  cases m <;> cases slot : k.pin <;> simp [Cabinet.restore, sent, slot, returned]

theorem restore_heat {c : HeatCmd} (sent : k.outstanding = some { cmd := .heat c, mark := m }) :
    k.restore = { k with outstanding := none, heat := returned k.heat m c } := by
  cases m <;> cases slot : k.heat <;> simp [Cabinet.restore, sent, slot, returned]

end Restore

/-! ### Misses counted, and the loss that follows (R166, R167) -/

/-- A miss that has been counted, before the judgement of the loss. -/
def State.missed (s : State) (i : Stn) : State :=
  (s.modCab i fun k => { k.restore with misses := min maxMisses (k.misses + 1) }).modStnStats i
    fun t => { t with misses := bump t.misses }

section Miss
variable (s : State) (i : Stn)

theorem missed_cab : (s.missed i).cab i = { (s.cab i).restore with misses := min 15 ((s.cab i).misses + 1) } :=
  modCab_cab_same s i fun k => { k.restore with misses := min maxMisses (k.misses + 1) }

theorem missed_stats :
    (s.missed i).stats.stn.get i = { s.stats.stn.get i with misses := bump (s.stats.stn.get i).misses } :=
  modStnStats_same (s.modCab i _) i _

theorem judgeLoss_stays {s : State} {i : Stn}
    (h : (s.cab i).misses < s.cfg.missLimit ∨ (s.stn i).motion = .lost ∨ (s.stn i).motion = .disabled) : s.judgeLoss i = s :=
  if_neg fun ⟨reached, notLost, notDisabled⟩ => h.elim (fun below => absurd reached (by omega)) (Or.elim · notLost notDisabled)

theorem judgeLoss_reached {s : State} {i : Stn} (reached : s.cfg.missLimit ≤ (s.cab i).misses) (notLost : (s.stn i).motion ≠ .lost)
    (notDisabled : (s.stn i).motion ≠ .disabled) : s.judgeLoss i = s.lose i := if_pos ⟨reached, notLost, notDisabled⟩

theorem miss_of_below (below : (s.cab i).misses + 1 < s.cfg.missLimit) : s.miss i = s.missed i := by
  have counted : ((s.missed i).cab i).misses < s.cfg.missLimit := by
    rw [missed_cab]
    exact lt_of_le_of_lt (Nat.min_le_right ..) below
  exact judgeLoss_stays (s := s.missed i) (.inl counted)

theorem miss_of_limit (limit : s.cfg.missLimit ≤ min 15 ((s.cab i).misses + 1)) (notLost : (s.stn i).motion ≠ .lost)
    (notDisabled : (s.stn i).motion ≠ .disabled) : s.miss i = (s.missed i).lose i := by
  have reached : s.cfg.missLimit ≤ ((s.missed i).cab i).misses := by rwa [missed_cab]
  exact judgeLoss_reached (s := s.missed i) reached notLost notDisabled

theorem miss_of_apart (h : (s.stn i).motion = .lost ∨ (s.stn i).motion = .disabled) : s.miss i = s.missed i :=
  judgeLoss_stays (s := s.missed i) (.inr h)

/-- An outcome counts no miss and no loss. -/
theorem giveOutcome_missStats (o : MoveOutcome) :
    ((s.giveOutcome i o).stats.stn.get i).misses = (s.stats.stn.get i).misses ∧
      ((s.giveOutcome i o).stats.stn.get i).losses = (s.stats.stn.get i).losses := by
  cases owner : (s.stn i).owner with
  | none => simp only [State.giveOutcome, owner, and_self]
  | some w =>
    rw [giveOutcome_stats o owner, countOutcome]
    split <;> exact ⟨rfl, rfl⟩

theorem leaveStowed_stats (r : Reason) : (s.leaveStowed i r).stats = s.stats := by
  unfold State.leaveStowed
  split <;> rfl

theorem judgeLock_stats_of_condition {s : State} {i : Stn} (h : (s.stn i).motion.isCondition = true) :
    (s.judgeLock i).stats = s.stats := by
  unfold State.judgeLock
  dsimp only
  rw [setLockStatus_of_condition (s := s.modLock i _) h]
  split
  · rfl
  · exact noticeBoth_stats ..

theorem frozen_stats : (s.frozen i).stats = (s.released i).stats := by
  have lost (t : State) : (t.loseHeat i).stats = t.stats := rfl
  have froze (t : State) : (t.freezeGrants i).stats = t.stats := rfl
  rw [State.frozen, lost, froze]

theorem lose_stats_eq : (s.lose i).stats = (s.released i).stats := by
  obtain ⟨-, -, -, -, -, -, -, -, stats, -⟩ := setMotion_rest (s.frozen i) i .lost
  rw [lose_eq, judgeLock_stats_of_condition (lost_isCondition s i), stats, frozen_stats]

/-- A loss counts once for its station, and no miss with it. -/
theorem lose_missStats : ((s.lose i).stats.stn.get i).misses = (s.stats.stn.get i).misses ∧
    ((s.lose i).stats.stn.get i).losses = bump (s.stats.stn.get i).losses := by
  have counted : (((s.emptySlots i).modStnStats i fun t => { t with losses := bump t.losses }).leaveStowed i .lost).stats.stn.get i =
      { s.stats.stn.get i with losses := bump (s.stats.stn.get i).losses } := by
    rw [leaveStowed_stats]
    exact modStnStats_same (s.emptySlots i) i _
  obtain ⟨misses, losses⟩ := giveOutcome_missStats
    ((((s.emptySlots i).modStnStats i fun t => { t with losses := bump t.losses }).leaveStowed i .lost).leaveMotion i) i .lost
  rw [lose_stats_eq, State.released, misses, losses, leaveMotion_stats, counted]
  exact ⟨rfl, rfl⟩

/-- A loss leaves the count of misses, and leaves no command outstanding where none was. -/
theorem lose_poll (nothing : (s.cab i).outstanding = none) :
    ((s.lose i).cab i).misses = (s.cab i).misses ∧ ((s.lose i).cab i).outstanding = none := by
  have poll := poll_of_view (lose_view s i)
  simp only [Cabinet.poll, nothing, Option.isSome_none, Prod.mk.injEq, Option.isSome_eq_false_iff, Option.isNone_iff_eq_none] at poll
  obtain ⟨-, misses, outstanding, -⟩ := poll
  exact ⟨misses, outstanding⟩

/-- The loss that a counted miss brings: the station is LOST with empty slots, and the miss and the loss both count. -/
theorem missed_lose :
    (((s.missed i).lose i).stn i).motion = .lost ∧ (((s.missed i).lose i).stn i).owner = none ∧
    (((s.missed i).lose i).cab i).motion = none ∧ (((s.missed i).lose i).cab i).pin = none ∧
    (((s.missed i).lose i).cab i).heat = none ∧ (((s.missed i).lose i).cab i).outstanding = none ∧
    (((s.missed i).lose i).cab i).misses = min 15 ((s.cab i).misses + 1) ∧
    (((s.missed i).lose i).stats.stn.get i).losses = bump (s.stats.stn.get i).losses ∧
    (((s.missed i).lose i).stats.stn.get i).misses = bump (s.stats.stn.get i).misses := by
  obtain ⟨motion, owner⟩ := lose_stn (s.missed i) i
  obtain ⟨noMotion, noPin, noHeat⟩ := lose_slots (s.missed i) i
  obtain ⟨misses, outstanding⟩ := lose_poll (s.missed i) i (by rw [missed_cab, restore_outstanding])
  obtain ⟨missStat, lossStat⟩ := lose_missStats (s.missed i) i
  rw [missed_cab] at misses
  rw [missed_stats] at missStat lossStat
  exact ⟨motion, owner, noMotion, noPin, noHeat, outstanding, misses, lossStat, missStat⟩

end Miss

/-- Settles O50: a visit without a good reply is a miss; the miss restores the cabinet, counts, and is judged against MISS_LIMIT. -/
theorem missesCountAndReturn : Obligations.MissesCountAndReturn := by
  refine ⟨fun b s v visit bad live => ?badReply, fun s v visit late live => ?timeout, fun k c m sent => ?motion,
    fun s i below => ?counted, fun k c m sent => ?pin, fun k c m sent => ?heat, fun s i limit notLost notDisabled => ?lost,
    fun s i apart => ?apart, fun b s v visit bad void => ?badReplyVoid, fun s v visit late void => ?timeoutVoid⟩
  case badReply => rw [badReply_missed visit bad, missVisit_live live]
  case timeout => rw [replyTimeoutExpiry_missed visit late, missVisit_live live]
  case motion =>
    rw [restore_motion sent]
    exact ⟨rfl, returned_marked, returned_stays⟩
  case counted =>
    rw [miss_of_below s i below, missed_cab, missed_stats]
    exact ⟨rfl, rfl, rfl⟩
  case pin =>
    rw [restore_pin sent]
    exact ⟨rfl, returned_marked, returned_stays, rfl, rfl⟩
  case heat =>
    rw [restore_heat sent]
    exact ⟨rfl, returned_marked, returned_stays, rfl, rfl⟩
  case lost =>
    rw [miss_of_limit s i limit notLost notDisabled]
    exact missed_lose s i
  case apart =>
    rw [miss_of_apart s i apart]
    rfl
  case badReplyVoid => rw [badReply_missed visit bad, missVisit_void void]
  case timeoutVoid => rw [replyTimeoutExpiry_missed visit late, missVisit_void void]

end Sys2Proof.Machine

/-! # Counters and desks (O6, O12)

A counter that counts stays at 65535 (R184), so how far each counter stands above 16 bits never changes but where it is cleared. With
that excess a `Tally` holds, of either control link, its `Desk`: the requests in its FIFO and the replies on their way out, which no
block but the link itself touches (R176). Each operation of the model keeps the tally, said once per operation in the order of the
model's files. -/

namespace Sys2Proof.Machine

/-! ### How far counters stand above 16 bits (R184) -/

/-- How far a counter stands above 16 bits. -/
def above16 (n : Nat) : Nat := n - 65535

theorem fits16_iff (n : Nat) : fits16 n ↔ above16 n = 0 := by unfold fits16 above16; omega

/-- Counting takes no counter above 16 bits, and none further above. -/
@[simp] theorem above16_bump (n : Nat) : above16 (bump n) = above16 n := by
  unfold above16 bump
  split <;> omega

def StnStats.above (t : StnStats) : StnStats where
  arrivals := above16 t.arrivals
  otherEndings := above16 t.otherEndings
  stows := above16 t.stows
  onPhases := above16 t.onPhases
  cuts := above16 t.cuts
  misses := above16 t.misses
  lockouts := above16 t.lockouts
  losses := above16 t.losses

def LineStats.above (t : LineStats) : LineStats where
  good := above16 t.good
  bad := above16 t.bad
  dropped := above16 t.dropped
  reports := above16 t.reports

/-- How far the counters of the statistics block stand above 16 bits. -/
structure Excess where
  stn : Stn → StnStats
  admissions : Nat
  sheds : Nat
  deficits : Nat
  lineS : LineStats
  lineO : LineStats
  site : LineStats

def Stats.above (t : Stats) : Excess where
  stn i := (t.stn.get i).above
  admissions := above16 t.admissions
  sheds := above16 t.sheds
  deficits := above16 t.deficits
  lineS := t.lineS.above
  lineO := t.lineO.above
  site := t.site.above

@[simp] theorem StnStats.above_mk (a b c d e f g h : Nat) : StnStats.above ⟨a, b, c, d, e, f, g, h⟩ =
    ⟨above16 a, above16 b, above16 c, above16 d, above16 e, above16 f, above16 g, above16 h⟩ := rfl

@[simp] theorem StnStats.above_eta (t : StnStats) :
    StnStats.mk (above16 t.arrivals) (above16 t.otherEndings) (above16 t.stows) (above16 t.onPhases) (above16 t.cuts)
      (above16 t.misses) (above16 t.lockouts) (above16 t.losses) = t.above := rfl

theorem StnStats.small_iff (t : StnStats) : t.small ↔ t.above = StnStats.reset := by
  unfold StnStats.small StnStats.above StnStats.reset
  simp only [fits16_iff, StnStats.mk.injEq]

theorem LineStats.small_iff (t : LineStats) : t.small ↔ t.above = LineStats.reset := by
  simp [LineStats.small, LineStats.above, LineStats.reset, fits16_iff]

/-- The rule on counters says that none stands above 16 bits. -/
theorem counterRule_iff (s : State) : CounterRule s ↔
    s.stats.above = ⟨fun _ => StnStats.reset, 0, 0, 0, LineStats.reset, LineStats.reset, LineStats.reset⟩ := by
  simp [CounterRule, Stats.above, StnStats.small_iff, LineStats.small_iff, fits16_iff, funext_iff]

/-- The counters of a station are rewritten by counting. -/
theorem above_updStn (t : Stats) (i : Stn) {f : StnStats → StnStats} (hf : ∀ c, (f c).above = c.above) :
    Stats.above { t with stn := upd t.stn i f } = t.above := by
  have each (j : Stn) : ((upd t.stn i f).get j).above = (t.stn.get j).above := by
    rw [upd_get]
    split
    · exact hf _
    · rfl
  simp only [Stats.above, each]

/-- An outcome counts as an arrival or as another ending (R4). -/
@[simp] theorem countOutcome_above (o : MoveOutcome) (t : StnStats) : (countOutcome o t).above = t.above := by
  unfold countOutcome
  split <;> simp

/-! ### The desk of a control link (R174 to R179) -/

/-- What requests and their replies occupy of a control link: the FIFO, and the replies that wait or are being sent. -/
structure Desk where
  fifo : List Frame
  replies : List Frame

def LinkState.desk (k : LinkState) : Desk := ⟨k.fifo, k.outgoing.filter Frame.isReply⟩

namespace LinkState
variable (k : LinkState) {f : Frame}

/-- A frame other than a reply that is placed leaves the desk. -/
theorem placeTail_desk (other : f.isReply = false) : (k.placeTail f).desk = k.desk := by
  cases hs : k.sending <;> simp [desk, placeTail, outgoing, hs, other, List.filter_cons]

theorem placeHead_desk (other : f.isReply = false) : (k.placeHead f).desk = k.desk := by
  cases hs : k.sending <;> simp [desk, placeHead, outgoing, hs, other, List.filter_cons]

/-- Frames other than replies that are taken out of the transmit order leave the desk. -/
theorem filterOrder_desk {p : Frame → Bool} (hp : ∀ f, f.isReply = true → p f = true) (b : Bool) :
    desk { k with paused := b, order := k.order.filter p } = k.desk := by
  have replies (l : List Frame) : (l.filter p).filter Frame.isReply = l.filter Frame.isReply := by
    rw [List.filter_filter]
    refine List.filter_congr fun f _ => ?_
    cases hf : f.isReply <;> simp [hp, hf]
  simp only [desk, outgoing, List.filter_append, replies]

/-- PAUSE, GO and NOTICE are no replies (R175, R179). -/
@[simp] theorem judgePause_desk (n : Nat) : (k.judgePause n).desk = k.desk := by
  unfold judgePause
  split
  · rw [placeHead_desk _ rfl]
    refine filterOrder_desk k (fun f hf => ?_) true
    simp [Frame.isGo, eq_of_beq hf, kindReply, kindGo]
  · rfl

@[simp] theorem judgeGo_desk (n : Nat) : (k.judgeGo n).desk = k.desk := by
  unfold judgeGo
  split
  · split
    · refine filterOrder_desk k (fun f hf => ?_) false
      simp [Frame.isPause, eq_of_beq hf, kindReply, kindPause]
    · exact placeHead_desk { k with paused := false } rfl
  · rfl

@[simp] theorem produceNotice_desk (now : Nat) : (k.produceNotice now).desk = k.desk := by
  unfold produceNotice
  dsimp only
  split
  · have replies (l : List Frame) :
        (l.map fun f => if f.isNotice then noticeFrame k.flags now else f).filter Frame.isReply = l.filter Frame.isReply := by
      induction l with
      | nil => rfl
      | cons f l ih =>
        rw [List.map_cons, List.filter_cons, List.filter_cons, ih]
        cases hn : f.isNotice with
        | false => rfl
        | true => simp [Frame.isReply, eq_of_beq hn, noticeFrame, kindNotice, kindReply]
    simp only [desk, outgoing, List.filter_append, replies]
  · exact k.placeTail_desk rfl

@[simp] theorem raiseFlag_desk (mask : BitVec 10) (now : Nat) (x : NoticeFlag) : (k.raiseFlag mask now x).desk = k.desk := by
  unfold raiseFlag
  dsimp only
  split
  · rfl
  · split
    · exact produceNotice_desk { k with flags := k.flags ||| (1 <<< x.bit.val) } now
    · rfl

end LinkState

/-! ### The tally of a state -/

/-- The excess of the counters, and the desks of the two control links. -/
structure Tally where
  above : Excess
  deskS : Desk
  deskO : Desk

def tallyOf (linkS linkO : LinkState) (stats : Stats) : Tally := ⟨stats.above, linkS.desk, linkO.desk⟩

def State.tally (s : State) : Tally := tallyOf s.linkS s.linkO s.stats

section
variable (s : State)

@[simp] theorem tally_mk (clock : Nat) (cfg : Params) (stns : Vector Station 32) (sched : SchedQueue) (oper : OperQueue)
    (power : Power) (wind : Wind) (camp : Campaign) (snow : Snow) (locks : Locks) (bus : Bus) (linkS linkO : LinkState)
    (site : Receiver) (stats : Stats) (choices : Nat) (pending : List Instr) :
    State.tally ⟨clock, cfg, stns, sched, oper, power, wind, camp, snow, locks, bus, linkS, linkO, site, stats, choices, pending⟩ =
      tallyOf linkS linkO stats := rfl

@[simp] theorem tally_eta : tallyOf s.linkS s.linkO s.stats = s.tally := rfl

/-- The tally passes through a branch, so that an operation whose branches all keep it keeps it. -/
@[simp] theorem tally_ite (p : Prop) [Decidable p] (t : State) :
    (if p then s else t).tally = if p then s.tally else t.tally := apply_ite State.tally p s t

/-- A pass over a list keeps the tally of the state in what it carries where every step does. -/
theorem foldl_tally_of {α β : Type} (st : β → State) {f : β → α → β} (h : ∀ x a, (st (f x a)).tally = (st x).tally)
    (l : List α) (x : β) : (st (l.foldl f x)).tally = (st x).tally := by
  induction l generalizing x with
  | nil => rfl
  | cons a l ih => rw [List.foldl_cons, ih, h]

@[simp] theorem foldl_tally {α : Type} {f : State → α → State} (h : ∀ s a, (f s a).tally = s.tally) (l : List α) :
    (l.foldl f s).tally = s.tally := foldl_kept State.tally h l s

/-! Counting leaves the tally, in whichever record the counter stands. -/

@[simp] theorem tallyOf_admitted (k k' : LinkState) (t : Vector StnStats 32) (n sheds deficits : Nat) (a b c : LineStats) :
    tallyOf k k' ⟨t, bump n, sheds, deficits, a, b, c⟩ = tallyOf k k' ⟨t, n, sheds, deficits, a, b, c⟩ := by
  simp [tallyOf, Stats.above]

@[simp] theorem tallyOf_shed (k k' : LinkState) (t : Vector StnStats 32) (n admitted deficits : Nat) (a b c : LineStats) :
    tallyOf k k' ⟨t, admitted, bump n, deficits, a, b, c⟩ = tallyOf k k' ⟨t, admitted, n, deficits, a, b, c⟩ := by
  simp [tallyOf, Stats.above]

@[simp] theorem tallyOf_deficit (k k' : LinkState) (t : Vector StnStats 32) (n admitted sheds : Nat) (a b c : LineStats) :
    tallyOf k k' ⟨t, admitted, sheds, bump n, a, b, c⟩ = tallyOf k k' ⟨t, admitted, sheds, n, a, b, c⟩ := by
  simp [tallyOf, Stats.above]

@[simp] theorem tallyOf_eta : tallyOf s.linkS s.linkO
    ⟨s.stats.stn, s.stats.admissions, s.stats.sheds, s.stats.deficits, s.stats.lineS, s.stats.lineO, s.stats.site⟩ = s.tally := rfl

/-- Statistics whose counters have counted. -/
theorem count_tally {t : Stats} (h : t.above = s.stats.above) : State.tally { s with stats := t } = s.tally :=
  congrArg (fun x => (⟨x, s.linkS.desk, s.linkO.desk⟩ : Tally)) h

/-! ### Links, lines and notices -/

theorem modLink_tally (l : Link) {f : LinkState → LinkState} (hf : (f (s.link l)).desk = (s.link l).desk) :
    (s.modLink l f).tally = s.tally := by
  cases l
  · exact congrArg (fun d => (⟨s.stats.above, d, s.linkO.desk⟩ : Tally)) hf
  · exact congrArg (fun d => (⟨s.stats.above, s.linkS.desk, d⟩ : Tally)) hf

theorem modLine_tally (ln : Line) {f : LineStats → LineStats} (hf : ∀ c, (f c).above = c.above) :
    (s.modLine ln f).tally = s.tally := by
  cases ln <;> exact count_tally s (by simp [Stats.above, hf])

@[simp] theorem modStnStats_tally (i : Stn) {f : StnStats → StnStats} (hf : ∀ c, (f c).above = c.above) :
    (s.modStnStats i f).tally = s.tally := count_tally s (above_updStn s.stats i hf)

@[simp] theorem notice_tally (l : Link) (x : NoticeFlag) : (s.notice l x).tally = s.tally :=
  modLink_tally s l (LinkState.raiseFlag_desk ..)

@[simp] theorem noticeBoth_tally (x : NoticeFlag) : (s.noticeBoth x).tally = s.tally := by simp [State.noticeBoth]

/-- A report is no reply, and is counted where it finds no place (R178). -/
@[simp] theorem report_tally (l : Link) {f : Frame} (other : f.isReply = false) : (s.report l f).tally = s.tally := by
  unfold State.report
  split
  · rw [notice_tally]
    exact modLine_tally s _ fun c => by simp [LineStats.above]
  · exact modLink_tally s l (LinkState.placeTail_desk _ other)

@[simp] theorem campaignReport_isReply (c : Campaign) (old : CampState) (now : Nat) :
    (campaignReport c old now).isReply = false := by simp [campaignReport, Frame.isReply, kindCampaign, kindReply]

@[simp] theorem groupReport_isReply (g : Group) (now : Nat) : (groupReport g now).isReply = false := by
  simp [groupReport, Frame.isReply, kindGroup, kindReply]

@[simp] theorem steerReport_isReply (t : Steer) (now : Nat) : (steerReport t now).isReply = false := by
  simp [steerReport, Frame.isReply, kindSteer, kindReply]

/-! ### The records of a station -/

@[simp] theorem modStn_tally (i : Stn) (f : Station → Station) : (s.modStn i f).tally = s.tally := rfl
@[simp] theorem modCab_tally (i : Stn) (f : Cabinet → Cabinet) : (s.modCab i f).tally = s.tally := rfl
@[simp] theorem modChan_tally (i : Stn) (f : Channel → Channel) : (s.modChan i f).tally = s.tally := rfl
@[simp] theorem setPark_tally (i : Stn) (p : Option ParkStep) : (s.setPark i p).tally = s.tally := rfl
@[simp] theorem modLock_tally (i : Stn) (f : LockRec → LockRec) : (s.modLock i f).tally = s.tally := rfl
@[simp] theorem modMotionGrant_tally (i : Stn) (f : Grant → Grant) : (s.modMotionGrant i f).tally = s.tally := rfl
@[simp] theorem modHeatGrant_tally (i : Stn) (f : Grant → Grant) : (s.modHeatGrant i f).tally = s.tally := rfl
@[simp] theorem modRoster_tally (i : Stn) (f : RosterEntry → RosterEntry) : (s.modRoster i f).tally = s.tally := rfl
@[simp] theorem setRoster_tally (i : Stn) (st : RosterStatus) : (s.setRoster i st).tally = s.tally := rfl
@[simp] theorem setIdle_tally (i : Stn) (t : Option Nat) : (s.setIdle i t).tally = s.tally := rfl
@[simp] theorem leaveMotion_tally (i : Stn) : (s.leaveMotion i).tally = s.tally := rfl
@[simp] theorem leaveHeat_tally (i : Stn) : (s.leaveHeat i).tally = s.tally := rfl
@[simp] theorem modGroup_tally (n : Nat) (f : Group → Group) : (s.modGroup n f).tally = s.tally := rfl
@[simp] theorem modSteer_tally (n : Nat) (f : Steer → Steer) : (s.modSteer n f).tally = s.tally := rfl

@[simp] theorem joinList_tally (b : Waiting) (c : GrantClass) (prio : Nat) : (s.joinList b c prio).tally = s.tally := rfl

@[simp] theorem setMotion_tally (i : Stn) (m : Motion) : (s.setMotion i m).tally = s.tally := by simp [State.setMotion]

/-! ### Command slots, outcomes and stops -/

@[simp] theorem placeMotion_tally (i : Stn) (c : MotionCmd) : (s.placeMotion i c).tally = s.tally := by
  simp [State.placeMotion]

@[simp] theorem placePin_tally (i : Stn) (c : PinCmd) : (s.placePin i c).tally = s.tally := rfl

@[simp] theorem placeHeat_tally (i : Stn) (c : HeatCmd) : (s.placeHeat i c).tally = s.tally := rfl

@[simp] theorem withdrawMotion_tally (i : Stn) (p : MotionCmd → Bool) : (s.withdrawMotion i p).tally = s.tally := by
  unfold State.withdrawMotion
  split <;> simp

@[simp] theorem withdrawPin_tally (i : Stn) (c : PinCmd) : (s.withdrawPin i c).tally = s.tally := by
  unfold State.withdrawPin
  split <;> simp

@[simp] theorem emptySlots_tally (i : Stn) : (s.emptySlots i).tally = s.tally := rfl

@[simp] theorem stowOutcome_tally (i : Stn) (o : MoveOutcome) : (s.stowOutcome i o).tally = s.tally := by
  simp [State.stowOutcome]

@[simp] theorem snowOutcome_tally (i : Stn) : (s.snowOutcome i).tally = s.tally := by simp [State.snowOutcome]

@[simp] theorem giveOutcome_tally (i : Stn) (o : MoveOutcome) : (s.giveOutcome i o).tally = s.tally := by
  unfold State.giveOutcome
  cases (s.stn i).owner with
  | none => rfl
  | some w => cases w <;> simp

@[simp] theorem withdrawWaiting_tally (i : Stn) (o : MoveOutcome) : (s.withdrawWaiting i o).tally = s.tally := by
  simp [State.withdrawWaiting]

@[simp] theorem stopMoving_tally (i : Stn) (o : MoveOutcome) : (s.stopMoving i o).tally = s.tally := by
  simp [State.stopMoving]

@[simp] theorem brakePointed_tally (i : Stn) : (s.brakePointed i).tally = s.tally := by simp [State.brakePointed]

@[simp] theorem beginAdmitting_tally (i : Stn) (w : Owner) : (s.beginAdmitting i w).tally = s.tally := by
  simp [State.beginAdmitting]

@[simp] theorem leaveStowed_tally (i : Stn) (r : Reason) : (s.leaveStowed i r).tally = s.tally := by
  simp [State.leaveStowed]

/-! ### The power allocator -/

@[simp] theorem setTargets_tally (p : Plan) : (s.setTargets p).tally = s.tally := rfl

@[simp] theorem admitMotion_tally (c : GrantClass) (seq : BitVec 32) (p : Plan) :
    (s.admitMotion c seq p).tally = s.tally := by
  unfold State.admitMotion
  dsimp only
  split
  · split <;> simp
  · rfl

@[simp] theorem admitHeat_tally (seq : BitVec 32) (i : Stn) : (s.admitHeat seq i).tally = s.tally := rfl

@[simp] theorem admitEntry_tally (e : Entry) : (s.admitEntry e).tally = s.tally := by
  unfold State.admitEntry
  cases e.body <;> simp

@[simp] theorem stopHeat_tally (i : Stn) (a : AfterStop) : (s.stopHeat i a).tally = s.tally := rfl

@[simp] theorem cutHeater_tally (i : Stn) : (s.cutHeater i).tally = s.tally := by simp [State.cutHeater]

@[simp] theorem reconsiderN_tally (n : Nat) : (State.reconsiderN n s).tally = s.tally := by
  induction n generalizing s with
  | zero => rfl
  | succ n ih =>
    unfold State.reconsiderN
    split
    · rfl
    · simp only [tally_ite, ih, admitEntry_tally, foldl_tally s cutHeater_tally, ite_self]

@[simp] theorem reconsider_tally : s.reconsider.tally = s.tally := reconsiderN_tally ..

@[simp] theorem markShed_tally (i : Stn) : (s.markShed i).tally = s.tally := by simp [State.markShed]

/-- A deficit action counts what it cuts or sheds, and touches no desk (R79). -/
@[simp] theorem deficitActs_tally (n : Nat) : (State.deficitActs n s).tally = s.tally := by
  induction n generalizing s with
  | zero => rfl
  | succ n ih =>
    unfold State.deficitActs
    split
    · rfl
    · split
      · simp [ih]
      · split
        · simp [ih]
        · split <;> simp [ih]

@[simp] theorem setDeficit_tally (b : Bool) : (s.setDeficit b).tally = s.tally := by simp [State.setDeficit]

@[simp] theorem enterDeficit_tally : s.enterDeficit.tally = s.tally := by
  unfold State.enterDeficit
  split
  · rfl
  · simp

@[simp] theorem judgeDeficit_tally : s.judgeDeficit.tally = s.tally := by simp [State.judgeDeficit]

@[simp] theorem judgePower_tally (force : Bool) (old : State) : (judgePower force old s).tally = s.tally := by
  simp [judgePower]

/-- A join that keeps the tally keeps it also as an event of its own. -/
theorem ownJoin_tally {join : State → State} (h : ∀ s, (join s).tally = s.tally) (x : State × State) :
    (ownJoin join x).2.tally = x.2.tally := by
  unfold ownJoin
  split <;> simp [h]

@[simp] theorem lowerMotion_tally (i : Stn) (st : CabStatus) : (s.lowerMotion i st).tally = s.tally := rfl

@[simp] theorem endHeatGrant_tally (i : Stn) : (s.endHeatGrant i).tally = s.tally := rfl

@[simp] theorem allocReply_tally (i : Stn) (st : CabStatus) : (s.allocReply i st).tally = s.tally := rfl

/-! ### Heater channels, snow mode and idle parks -/

@[simp] theorem setChan_tally (i : Stn) (h : HeaterState) : (s.setChan i h).tally = s.tally := rfl

@[simp] theorem offPhase_tally (i : Stn) (secs : Nat) : (s.offPhase i secs).tally = s.tally := rfl

@[simp] theorem startCycleAs_tally (i : Stn) (stowed : Bool) : (s.startCycleAs i stowed).tally = s.tally := by
  simp [State.startCycleAs]

@[simp] theorem startCycle_tally (i : Stn) : (s.startCycle i).tally = s.tally := startCycleAs_tally ..

@[simp] theorem enterOffPhase_tally (i : Stn) (stowed : Bool) : (s.enterOffPhase i stowed).tally = s.tally := by
  unfold State.enterOffPhase
  split <;> simp

@[simp] theorem confirmStop_tally (i : Stn) (stowed : Bool) : (s.confirmStop i stowed).tally = s.tally := by
  unfold State.confirmStop
  dsimp only
  rw [tally_ite, tally_ite]
  cases (s.chan i).after with
  | none => simp
  | some a => cases a <;> simp

@[simp] theorem barRise_tally (i : Stn) : (s.barRise i).tally = s.tally := by
  unfold State.barRise
  split <;> simp

@[simp] theorem barFall_tally (i : Stn) (stowed : Bool) : (s.barFall i stowed).tally = s.tally := by simp [State.barFall]

@[simp] theorem judgeBarAs_tally (i : Stn) (stowed : Bool) : (s.judgeBarAs i stowed).tally = s.tally := by
  simp [State.judgeBarAs]

@[simp] theorem judgeBar_tally (i : Stn) : (s.judgeBar i).tally = s.tally := judgeBarAs_tally ..

@[simp] theorem withdrawHeat_tally (i : Stn) : (s.withdrawHeat i).tally = s.tally := rfl

@[simp] theorem settleHeatFirst_tally (i : Stn) (closed : Bool) : (s.settleHeatFirst i closed).tally = s.tally := by
  simp [State.settleHeatFirst]

@[simp] theorem loseHeat_tally (i : Stn) : (s.loseHeat i).tally = s.tally := rfl

@[simp] theorem askHeatOff_tally (i : Stn) : (s.askHeatOff i).tally = s.tally := by simp [State.askHeatOff]

@[simp] theorem heatReply_tally (i : Stn) (closed taken : Bool) (a : Answer) (stowed : Bool) :
    (s.heatReply i closed taken a stowed).tally = s.tally := by
  unfold State.heatReply
  split <;> simp

@[simp] theorem judgePark_tally (i : Stn) : (s.judgePark i).tally = s.tally := by simp [State.judgePark]

@[simp] theorem judgeParks_tally : s.judgeParks.tally = s.tally := by simp [State.judgeParks]

@[simp] theorem chanModeOn_tally (i : Stn) : (s.chanModeOn i).tally = s.tally := by simp [State.chanModeOn]

@[simp] theorem chanModeOff_tally (i : Stn) : (s.chanModeOff i).tally = s.tally := by
  unfold State.chanModeOff
  split <;> simp

@[simp] theorem snowTurnOn_tally (src : SnowSource) : (s.snowTurnOn src).tally = s.tally := by simp [State.snowTurnOn]

@[simp] theorem snowTurnOff_tally : s.snowTurnOff.tally = s.tally := by simp [State.snowTurnOff]

@[simp] theorem judgeAuto_tally (before : Bool) : (s.judgeAuto before).tally = s.tally := by simp [State.judgeAuto]

@[simp] theorem clearStep_tally (c : PrecipClass) : (s.clearStep c).tally = s.tally := rfl

@[simp] theorem takePrecip_tally (c : PrecipClass) (air : Option Int) : (s.takePrecip c air).tally = s.tally := by
  simp [State.takePrecip]

/-! ### The lockout manager -/

@[simp] theorem lockTakesEffect_tally (i : Stn) : (s.lockTakesEffect i).tally = s.tally := by
  unfold State.lockTakesEffect
  split <;> simp

@[simp] theorem setLockStatus_tally (i : Stn) (new : LockStatus) : (s.setLockStatus i new).tally = s.tally := by
  simp [State.setLockStatus]

@[simp] theorem judgeLock_tally (i : Stn) : (s.judgeLock i).tally = s.tally := by simp [State.judgeLock]

@[simp] theorem judgeRest_tally (i : Stn) : (s.judgeRest i).tally = s.tally := by simp [State.judgeRest]

@[simp] theorem judgeRests_tally : s.judgeRests.tally = s.tally := by simp [State.judgeRests]

@[simp] theorem judgeLockBar_tally (i : Stn) : (s.judgeLockBar i).tally = s.tally := by simp [State.judgeLockBar]

@[simp] theorem warningEnd_tally (i : Stn) : (s.warningEnd i).tally = s.tally := by
  unfold State.warningEnd
  dsimp only
  split <;> simp

@[simp] theorem joinSlot_tally (i : Stn) (k : Fin 6) (holder : Nat) (kind : LockKind) :
    (s.joinSlot i k holder kind).tally = s.tally := by simp [State.joinSlot]

@[simp] theorem emptySlot_tally (i : Stn) (k : Fin 6) : (s.emptySlot i k).tally = s.tally := rfl

@[simp] theorem compareSlot_tally (i : Stn) (x : Fin 6 × Option (Nat × LockKind)) :
    (State.compareSlot i s x).tally = s.tally := by
  unfold State.compareSlot
  split <;> simp

@[simp] theorem takeKeys_tally (i : Stn) (keys : List (Option (Nat × LockKind))) : (s.takeKeys i keys).tally = s.tally := by
  simp [State.takeKeys]

@[simp] theorem panelSilent_tally (i : Stn) : (s.panelSilent i).tally = s.tally := by simp [State.panelSilent]

@[simp] theorem moveSilence_tally (i : Stn) : (s.moveSilence i).tally = s.tally := by
  unfold State.moveSilence
  dsimp only
  split
  · split <;> simp
  · rfl

@[simp] theorem lockReply_tally (i : Stn) (st : CabStatus) (a : Answer) : (s.lockReply i st a).tally = s.tally := by
  simp [State.lockReply]

/-! ### The stow sequencer -/

@[simp] theorem displayNotices_tally (old : State) : (displayNotices old s).tally = s.tally := by simp [displayNotices]

@[simp] theorem setCamp_tally (st : CampState) : (s.setCamp st).tally = s.tally := by simp [State.setCamp]

@[simp] theorem giveEntry_tally (i : Stn) (st : RosterStatus) : (s.giveEntry i st).tally = s.tally := rfl

@[simp] theorem dropEntry_tally (i : Stn) : (s.dropEntry i).tally = s.tally := rfl

@[simp] theorem joinCampaign_tally (i : Stn) : (s.joinCampaign i).tally = s.tally := by simp [State.joinCampaign]

@[simp] theorem buildEntry_tally (i : Stn) : (s.buildEntry i).tally = s.tally := by
  unfold State.buildEntry
  split <;> simp

@[simp] theorem preemptWaitingSteers_tally : s.preemptWaitingSteers.tally = s.tally := rfl

@[simp] theorem startCampaign_tally (c : CampCause) (kept : List Stn) : (s.startCampaign c kept).tally = s.tally := by
  simp [State.startCampaign]

@[simp] theorem restartEntry_tally (e : RosterEntry) : (s.restartEntry e).tally = s.tally := by simp [State.restartEntry]

@[simp] theorem startOrRestart_tally (c : CampCause) : (s.startOrRestart c).tally = s.tally := by
  simp [State.startOrRestart]

@[simp] theorem judgeRejoin_tally (i : Stn) : (s.judgeRejoin i).tally = s.tally := by
  unfold State.judgeRejoin
  split
  · rfl
  · split
    · split <;> simp
    · rfl

@[simp] theorem judgeWaitRest_tally (i : Stn) : (s.judgeWaitRest i).tally = s.tally := by
  unfold State.judgeWaitRest
  split
  · split <;> simp
  · rfl

@[simp] theorem rosterStep_tally (old : State) (i : Stn) : (rosterStep old i s).tally = s.tally := by simp [rosterStep]

@[simp] theorem rosterPass_tally (old : State) (x : State × State) : (rosterPass old x).2.tally = x.2.tally :=
  foldl_tally_of Prod.snd (fun x i => ownJoin_tally (fun s => rosterStep_tally s old i) x) _ x

@[simp] theorem endCampaign_tally : s.endCampaign.tally = s.tally := by simp [State.endCampaign]

@[simp] theorem judgeCampaign_tally : s.judgeCampaign.tally = s.tally := by
  unfold State.judgeCampaign
  split <;> simp

@[simp] theorem rejoinAll_tally (old : State) : (s.rejoinAll old).tally = s.tally :=
  foldl_tally_of Prod.snd (fun x i => ownJoin_tally (fun s => judgeRejoin_tally s i) x) _ (old, s)

@[simp] theorem resumeCampaign_tally : s.resumeCampaign.tally = s.tally := by simp [State.resumeCampaign]

@[simp] theorem addCause_tally (c : CampCause) : (s.addCause c).tally = s.tally := rfl

@[simp] theorem stowTakesStage_tally (old : State) : (s.stowTakesStage old).tally = s.tally := by
  unfold State.stowTakesStage
  dsimp only
  split
  · split <;> simp
  · simp

@[simp] theorem beginPinning_tally (i : Stn) : (s.beginPinning i).tally = s.tally := rfl

@[simp] theorem beginStowBrake_tally (i : Stn) (noPin : Bool) : (s.beginStowBrake i noPin).tally = s.tally := by
  simp [State.beginStowBrake]

@[simp] theorem completeStow_tally (i : Stn) (noPin : Bool) : (s.completeStow i noPin).tally = s.tally := by
  simp [State.completeStow]

@[simp] theorem pinDrawn_tally (i : Stn) : (s.pinDrawn i).tally = s.tally := by simp [State.pinDrawn]

@[simp] theorem pinStuck_tally (i : Stn) : (s.pinStuck i).tally = s.tally := rfl

@[simp] theorem stowReply_tally (i : Stn) (st : CabStatus) (tk : TakenFlags) (a : Answer) :
    (s.stowReply i st tk a).tally = s.tally := by
  unfold State.stowReply
  split
  · rfl
  · split
    · simp
    · cases st.pin <;> simp
    · simp
    · cases st.pin <;> simp
    · rfl

@[simp] theorem unstowEntry_tally (i : Stn) : (s.unstowEntry i).tally = s.tally := by simp [State.unstowEntry]

@[simp] theorem beginEnding_tally : s.beginEnding.tally = s.tally := by simp [State.beginEnding]

/-! ### The motion queues -/

@[simp] theorem completeGroup_tally (g : Group) (byClear : Bool) : (s.completeGroup g byClear).tally = s.tally := by
  simp [State.completeGroup]

@[simp] theorem completeSteer_tally (t : Steer) : (s.completeSteer t).tally = s.tally := by simp [State.completeSteer]

@[simp] theorem countArrival_tally (i : Stn) : (s.countArrival i).tally = s.tally := by simp [State.countArrival]

@[simp] theorem dispatchMember_tally (g : Group) (x : State × List Plan) (i : Stn) :
    (State.dispatchMember g x i).1.tally = x.1.tally := by
  unfold State.dispatchMember
  dsimp only
  split
  · simp
  · split
    · rfl
    · split
      · simp
      · split <;> simp

@[simp] theorem dispatchGroup_tally (g : Group) : (s.dispatchGroup g).tally = s.tally := by
  have members (x : State × List Plan) : (g.stations.foldl (State.dispatchMember g) x).1.tally = x.1.tally :=
    foldl_tally_of Prod.fst (dispatchMember_tally g) _ x
  unfold State.dispatchGroup
  cases g.mode with
  | stagger => exact (foldl_tally _ (fun s p => joinList_tally s _ _ _) _).trans (members _)
  | gang => simp [members]

@[simp] theorem planSteer_tally (t : Steer) : (s.planSteer t).tally = s.tally := by
  unfold State.planSteer
  dsimp only
  split
  · split <;> simp
  · rfl

@[simp] theorem steerWaits_tally (t : Steer) : (s.steerWaits t).tally = s.tally := rfl

@[simp] theorem dispatchSteer_tally (t : Steer) : (s.dispatchSteer t).tally = s.tally := by
  unfold State.dispatchSteer
  dsimp only
  split <;> simp

@[simp] theorem endWait_tally (t : Steer) : (s.endWait t).tally = s.tally := by
  unfold State.endWait
  split <;> simp

@[simp] theorem takeAct_tally (a : QueueAct) : (s.takeAct a).tally = s.tally := by
  cases a <;> simp [State.takeAct]

@[simp] theorem queuePass_tally (n : Nat) : (State.queuePass n s).tally = s.tally := by
  induction n generalizing s with
  | zero => rfl
  | succ n ih =>
    unfold State.queuePass
    split
    · rfl
    · rw [ih, takeAct_tally]

@[simp] theorem endOwned_tally (w : Owner) (o : MoveOutcome) (i : Stn) : (State.endOwned w o s i).tally = s.tally := by
  unfold State.endOwned
  split
  · split <;> simp
  · rfl

@[simp] theorem endGroup_tally (o : MoveOutcome) (g : Group) : (State.endGroup o s g).tally = s.tally := by
  simp [State.endGroup]

@[simp] theorem clearSteer_tally (t : Steer) : (s.clearSteer t).tally = s.tally := by simp [State.clearSteer]

@[simp] theorem clearedGroup_tally (n : Nat) : (s.clearedGroup n).tally = s.tally := by
  unfold State.clearedGroup
  split <;> simp

@[simp] theorem clearedSteer_tally (n : Nat) : (s.clearedSteer n).tally = s.tally := by
  unfold State.clearedSteer
  split <;> simp

@[simp] theorem clearQueues_tally : s.clearQueues.tally = s.tally := by simp [State.clearQueues]

@[simp] theorem haltStation_tally (i : Stn) : (s.haltStation i).tally = s.tally := by
  unfold State.haltStation
  split <;> simp

/-! ### What follows an event -/

@[simp] theorem parksAfterCampaign_tally (acted : State) : (parksAfterCampaign acted s).tally = s.tally := by
  simp [parksAfterCampaign]

@[simp] theorem settleOnce_tally (force : Bool) (old : State) : (settleOnce force old s).tally = s.tally := by
  simp [settleOnce]

@[simp] theorem settleMore_tally (n : Nat) : (settleMore n s).tally = s.tally := by
  induction n generalizing s with
  | zero => rfl
  | succ n ih => simp [settleMore, ih]

/-- What follows an event keeps the tally, whatever the event was. -/
@[simp] theorem settle_tally (force : Bool) (old : State) : (settle force old s).tally = s.tally := by simp [settle]

/-! ### The wind monitor -/

@[simp] theorem replanAll_tally : s.replanAll.tally = s.tally := rfl

@[simp] theorem handStage_tally (old : State) : (s.handStage old).tally = s.tally := by
  unfold State.handStage
  split
  · rfl
  · simp

@[simp] theorem evaluate_tally (expiry : Bool) : (s.evaluate expiry).tally = s.tally := by simp [State.evaluate]

@[simp] theorem takeMast_tally (num : Nat) (readings : List (Option Nat)) : (s.takeMast num readings).tally = s.tally := by
  unfold State.takeMast
  split <;> simp

@[simp] theorem enableMasts_tally (before : Params) : (s.enableMasts before).tally = s.tally := rfl

@[simp] theorem moveMastSilence_tally : s.moveMastSilence.tally = s.tally := rfl

@[simp] theorem silenceEnd_tally (i : MastNo) : (s.silenceEnd i).tally = s.tally := by simp [State.silenceEnd]

/-! ### The drive bus and the panel line -/

@[simp] theorem beginVisit_tally (i : Stn) : (s.beginVisit i).tally = s.tally := rfl

@[simp] theorem nextVisit_tally (after : Option Stn) : (s.nextVisit after).tally = s.tally := by
  unfold State.nextVisit
  split <;> simp

@[simp] theorem nextPanel_tally (after : Option Stn) : (s.nextPanel after).tally = s.tally := rfl

@[simp] theorem lose_tally (i : Stn) : (s.lose i).tally = s.tally := by simp [State.lose]

@[simp] theorem stopAfresh_tally (i : Stn) : (s.stopAfresh i).tally = s.tally := by simp [State.stopAfresh]

@[simp] theorem resolveFirst_tally (i : Stn) (st : CabStatus) : (s.resolveFirst i st).tally = s.tally := by
  simp [State.resolveFirst]

@[simp] theorem takenAway_tally (i : Stn) (m : Motion) (r : Reason) (o : MoveOutcome) :
    (s.takenAway i m r o).tally = s.tally := by simp [State.takenAway]

@[simp] theorem judgeArrival_tally (i : Stn) (st : CabStatus) : (s.judgeArrival i st).tally = s.tally := by
  simp [State.judgeArrival]

@[simp] theorem moveRefused_tally (i : Stn) (st : CabStatus) (origin : Posture) (v : Verdict) :
    (s.moveRefused i st origin v).tally = s.tally := by simp [State.moveRefused]

@[simp] theorem stationRemote_tally (i : Stn) (st : CabStatus) (tk : TakenFlags) (a : Answer) (mark : Bool) :
    (s.stationRemote i st tk a mark).tally = s.tally := by
  unfold State.stationRemote
  cases (s.stn i).motion with
  | slewing =>
    dsimp only
    split
    · simp
    · split <;> simp
  | stowing =>
    dsimp only
    split <;> simp
  | _ => simp

@[simp] theorem stationReply_tally (i : Stn) (st : CabStatus) (first : Bool) (tk : TakenFlags) (a : Answer) (mark : Bool) :
    (s.stationReply i st first tk a mark).tally = s.tally := by simp [State.stationReply]

@[simp] theorem parkReply_tally (i : Stn) (st : CabStatus) (tk : TakenFlags) : (s.parkReply i st tk).tally = s.tally := by
  unfold State.parkReply
  split
  · split <;> simp
  · rfl

@[simp] theorem allocFirst_tally (i : Stn) (st : CabStatus) (first : Bool) (a : Answer) :
    (s.allocFirst i st first a).tally = s.tally := by simp [State.allocFirst]

@[simp] theorem returnRejected_tally (i : Stn) (st : CabStatus) (a : Answer) : (s.returnRejected i st a).tally = s.tally := by
  unfold State.returnRejected
  split <;> simp

@[simp] theorem lockAndStation_tally (i : Stn) (st : CabStatus) (first : Bool) (tk : TakenFlags) (a : Answer) (mark : Bool) :
    (s.lockAndStation i st first tk a mark).tally = s.tally := by simp [State.lockAndStation]

@[simp] theorem jobsReply_tally (i : Stn) (st : CabStatus) (tk : TakenFlags) (a : Answer) :
    (s.jobsReply i st tk a).tally = s.tally := by simp [State.jobsReply]

@[simp] theorem heatTakes_tally (i : Stn) (st : CabStatus) (first : Bool) (tk : TakenFlags) (a : Answer) (was : Bool) :
    (s.heatTakes i st first tk a was).tally = s.tally := by simp [State.heatTakes]

@[simp] theorem takeReply_tally (i : Stn) (st : CabStatus) (a : Answer) : (s.takeReply i st a).tally = s.tally := by
  simp [State.takeReply]

@[simp] theorem endVisit_tally (v : BusVisit) : (s.endVisit v).tally = s.tally := nextVisit_tally ..

@[simp] theorem dropOutstanding_tally (i : Stn) : (s.dropOutstanding i).tally = s.tally := rfl

@[simp] theorem judgeLoss_tally (i : Stn) : (s.judgeLoss i).tally = s.tally := by simp [State.judgeLoss]

@[simp] theorem miss_tally (i : Stn) : (s.miss i).tally = s.tally := by simp [State.miss]

@[simp] theorem enableStation_tally (i : Stn) : (s.enableStation i).tally = s.tally := by
  unfold State.enableStation
  dsimp only
  split <;> simp

@[simp] theorem voidVisits_tally (i : Stn) : (s.voidVisits i).tally = s.tally := rfl

@[simp] theorem disableStation_tally (i : Stn) : (s.disableStation i).tally = s.tally := by simp [State.disableStation]

@[simp] theorem wakeLines_tally : s.wakeLines.tally = s.tally := by
  unfold State.wakeLines
  cases s.bus.visit <;> dsimp only <;> split <;> simp

/-! ### Receivers, and the opening and answering of requests -/

@[simp] theorem setRx_tally (ln : Line) (r : Receiver) : (s.setRx ln r).tally = s.tally := by cases ln <;> rfl

@[simp] theorem discard_tally (ln : Line) (held : List Byte) : (s.discard ln held).tally = s.tally := by
  unfold State.discard
  rw [notice_tally, modLine_tally _ _ fun c => by simp [LineStats.above], setRx_tally]

@[simp] theorem gathered_tally (ln : Line) (rest : List Byte) : (s.gathered ln rest).tally = s.tally := by
  unfold State.gathered
  rw [modLine_tally _ _ fun c => by simp [LineStats.above], setRx_tally]

theorem siteFrame_tally {s t : State} {bytes : List Byte} {p : Frame → Bool} {f : Frame}
    (h : s.siteFrame bytes p = some (f, t)) : t.tally = s.tally := by
  unfold State.siteFrame at h
  split at h
  · split at h
    · cases h
      exact gathered_tally ..
    · cases h
  · cases h

/-- What rewrites a control link leaves the counters. -/
@[simp] theorem modLink_above (l : Link) (f : LinkState → LinkState) : (s.modLink l f).tally.above = s.tally.above := by
  cases l <;> rfl

theorem joinFifo_above (l : Link) (f : Frame) : (s.joinFifo l f).tally.above = s.tally.above := by
  unfold State.joinFifo
  split
  · rw [notice_tally, modLine_tally _ _ fun c => by simp [LineStats.above]]
  · exact modLink_above ..

@[simp] theorem openRequest_above (l : Link) (f : Frame) : (s.openRequest l f).tally.above = s.tally.above := modLink_above ..

@[simp] theorem answer_above (l : Link) (kind : Byte) (c : Code) (data : List Byte) :
    (s.answer l kind c data).tally.above = s.tally.above := modLink_above ..

/-! ### What the handlers of the requests leave -/

/-- A request without arguments keeps the tally where what it runs keeps it. -/
theorem noArgs_tally {s : State} {r : Unit → Result} (h : (r ()).state.tally = s.tally) (p : List Byte) :
    (noArgs p r s).state.tally = s.tally := by
  unfold noArgs
  split
  · exact h
  · rfl

theorem takeSlew_tally (p : List Byte) : (takeSlew s p).state.tally = s.tally := by
  unfold takeSlew
  split
  · rfl
  · split <;> simp [State.addGroup]

theorem takeCancel_tally (p : List Byte) : (takeCancel s p).state.tally = s.tally := by
  unfold takeCancel
  split
  · split
    · rfl
    · split <;> simp
  · rfl

theorem takeFlush_tally (p : List Byte) : (takeFlush s p).state.tally = s.tally := noArgs_tally (by simp) p

theorem takeResume_tally (p : List Byte) : (takeResume s p).state.tally = s.tally := noArgs_tally (by simp) p

theorem takeRest_tally (p : List Byte) : (takeRest s p).state.tally = s.tally := by
  unfold takeRest
  split <;> simp

theorem takeSteer_tally (p : List Byte) : (takeSteer s p).state.tally = s.tally := by
  unfold takeSteer
  split
  · rfl
  · split <;> simp [State.addSteer]

theorem takeHalt_tally (p : List Byte) : (takeHalt s p).state.tally = s.tally := by
  unfold takeHalt
  split <;> simp

@[simp] theorem stowAll_tally : s.stowAll.tally = s.tally := by
  unfold State.stowAll
  split <;> simp

theorem takeStowAll_tally (p : List Byte) : (takeStowAll s p).state.tally = s.tally := noArgs_tally (by simp) p

theorem takeUnstow_tally (p : List Byte) : (takeUnstow s p).state.tally = s.tally := by
  refine noArgs_tally ?_ p
  dsimp only
  split
  · simp
  · split <;> rfl

theorem takeSnowOn_tally (p : List Byte) : (takeSnowOn s p).state.tally = s.tally := noArgs_tally (by simp) p

theorem takeSnowOff_tally (p : List Byte) : (takeSnowOff s p).state.tally = s.tally := noArgs_tally (by simp) p

theorem takeConsoleLock_tally (p : List Byte) : (takeConsoleLock s p).state.tally = s.tally := by
  unfold takeConsoleLock
  split
  · rfl
  · split <;> simp

theorem takeConsoleUnlock_tally (p : List Byte) : (takeConsoleUnlock s p).state.tally = s.tally := by
  unfold takeConsoleUnlock
  split
  · rfl
  · split
    · rfl
    · split <;> simp

theorem takeWriteOff_tally (p : List Byte) : (takeWriteOff s p).state.tally = s.tally := by
  unfold takeWriteOff
  split
  · rfl
  · split <;> simp

theorem takeEnable_tally (p : List Byte) : (takeEnable s p).state.tally = s.tally := by
  unfold takeEnable
  split <;> simp

theorem takeDisable_tally (p : List Byte) : (takeDisable s p).state.tally = s.tally := by
  unfold takeDisable
  split
  · rfl
  · dsimp only
    split <;> simp

theorem takeClear_tally (p : List Byte) : (takeClear s p).state.tally = s.tally := noArgs_tally (by simp) p

theorem takeAck_tally (l : Link) (p : List Byte) : (takeAck l s p).state.tally = s.tally := by
  unfold takeAck
  split
  · exact modLink_tally s l rfl
  · rfl

theorem maskSet_tally (l : Link) (before : BitVec 10) : (s.maskSet l before).tally = s.tally := by
  unfold State.maskSet
  dsimp only
  split
  · rfl
  · exact modLink_tally s l (LinkState.produceNotice_desk ..)

@[simp] theorem applyParam_tally (p : Param) (before : Params) : (s.applyParam p before).tally = s.tally := by
  unfold State.applyParam
  split <;> simp [State.reprioritise, State.moveIdle, maskSet_tally]

theorem takeSet_tally (p : List Byte) : (takeSet s p).state.tally = s.tally := by
  unfold takeSet
  split
  · rfl
  · split
    · split
      · rfl
      · dsimp only
        split
        · rfl
        · exact applyParam_tally ..
    · rfl

/-! ### DUMP, which clears counters (R185) -/

theorem counterRule_of_above {t : State} (e : t.tally.above = s.tally.above) (h : CounterRule s) : CounterRule t :=
  (counterRule_iff t).mpr (e.trans ((counterRule_iff s).mp h))

theorem reset_line_small : LineStats.reset.small := by unfold LineStats.small fits16; decide

theorem reset_stn_small : StnStats.reset.small := by unfold StnStats.small fits16; decide

theorem counterRule_clearArray (h : CounterRule s) : CounterRule { s with stats := s.stats.clearArray } := by
  obtain ⟨stations, -⟩ := h
  exact ⟨stations, Nat.zero_le _, Nat.zero_le _, Nat.zero_le _, reset_line_small, reset_line_small, reset_line_small⟩

theorem counterRule_clearStns {s : State} (h : CounterRule s) (l : List Stn) :
    CounterRule { s with stats := l.foldl Stats.clearStn s.stats } := by
  induction l generalizing s with
  | nil => exact h
  | cons i l ih =>
    obtain ⟨stations, array⟩ := h
    refine ih (s := { s with stats := s.stats.clearStn i }) ⟨fun j => ?_, array⟩
    rw [Stats.clearStn, upd_get]
    split
    · exact reset_stn_small
    · exact stations j

theorem takeDump_counterRule {s : State} (h : CounterRule s) (p : List Byte) : CounterRule (takeDump s p).state := by
  unfold takeDump
  split
  next =>
    split
    next => exact h
    next clear _ =>
      cases clear with
      | false => split_ifs <;> exact h
      | true =>
        split_ifs
        · exact counterRule_clearArray s h
        · exact counterRule_clearStns h _
        · exact h
  next => exact h

/-! ### Requests and line events leave the excess of the counters -/

theorem takeQuery_above (l : Link) (c : Instr) (q : State → List Byte → Code × List Byte) :
    (s.takeQuery l c q).tally.above = s.tally.above := by
  unfold State.takeQuery
  split <;> simp

theorem takeUnknown_above (l : Link) : (s.takeUnknown l).tally.above = s.tally.above := by
  unfold State.takeUnknown
  split <;> simp

theorem takeRequest_above {h : State → List Byte → Result} (hh : ∀ s p, (h s p).state.tally = s.tally) (l : Link) (c : Instr) :
    (s.takeRequest l c h).tally.above = s.tally.above := by
  unfold State.takeRequest
  split <;> simp [hh]

theorem takeLocal_above {h : State → List Byte → Result} (hh : ∀ s p, (h s p).state.tally = s.tally) (l : Link) (c : Instr) :
    (s.takeLocal l c h).tally.above = s.tally.above := by
  unfold State.takeLocal
  split <;> simp [hh]

theorem linkFrame_above (l : Link) (bytes : List Byte) : (s.linkFrame l bytes).tally.above = s.tally.above := by
  unfold State.linkFrame
  split
  · rw [joinFifo_above, gathered_tally]
  · rfl

theorem badFrame_tally (ln : Line) (bytes : List Byte) : (s.badFrame ln bytes).tally = s.tally := by
  unfold State.badFrame
  split <;> simp

theorem startCollecting_tally (ln : Line) (bytes : List Byte) : (s.startCollecting ln bytes).tally = s.tally := by
  unfold State.startCollecting
  split <;> simp

theorem mastFrame_tally (bytes : List Byte) : (s.mastFrame bytes).tally = s.tally := by
  unfold State.mastFrame
  split
  next => rfl
  next read =>
    split
    · rw [settle_tally, takeMast_tally, siteFrame_tally read]
    · rfl

theorem precipFrame_tally (bytes : List Byte) : (s.precipFrame bytes).tally = s.tally := by
  unfold State.precipFrame
  split
  next => rfl
  next read =>
    split
    · split
      · rw [settle_tally, takePrecip_tally, siteFrame_tally read]
      · exact siteFrame_tally read
    · rfl

theorem feederFrame_tally (bytes : List Byte) : (s.feederFrame bytes).tally = s.tally := by
  unfold State.feederFrame
  split
  next => rfl
  next read =>
    split
    · rw [settle_tally, ← siteFrame_tally read]
      rfl
    · rfl

theorem ignoredFrame_tally (bytes : List Byte) : (s.ignoredFrame bytes).tally = s.tally := by
  unfold State.ignoredFrame
  split
  next => rfl
  next read => exact siteFrame_tally read

theorem statusReply_tally (bytes : List Byte) : (s.statusReply bytes).tally = s.tally := by
  unfold State.statusReply
  split
  · rfl
  · split
    · rfl
    · split <;> simp

@[simp] theorem missVisit_tally (v : BusVisit) : (s.missVisit v).tally = s.tally := by simp [State.missVisit]

theorem badReply_tally (bytes : List Byte) : (s.badReply bytes).tally = s.tally := by
  unfold State.badReply
  split <;> simp

theorem replyTimeout_tally : s.replyTimeout.tally = s.tally := by
  unfold State.replyTimeout
  split <;> simp

theorem keysReply_tally (bytes : List Byte) : (s.keysReply bytes).tally = s.tally := by
  unfold State.keysReply
  split
  · rfl
  · split <;> simp

theorem panelMissed_tally (bytes : Option (List Byte)) : (s.panelMissed bytes).tally = s.tally := by
  unfold State.panelMissed
  split
  · rfl
  · split <;> simp

/-! ### The expiries -/

@[simp] theorem deadlineEnd_tally : s.deadlineEnd.tally = s.tally := by simp [State.deadlineEnd]

@[simp] theorem clearEnd_tally : s.clearEnd.tally = s.tally := by simp [State.clearEnd]

@[simp] theorem idleEnd_tally (i : Stn) : (s.idleEnd i).tally = s.tally := by simp [State.idleEnd]

end

/-! ### Every command keeps the counters within 16 bits -/

/-- The next state of an outcome that is written out holds its counters as they are known to stand. -/
theorem next_counterRule {s r t : State} (rule : CounterRule s) (e : r.tally.above = s.tally.above)
    (h : (.next r : Out) = .next t) : CounterRule t :=
  Host.Outcome.next.inj h ▸ counterRule_of_above s e rule

theorem expire_counterRule {s t : State} {due : Bool} {f : State → State} (rule : CounterRule s)
    (hf : ∀ s, (f s).tally = s.tally) (h : s.expire due f = .next t) : CounterRule t := by
  cases due with
  | false => exact next_counterRule rule rfl h
  | true => exact next_counterRule rule (congrArg Tally.above ((settle_tally ..).trans (hf s))) h

theorem dump_counterRule {s t : State} {l : Link} (rule : CounterRule s) (h : exec (.dump l) s = .next t) : CounterRule t := by
  obtain rfl : s.takeLocal l (.dump l) takeDump = t := Host.Outcome.next.inj h
  unfold State.takeLocal
  split
  next => exact rule
  next f _ =>
    have opened : CounterRule (s.openRequest l f) := counterRule_of_above s (openRequest_above ..) rule
    exact counterRule_of_above _ (answer_above ..) (takeDump_counterRule opened f.payload)

theorem exec_counterRule {c : Instr} {s t : State} (rule : CounterRule s) (h : exec c s = .next t) : CounterRule t := by
  have kept {r : State} (e : r.tally = s.tally) : r.tally.above = s.tally.above := congrArg Tally.above e
  cases c with
  | powerOnReset => exact Host.Outcome.next.inj h ▸ reset_counterRule
  | dump l => exact dump_counterRule rule h
  | linkFrameReceived l b => exact next_counterRule rule (linkFrame_above s l b) h
  | badFrame ln b => exact next_counterRule rule (kept (badFrame_tally s ln b)) h
  | collectingStart ln b => exact next_counterRule rule (kept (startCollecting_tally s ln b)) h
  | transmitFrameEnd l => exact next_counterRule rule (modLink_above s l _) h
  | slew => exact next_counterRule rule (takeRequest_above s takeSlew_tally _ _) h
  | cancel => exact next_counterRule rule (takeRequest_above s takeCancel_tally _ _) h
  | flush => exact next_counterRule rule (takeRequest_above s takeFlush_tally _ _) h
  | resume => exact next_counterRule rule (takeRequest_above s takeResume_tally _ _) h
  | rest => exact next_counterRule rule (takeRequest_above s takeRest_tally _ _) h
  | steer => exact next_counterRule rule (takeRequest_above s takeSteer_tally _ _) h
  | halt => exact next_counterRule rule (takeRequest_above s takeHalt_tally _ _) h
  | stowAll => exact next_counterRule rule (takeRequest_above s takeStowAll_tally _ _) h
  | unstow => exact next_counterRule rule (takeRequest_above s takeUnstow_tally _ _) h
  | snowOn => exact next_counterRule rule (takeRequest_above s takeSnowOn_tally _ _) h
  | snowOff => exact next_counterRule rule (takeRequest_above s takeSnowOff_tally _ _) h
  | consoleLock => exact next_counterRule rule (takeRequest_above s takeConsoleLock_tally _ _) h
  | consoleUnlock => exact next_counterRule rule (takeRequest_above s takeConsoleUnlock_tally _ _) h
  | writeOff => exact next_counterRule rule (takeRequest_above s takeWriteOff_tally _ _) h
  | enable => exact next_counterRule rule (takeRequest_above s takeEnable_tally _ _) h
  | disable => exact next_counterRule rule (takeRequest_above s takeDisable_tally _ _) h
  | setParam => exact next_counterRule rule (takeRequest_above s takeSet_tally _ _) h
  | clearAll => exact next_counterRule rule (takeRequest_above s takeClear_tally _ _) h
  | getParam | qStation | qPower | qWind | qCampaign | qQueue | qLockout =>
    exact next_counterRule rule (takeQuery_above s _ _ _) h
  | ack l => exact next_counterRule rule (takeLocal_above s (fun s => takeAck_tally s l) _ _) h
  | unknownRequestKind l => exact next_counterRule rule (takeUnknown_above s l) h
  | mast b => exact next_counterRule rule (kept (mastFrame_tally s b)) h
  | precip b => exact next_counterRule rule (kept (precipFrame_tally s b)) h
  | feeder b => exact next_counterRule rule (kept (feederFrame_tally s b)) h
  | siteFrameIgnored b => exact next_counterRule rule (kept (ignoredFrame_tally s b)) h
  | statusReply b => exact next_counterRule rule (kept (statusReply_tally s b)) h
  | badReply b => exact next_counterRule rule (kept (badReply_tally s b)) h
  | replyTimeoutExpiry => exact next_counterRule rule (kept (replyTimeout_tally s)) h
  | keys b => exact next_counterRule rule (kept (keysReply_tally s b)) h
  | panelReplyMissed b => exact next_counterRule rule (kept (panelMissed_tally s b)) h
  | panelSilenceExpiry i => exact expire_counterRule rule (fun s => panelSilent_tally s i) h
  | warningExpiry i => exact expire_counterRule rule (fun s => warningEnd_tally s i) h
  | silenceExpiry m => exact expire_counterRule rule (fun s => silenceEnd_tally s m) h
  | dwellExpiry => exact expire_counterRule rule (fun s => evaluate_tally s true) h
  | deadlineExpiry => exact expire_counterRule rule deadlineEnd_tally h
  | clearTimerExpiry => exact expire_counterRule rule clearEnd_tally h
  | timerAExpiry i => exact expire_counterRule rule (fun s => stopHeat_tally s i .offPhase) h
  | timerBExpiry i => exact expire_counterRule rule (fun s => startCycle_tally s i) h
  | idleExpiry i => exact expire_counterRule rule (fun s => idleEnd_tally s i) h

/-- Settles O6: a step takes a command, or only time. -/
theorem stepKeepsCounterRule : Obligations.StepKeepsCounterRule := by
  intro s t rule h
  unfold step idle at h
  split at h
  next rest _ => exact exec_counterRule (s := { s with pending := rest }) rule h
  next =>
    split at h
    · exact exec_counterRule rule h
    · exact next_counterRule (r := { s with clock := s.clock + 1 }) rule rfl h

end Sys2Proof.Machine

/-! # Requests: each answered once, and refusals that change nothing (O12, O14) -/

namespace Sys2Proof.Machine

/-! ### The commands that take requests (R176, R189) -/

/-- The commands that take the requests that either link may carry. -/
def sharedRequests (l : Link) : List Instr :=
  [.qStation l, .qPower l, .qWind l, .qCampaign l, .qQueue l, .qLockout l, .ack l, .dump l]

/-- The commands that take the requests of one link alone. -/
def ownRequests : Link → List Instr
  | .S => [.slew, .cancel, .flush, .resume, .rest]
  | .O => [.steer, .halt, .stowAll, .unstow, .snowOn, .snowOff, .consoleLock, .consoleUnlock, .writeOff, .enable, .disable,
      .setParam, .getParam, .clearAll]

theorem sharedRequest_mem {l : Link} {k : Byte} {c : Instr} (h : sharedRequest l k = some c) : c ∈ sharedRequests l := by
  unfold sharedRequest at h
  split at h <;> cases h <;> simp [sharedRequests]

theorem scheduleRequest_mem {k : Byte} {c : Instr} (h : scheduleRequest k = some c) : c ∈ ownRequests .S := by
  unfold scheduleRequest at h
  split at h <;> cases h <;> simp [ownRequests]

theorem consoleRequest_mem {k : Byte} {c : Instr} (h : consoleRequest k = some c) : c ∈ ownRequests .O := by
  unfold consoleRequest at h
  split at h <;> cases h <;> simp [ownRequests]

/-- A kind is that of a request that either link may carry, that of one of the link's own, or no request of the link. -/
theorem requestOf_cases (l : Link) (k : Byte) :
    requestOf l k ∈ sharedRequests l ∨ requestOf l k ∈ ownRequests l ∨ requestOf l k = .unknownRequestKind l := by
  unfold requestOf ownRequest
  cases shared : sharedRequest l k with
  | some c => exact .inl (sharedRequest_mem shared)
  | none =>
    cases l with
    | S =>
      cases own : scheduleRequest k with
      | some c => exact .inr (.inl (scheduleRequest_mem own))
      | none => exact .inr (.inr rfl)
    | O =>
      cases own : consoleRequest k with
      | some c => exact .inr (.inl (consoleRequest_mem own))
      | none => exact .inr (.inr rfl)

/-! ### The desk through a request (R175, R176) -/

/-- What takes a request leaves both desks to it. -/
def KeepsDesks (h : State → List Byte → Result) : Prop :=
  ∀ (s : State) (p : List Byte) (l : Link), ((h s p).state.link l).desk = (s.link l).desk

theorem desk_of_tally {s t : State} (e : t.tally = s.tally) (l : Link) : (t.link l).desk = (s.link l).desk := by
  cases l
  · exact congrArg Tally.deskS e
  · exact congrArg Tally.deskO e

theorem KeepsDesks.of_tally {h : State → List Byte → Result} (hh : ∀ s p, (h s p).state.tally = s.tally) : KeepsDesks h :=
  fun s p => desk_of_tally (hh s p)

/-- DUMP writes the counters at most (R185). -/
theorem takeDump_link (s : State) (p : List Byte) (l : Link) : (takeDump s p).state.link l = s.link l := by
  unfold takeDump
  split
  · split
    · rfl
    · next clear _ => split_ifs <;> cases clear <;> cases l <;> rfl
  · rfl

theorem takeDump_keepsDesks : KeepsDesks takeDump := fun s p l => congrArg LinkState.desk (takeDump_link s p l)

/-- A command answers the request that its link holds ready: from the state with the request opened, it comes to one with the same
desk, and there the reply is written. -/
def Answers (c : Instr) (l : Link) (s : State) (f : Frame) : Prop :=
  ∃ (u : State) (r : Code) (d : List Byte), exec c s = .next (u.answer l f.kind r d) ∧ (u.link l).desk = ((s.openRequest l f).link l).desk

/-- A ready request of the flags or the statistics. -/
theorem takeLocal_ready {s : State} {l : Link} {f : Frame} {k : Byte} (h : Ready s l f k) (g : State → List Byte → Result) :
    s.takeLocal l (requestOf l k) g = (g (s.openRequest l f) f.payload).state.answer l f.kind
      (g (s.openRequest l f) f.payload).code (g (s.openRequest l f) f.payload).data := by
  simp only [State.takeLocal, requestFor_ready h]

section Answers
variable {c : Instr} {l : Link} {s : State} {f : Frame} {k : Byte} (ready : Ready s l f k) (kind : requestOf l k = c)
include ready kind

theorem answers_takeQuery {q : State → List Byte → Code × List Byte} (e : exec c s = .next (s.takeQuery l c q)) :
    Answers c l s f := by
  subst kind
  rw [takeQuery_ready ready] at e
  exact ⟨_, _, _, e, rfl⟩

theorem answers_takeRequest {h : State → List Byte → Result} (hh : KeepsDesks h) (e : exec c s = .next (s.takeRequest l c h)) :
    Answers c l s f := by
  subst kind
  rw [takeRequest_ready ready] at e
  refine ⟨_, _, _, e, ?_⟩
  split
  · rw [desk_of_tally (settle_tally ..), hh]
  · exact hh ..

theorem answers_takeLocal {h : State → List Byte → Result} (hh : KeepsDesks h) (e : exec c s = .next (s.takeLocal l c h)) :
    Answers c l s f := by
  subst kind
  rw [takeLocal_ready ready] at e
  exact ⟨_, _, _, e, hh ..⟩

theorem answers_shared (h : c ∈ sharedRequests l) : Answers c l s f := by
  simp only [sharedRequests, List.mem_cons, List.not_mem_nil, or_false] at h
  obtain rfl | rfl | rfl | rfl | rfl | rfl | rfl | rfl := h
  · exact answers_takeQuery ready kind rfl
  · exact answers_takeQuery ready kind rfl
  · exact answers_takeQuery ready kind rfl
  · exact answers_takeQuery ready kind rfl
  · exact answers_takeQuery ready kind rfl
  · exact answers_takeQuery ready kind rfl
  · exact answers_takeLocal ready kind (.of_tally fun s => takeAck_tally s l) rfl
  · exact answers_takeLocal ready kind takeDump_keepsDesks rfl

omit ready kind in
theorem answers_schedule (ready : Ready s .S f k) (kind : requestOf .S k = c) (h : c ∈ ownRequests .S) : Answers c .S s f := by
  simp only [ownRequests, List.mem_cons, List.not_mem_nil, or_false] at h
  obtain rfl | rfl | rfl | rfl | rfl := h
  · exact answers_takeRequest ready kind (.of_tally takeSlew_tally) rfl
  · exact answers_takeRequest ready kind (.of_tally takeCancel_tally) rfl
  · exact answers_takeRequest ready kind (.of_tally takeFlush_tally) rfl
  · exact answers_takeRequest ready kind (.of_tally takeResume_tally) rfl
  · exact answers_takeRequest ready kind (.of_tally takeRest_tally) rfl

omit ready kind in
theorem answers_console (ready : Ready s .O f k) (kind : requestOf .O k = c) (h : c ∈ ownRequests .O) : Answers c .O s f := by
  simp only [ownRequests, List.mem_cons, List.not_mem_nil, or_false] at h
  obtain rfl | rfl | rfl | rfl | rfl | rfl | rfl | rfl | rfl | rfl | rfl | rfl | rfl | rfl := h
  · exact answers_takeRequest ready kind (.of_tally takeSteer_tally) rfl
  · exact answers_takeRequest ready kind (.of_tally takeHalt_tally) rfl
  · exact answers_takeRequest ready kind (.of_tally takeStowAll_tally) rfl
  · exact answers_takeRequest ready kind (.of_tally takeUnstow_tally) rfl
  · exact answers_takeRequest ready kind (.of_tally takeSnowOn_tally) rfl
  · exact answers_takeRequest ready kind (.of_tally takeSnowOff_tally) rfl
  · exact answers_takeRequest ready kind (.of_tally takeConsoleLock_tally) rfl
  · exact answers_takeRequest ready kind (.of_tally takeConsoleUnlock_tally) rfl
  · exact answers_takeRequest ready kind (.of_tally takeWriteOff_tally) rfl
  · exact answers_takeRequest ready kind (.of_tally takeEnable_tally) rfl
  · exact answers_takeRequest ready kind (.of_tally takeDisable_tally) rfl
  · exact answers_takeRequest ready kind (.of_tally takeSet_tally) rfl
  · exact answers_takeQuery ready kind rfl
  · exact answers_takeRequest ready kind (.of_tally takeClear_tally) rfl

end Answers

/-- Whatever kind of request a link holds ready, its command answers it. -/
theorem answers_requestOf {l : Link} {k : Byte} {s : State} {f : Frame} (ready : Ready s l f k) :
    Answers (requestOf l k) l s f := by
  obtain shared | own | unknown := requestOf_cases l k
  · exact answers_shared ready rfl shared
  · cases l with
    | S => exact answers_schedule ready rfl own
    | O => exact answers_console ready rfl own
  · have taken := requestFor_ready ready
    rw [unknown] at taken ⊢
    exact ⟨s.openRequest l f, _, _, congrArg Host.Outcome.next (by simp only [State.takeUnknown, taken]; rfl), rfl⟩

/-! ### One reply (R176) -/

/-- Where no reply is on its way, one that is placed is the only one. -/
theorem LinkState.placeTail_replies {k : LinkState} {f : Frame} (idle : k.desk.replies = []) (reply : f.isReply = true) :
    (k.placeTail f).desk.replies = [f] := by
  cases hs : k.sending <;> simp_all [desk, placeTail, outgoing, List.filter_append]

theorem LinkState.replies_of_not_busy {k : LinkState} (h : k.replyBusy = false) : k.desk.replies = [] := by
  simpa [desk, replyBusy, List.filter_eq_nil_iff] using h

/-- A request that is opened leaves the FIFO, and its reply is the only one on its way (R175, R176). -/
theorem openRequest_desk {s : State} {l : Link} (f : Frame) (free : (s.link l).replyBusy = false) :
    ((s.openRequest l f).link l).desk =
      { fifo := (s.link l).fifo.tail, replies := [{ kind := kindReply, tag := f.tag, payload := [] }] } := by
  unfold State.openRequest
  rw [modLink_link_same]
  have judged := LinkState.judgeGo_desk { s.link l with fifo := (s.link l).fifo.tail } s.cfg.goAt
  have idle := (congrArg Desk.replies judged).trans (LinkState.replies_of_not_busy (k := s.link l) free)
  have fifo := congrArg Desk.fifo judged
  exact congrArg₂ Desk.mk ((placeTail_fifo ..).trans fifo) (LinkState.placeTail_replies idle rfl)

@[simp] theorem fillFrame_isReply (p : List Byte) (f : Frame) : (fillFrame p f).isReply = f.isReply := by
  unfold fillFrame
  split <;> rfl

/-- The reply is written where it stands. -/
theorem LinkState.fillReply_desk (k : LinkState) (p : List Byte) :
    (k.fillReply p).desk = { k.desk with replies := k.desk.replies.map (fillFrame p) } := by
  have filled : (k.fillReply p).outgoing = k.outgoing.map (fillFrame p) := by
    cases hs : k.sending <;> simp [fillReply, outgoing, hs]
  have same : Frame.isReply ∘ fillFrame p = Frame.isReply := funext (fillFrame_isReply p)
  exact congrArg (Desk.mk k.fifo) (by rw [filled, List.filter_map, same]; rfl)

/-- Settles O12: the command answers from the desk of the opened request, and the reply is written there. -/
theorem everyRequestAnsweredOnce : Obligations.EveryRequestAnsweredOnce := by
  intro l s f front free
  obtain ⟨u, r, d, e, desk⟩ := answers_requestOf (s := s) (k := f.kind) ⟨front, free, rfl⟩
  rw [openRequest_desk f free] at desk
  have answered : ((u.answer l f.kind r d).link l).desk = { fifo := (s.link l).fifo.tail, replies := [
      { kind := kindReply, tag := f.tag, payload := replyPayload f.kind r d }] } := by
    rw [State.answer, modLink_link_same, LinkState.fillReply_desk, desk]
    rfl
  exact ⟨_, _, e, congrArg Desk.fifo answered, congrArg Desk.replies answered, rfl, r, d, rfl⟩

/-! ### Refusals (R176) -/

/-- What takes a request leaves the state as it is where it does not answer DONE. -/
def Refuses (h : State → List Byte → Result) : Prop := ∀ s p, (h s p).code ≠ .done → (h s p).state = s

/-- A handler without arguments refuses as what it runs. -/
theorem noArgs_refuses {s : State} {p : List Byte} {r : Unit → Result} (hr : (r ()).code ≠ .done → (r ()).state = s)
    (refused : (noArgs p r s).code ≠ .done) : (noArgs p r s).state = s := by
  unfold noArgs at refused ⊢
  split_ifs at refused ⊢
  · exact hr refused
  · rfl

theorem takeSlew_refuses : Refuses takeSlew := by
  intro s p
  unfold takeSlew
  split
  · exact fun _ => rfl
  · split
    · exact fun _ => rfl
    · exact absurd rfl

theorem takeCancel_refuses : Refuses takeCancel := by
  intro s p
  unfold takeCancel
  split
  · split
    · exact fun _ => rfl
    · split
      · exact fun _ => rfl
      · exact absurd rfl
  · exact fun _ => rfl

theorem takeFlush_refuses : Refuses takeFlush := fun _ _ => noArgs_refuses (absurd rfl)

theorem takeResume_refuses : Refuses takeResume := fun _ _ => noArgs_refuses (absurd rfl)

theorem takeRest_refuses : Refuses takeRest := by
  intro s p
  unfold takeRest
  split
  · exact fun _ => rfl
  · exact absurd rfl

theorem takeSteer_refuses : Refuses takeSteer := by
  intro s p
  unfold takeSteer
  split
  · exact fun _ => rfl
  · split
    · exact fun _ => rfl
    · exact absurd rfl

theorem takeHalt_refuses : Refuses takeHalt := by
  intro s p
  unfold takeHalt
  split
  · exact fun _ => rfl
  · exact absurd rfl

theorem takeStowAll_refuses : Refuses takeStowAll := fun _ _ => noArgs_refuses (absurd rfl)

theorem takeUnstow_refuses : Refuses takeUnstow := by
  refine fun s p => noArgs_refuses ?_
  dsimp only
  split
  · exact absurd rfl
  · split
    · exact absurd rfl
    · exact fun _ => rfl

theorem takeSnowOn_refuses : Refuses takeSnowOn := fun _ _ => noArgs_refuses (absurd rfl)

theorem takeSnowOff_refuses : Refuses takeSnowOff := fun _ _ => noArgs_refuses (absurd rfl)

theorem takeConsoleLock_refuses : Refuses takeConsoleLock := by
  intro s p
  unfold takeConsoleLock
  split
  · exact fun _ => rfl
  · split
    · exact fun _ => rfl
    · exact absurd rfl

theorem takeConsoleUnlock_refuses : Refuses takeConsoleUnlock := by
  intro s p
  unfold takeConsoleUnlock
  split
  · exact fun _ => rfl
  · split
    · exact fun _ => rfl
    · split
      · exact absurd rfl
      · exact fun _ => rfl

theorem takeWriteOff_refuses : Refuses takeWriteOff := by
  intro s p
  unfold takeWriteOff
  split
  · exact fun _ => rfl
  · split
    · exact absurd rfl
    · exact fun _ => rfl

theorem takeEnable_refuses : Refuses takeEnable := by
  intro s p
  unfold takeEnable
  split
  · exact fun _ => rfl
  · exact absurd rfl

theorem takeDisable_refuses : Refuses takeDisable := by
  intro s p
  unfold takeDisable
  split
  · exact fun _ => rfl
  · dsimp only
    split
    · exact absurd rfl
    · exact fun _ => rfl

theorem takeSet_refuses : Refuses takeSet := by
  intro s p
  unfold takeSet
  split
  · exact fun _ => rfl
  · split
    · split
      · exact fun _ => rfl
      · dsimp only
        split
        · exact fun _ => rfl
        · exact absurd rfl
    · exact fun _ => rfl

theorem takeClear_refuses : Refuses takeClear := fun _ _ => noArgs_refuses (absurd rfl)

theorem takeAck_refuses (l : Link) : Refuses (takeAck l) := by
  intro s p
  unfold takeAck
  split
  · exact absurd rfl
  · exact fun _ => rfl

theorem takeDump_refuses : Refuses takeDump := by
  intro s p
  unfold takeDump
  split
  · split
    · exact fun _ => rfl
    · split
      · exact absurd rfl
      · split
        · exact absurd rfl
        · exact fun _ => rfl
  · exact fun _ => rfl

/-- A refused request only answers: as one that acts, or as one of the flags or the statistics. -/
theorem takeRequest_only_answers {s : State} {l : Link} {f : Frame} {k : Byte} {h : State → List Byte → Result}
    (ready : Ready s l f k) (hh : Refuses h) (refused : (h (s.openRequest l f) f.payload).code ≠ .done) :
    s.takeRequest l (requestOf l k) h = requestAnswered s l f (h (s.openRequest l f) f.payload).code
      (h (s.openRequest l f) f.payload).data := by
  rw [takeRequest_ready ready, if_neg refused, hh _ _ refused]
  rfl

theorem takeLocal_only_answers {s : State} {l : Link} {f : Frame} {k : Byte} {h : State → List Byte → Result}
    (ready : Ready s l f k) (hh : Refuses h) (refused : (h (s.openRequest l f) f.payload).code ≠ .done) :
    s.takeLocal l (requestOf l k) h = requestAnswered s l f (h (s.openRequest l f) f.payload).code
      (h (s.openRequest l f) f.payload).data := by
  rw [takeLocal_ready ready, hh _ _ refused]
  rfl

/-- The frame of a request that only answers leaves the FIFO. -/
theorem requestAnswered_fifo (s : State) (l : Link) (f : Frame) (c : Code) (d : List Byte) :
    ((requestAnswered s l f c d).link l).fifo = (s.link l).fifo.tail := by
  unfold requestAnswered State.openRequest State.answer
  rw [modLink_link_same, modLink_link_same]
  have judged := LinkState.judgeGo_desk { s.link l with fifo := (s.link l).fifo.tail } s.cfg.goAt
  exact (placeTail_fifo ..).trans (congrArg Desk.fifo judged)

/-- What O14 says of a command that takes a request of a link with this handler. -/
def RefusalKeeps (s : State) (f : Frame) (x : Link × Instr × (State → List Byte → Result)) : Prop :=
  (s.link x.1).fifo.head? = some f → (s.link x.1).replyBusy = false → requestOf x.1 f.kind = x.2.1 →
    (x.2.2 (s.openRequest x.1 f) f.payload).code ≠ .done →
    ∃ t, exec x.2.1 s = .next t ∧
      t = requestAnswered s x.1 f (x.2.2 (s.openRequest x.1 f) f.payload).code
        (x.2.2 (s.openRequest x.1 f) f.payload).data ∧
      OnlyLink x.1 s t ∧ (t.link x.1).fifo = (s.link x.1).fifo.tail ∧ (t.link x.1).flags = (s.link x.1).flags ∧
      (t.link x.1).rx = (s.link x.1).rx

section RefusalKeeps
variable {s : State} {f : Frame} {l : Link} {c : Instr} {h : State → List Byte → Result}

theorem refusalKeeps_of_answered (answered : (s.link l).fifo.head? = some f → (s.link l).replyBusy = false →
    requestOf l f.kind = c → (h (s.openRequest l f) f.payload).code ≠ .done →
    exec c s = .next (requestAnswered s l f (h (s.openRequest l f) f.payload).code (h (s.openRequest l f) f.payload).data)) :
    RefusalKeeps s f (l, c, h) := by
  intro front free kind refused
  obtain ⟨only, flags, rx⟩ := requestAnswered_onlyLink s l f _ _
  exact ⟨_, answered front free kind refused, rfl, only, requestAnswered_fifo .., flags, rx⟩

theorem refusalKeeps_takeRequest (hh : Refuses h) (e : exec c s = .next (s.takeRequest l c h)) : RefusalKeeps s f (l, c, h) := by
  refine refusalKeeps_of_answered fun front free kind refused => ?_
  subst kind
  rw [e, takeRequest_only_answers ⟨front, free, rfl⟩ hh refused]

theorem refusalKeeps_takeLocal (hh : Refuses h) (e : exec c s = .next (s.takeLocal l c h)) : RefusalKeeps s f (l, c, h) := by
  refine refusalKeeps_of_answered fun front free kind refused => ?_
  subst kind
  rw [e, takeLocal_only_answers ⟨front, free, rfl⟩ hh refused]

end RefusalKeeps

/-- Settles O14, handler by handler. -/
theorem refusedRequestChangesNothing : Obligations.RefusedRequestChangesNothing := by
  refine ⟨fun s p => ?handlers, fun s f => ?commands⟩
  case handlers =>
    simp only [List.forall_mem_cons, List.not_mem_nil, false_imp_iff, implies_true, and_true]
    exact ⟨takeSlew_refuses s p, takeCancel_refuses s p, takeFlush_refuses s p, takeResume_refuses s p, takeRest_refuses s p,
      takeSteer_refuses s p, takeHalt_refuses s p, takeStowAll_refuses s p, takeUnstow_refuses s p, takeSnowOn_refuses s p,
      takeSnowOff_refuses s p, takeConsoleLock_refuses s p, takeConsoleUnlock_refuses s p, takeWriteOff_refuses s p,
      takeEnable_refuses s p, takeDisable_refuses s p, takeSet_refuses s p, takeClear_refuses s p, takeAck_refuses .S s p,
      takeAck_refuses .O s p, takeDump_refuses s p⟩
  case commands =>
    change ∀ x ∈ _, RefusalKeeps s f x
    simp only [List.forall_mem_cons, List.not_mem_nil, false_imp_iff, implies_true, and_true]
    exact ⟨refusalKeeps_takeRequest takeSlew_refuses rfl, refusalKeeps_takeRequest takeCancel_refuses rfl,
      refusalKeeps_takeRequest takeFlush_refuses rfl, refusalKeeps_takeRequest takeResume_refuses rfl,
      refusalKeeps_takeRequest takeRest_refuses rfl, refusalKeeps_takeRequest takeSteer_refuses rfl,
      refusalKeeps_takeRequest takeHalt_refuses rfl, refusalKeeps_takeRequest takeStowAll_refuses rfl,
      refusalKeeps_takeRequest takeUnstow_refuses rfl, refusalKeeps_takeRequest takeSnowOn_refuses rfl,
      refusalKeeps_takeRequest takeSnowOff_refuses rfl, refusalKeeps_takeRequest takeConsoleLock_refuses rfl,
      refusalKeeps_takeRequest takeConsoleUnlock_refuses rfl, refusalKeeps_takeRequest takeWriteOff_refuses rfl,
      refusalKeeps_takeRequest takeEnable_refuses rfl, refusalKeeps_takeRequest takeDisable_refuses rfl,
      refusalKeeps_takeRequest takeSet_refuses rfl, refusalKeeps_takeRequest takeClear_refuses rfl,
      refusalKeeps_takeLocal (takeAck_refuses .S) rfl, refusalKeeps_takeLocal (takeAck_refuses .O) rfl,
      refusalKeeps_takeLocal takeDump_refuses rfl, refusalKeeps_takeLocal takeDump_refuses rfl⟩

end Sys2Proof.Machine

/-! # Control links: the transmit order, flow control and notices (O19, O20, O21) -/

namespace Sys2Proof.Machine

/-! ### The end of a frame (R177, R178) -/

/-- The next frame of the transmit order is sent, and nothing else of the link changes. -/
theorem LinkState.endFrame_eq (k : LinkState) : k.endFrame = { k with sending := k.order.head?, order := k.order.tail } := by
  obtain ⟨rx, fifo, paused, order, sending, flags⟩ := k
  cases order <;> rfl

/-- The frame that has ended gives back the place of a report that it took. -/
theorem LinkState.endFrame_reportCount (k : LinkState) :
    k.endFrame.reportCount + k.sending.toList.countP (·.isReport) = k.reportCount := by
  rw [endFrame_eq, reportCount_eq, reportCount_eq]
  cases k.order with
  | nil => simp
  | cons f rest => simp [List.countP_cons, add_comm]

/-- Settles O19. -/
theorem transmitFrameEndBeginsNext : Obligations.TransmitFrameEndBeginsNext := by
  intro l s
  refine ⟨s.modLink l LinkState.endFrame, rfl, ⟨_, rfl⟩, ?_⟩
  rw [modLink_link_same]
  refine ⟨?_, ?_, ?_, ?_, ?_, ?_, LinkState.endFrame_reportCount _⟩
  all_goals rw [LinkState.endFrame_eq]

/-! ### PAUSE and GO (R175, R177) -/

namespace LinkState
variable {k : LinkState} {n : Nat}

theorem pauseFrame_goFrame_kinds : pauseFrame.isPause = true ∧ pauseFrame.isGo = false ∧ goFrame.isPause = false ∧ goFrame.isGo = true := by
  decide

theorem isGo_of_isPause {f : Frame} (h : f.isPause = true) : f.isGo = false := by
  simp [Frame.isGo, eq_of_beq h, kindPause, kindGo]

/-- A count that reaches PAUSE_AT with the flag clear takes a GO out and places PAUSE. -/
theorem judgePause_reached (reached : n ≤ k.fifo.length) (clear : k.paused = false) :
    k.judgePause n = placeHead { k with paused := true, order := k.order.filter fun f => !f.isGo } pauseFrame :=
  if_pos ⟨reached, clear⟩

theorem judgePause_else (h : k.fifo.length < n ∨ k.paused = true) : k.judgePause n = k :=
  if_neg fun ⟨reached, clear⟩ => by
    obtain below | set := h
    · omega
    · simp [set] at clear

/-- A count that reaches GO_AT with the flag set takes out a PAUSE that still waits. -/
theorem judgeGo_withdraws (reached : k.fifo.length ≤ n) (set : k.paused = true) (waits : k.order.any Frame.isPause = true) :
    k.judgeGo n = { k with paused := false, order := k.order.filter fun f => !f.isPause } :=
  (if_pos ⟨reached, set⟩).trans (if_pos waits)

/-- It places GO where no PAUSE waits. -/
theorem judgeGo_sends (reached : k.fifo.length ≤ n) (set : k.paused = true) (gone : k.order.any Frame.isPause = false) :
    k.judgeGo n = placeHead { k with paused := false } goFrame :=
  (if_pos ⟨reached, set⟩).trans (if_neg (by simp [gone]))

theorem judgeGo_else (h : n < k.fifo.length ∨ k.paused = false) : k.judgeGo n = k :=
  if_neg fun ⟨reached, set⟩ => by
    obtain above | clear := h
    · omega
    · simp [clear] at set

theorem placeHead_sending (busy : k.sending.isSome = true) (f : Frame) : k.placeHead f = { k with order := f :: k.order } := by
  obtain ⟨g, hg⟩ := Option.isSome_iff_exists.mp busy
  simp [placeHead, hg]

theorem placeHead_idle (idle : k.sending = none) (f : Frame) : k.placeHead f = { k with sending := some f } := by
  simp [placeHead, idle]

@[simp] theorem placeHead_paused (k : LinkState) (f : Frame) : (k.placeHead f).paused = k.paused := by
  unfold placeHead
  split <;> rfl

/-- A frame at the head adds at most itself to what waits. -/
theorem placeHead_any (k : LinkState) {f : Frame} {p : Frame → Bool} (hp : p f = false) :
    (k.placeHead f).order.any p = k.order.any p := by
  unfold placeHead
  split <;> simp [hp]

/-- Taking PAUSE out of the transmit order leaves every GO. -/
theorem countP_isGo_filter (l : List Frame) : (l.filter fun f => !f.isPause).countP Frame.isGo = l.countP Frame.isGo := by
  rw [List.countP_filter]
  refine List.countP_congr fun f _ => ?_
  cases hf : f.isPause with
  | false => simp
  | true => simp [isGo_of_isPause hf]

/-- No GO waits after PAUSE has been placed. -/
theorem judgePause_noGo (reached : n ≤ k.fifo.length) (clear : k.paused = false) : (k.judgePause n).order.any Frame.isGo = false := by
  rw [judgePause_reached reached clear, placeHead_any _ pauseFrame_goFrame_kinds.2.1]
  simp

/-- A join that reaches PAUSE_AT. -/
theorem judgePause_pauses (reached : n ≤ k.fifo.length) (clear : k.paused = false) :
    (k.judgePause n).paused = true ∧ (k.judgePause n).order.any Frame.isGo = false ∧
    (k.sending.isSome = true → (k.judgePause n).order.head? = some pauseFrame ∧ (k.judgePause n).sending = k.sending) ∧
    (k.sending = none → (k.judgePause n).sending = some pauseFrame) := by
  refine ⟨?_, judgePause_noGo reached clear, fun busy => ?_, fun idle => ?_⟩ <;> rw [judgePause_reached reached clear]
  · exact placeHead_paused ..
  · rw [placeHead_sending (by exact busy)]
    exact ⟨rfl, rfl⟩
  · rw [placeHead_idle (by exact idle)]

/-- A taking that reaches GO_AT while PAUSE still waits. -/
theorem judgeGo_withdrawn (reached : k.fifo.length ≤ n) (set : k.paused = true) (waits : k.order.any Frame.isPause = true) :
    (k.judgeGo n).paused = false ∧ (k.judgeGo n).outgoing.countP (·.isGo) = k.outgoing.countP (·.isGo) ∧
      (k.judgeGo n).order.any Frame.isPause = false ∧ (k.judgeGo n).sending = k.sending := by
  rw [judgeGo_withdraws reached set waits]
  refine ⟨rfl, ?_, by simp, rfl⟩
  simp only [outgoing, List.countP_append, countP_isGo_filter]

/-- A taking that reaches GO_AT after PAUSE has gone. -/
theorem judgeGo_goes (reached : k.fifo.length ≤ n) (set : k.paused = true) (gone : k.order.any Frame.isPause = false) :
    (k.judgeGo n).paused = false ∧
    (k.sending.isSome = true → (k.judgeGo n).order = goFrame :: k.order ∧ (k.judgeGo n).sending = k.sending) ∧
    (k.sending = none → (k.judgeGo n).sending = some goFrame) := by
  rw [judgeGo_sends reached set gone]
  refine ⟨placeHead_paused .., fun busy => ?_, fun idle => ?_⟩
  · rw [placeHead_sending (by exact busy)]
    exact ⟨rfl, rfl⟩
  · rw [placeHead_idle (by exact idle)]

/-- PAUSE and GO wait together. -/
def Clash (k : LinkState) : Prop := k.order.any Frame.isPause = true ∧ k.order.any Frame.isGo = true

theorem judgePause_noClash (h : ¬ k.Clash) (n : Nat) : ¬ (k.judgePause n).Clash := by
  by_cases reached : n ≤ k.fifo.length ∧ k.paused = false
  · exact fun ⟨_, go⟩ => Bool.false_ne_true ((judgePause_noGo reached.1 reached.2).symm.trans go)
  · rwa [show k.judgePause n = k from if_neg reached]

theorem judgeGo_noClash (h : ¬ k.Clash) (n : Nat) : ¬ (k.judgeGo n).Clash := by
  by_cases reached : k.fifo.length ≤ n ∧ k.paused = true
  · have noPause : (k.judgeGo n).order.any Frame.isPause = false := by
      cases waits : k.order.any Frame.isPause with
      | true => exact (judgeGo_withdrawn reached.1 reached.2 waits).2.2.1
      | false => rw [judgeGo_sends reached.1 reached.2 waits, placeHead_any _ pauseFrame_goFrame_kinds.2.2.1]; exact waits
    exact fun ⟨pause, _⟩ => Bool.false_ne_true (noPause.symm.trans pause)
  · rwa [show k.judgeGo n = k from if_neg reached]

theorem not_clash_iff (k : LinkState) : ¬ k.Clash ↔ (k.order.any Frame.isPause && k.order.any Frame.isGo) = false := by
  rw [Clash, ← Bool.and_eq_true, Bool.not_eq_true]

end LinkState

/-- A frame that finds a place joins the FIFO, and the count is judged (R174, R175). -/
theorem joinFifo_link {s : State} {l : Link} (f : Frame) (room : (s.link l).fifo.length < 8) :
    (s.joinFifo l f).link l = LinkState.judgePause { s.link l with fifo := (s.link l).fifo ++ [f] } s.cfg.pauseAt := by
  unfold State.joinFifo
  rw [if_neg (by unfold fifoPlaces; omega), modLink_link_same]

/-- Settles O20. -/
theorem flowControlFollowsCount : Obligations.FlowControlFollowsCount :=
  ⟨fun _ _ f => joinFifo_link f, fun _ _ _ => modLink_link_same .., fun _ _ => LinkState.judgePause_pauses,
    fun _ _ => LinkState.judgePause_else, fun _ _ => LinkState.judgeGo_withdrawn, fun _ _ => LinkState.judgeGo_goes,
    fun _ _ => LinkState.judgeGo_else, fun k n apart => by
      have h := k.not_clash_iff.mpr apart
      exact ⟨(LinkState.not_clash_iff _).mp (LinkState.judgePause_noClash h n),
        (LinkState.not_clash_iff _).mp (LinkState.judgeGo_noClash h n)⟩⟩

/-! ### Notices (R179) -/

namespace LinkState
variable (k : LinkState)

/-- A notice waits or is being sent once it has been produced. -/
theorem produceNotice_mem (now : Nat) : noticeFrame k.flags now ∈ (k.produceNotice now).outgoing := by
  unfold produceNotice
  dsimp only
  split
  next waits =>
    obtain ⟨f, hf, notice⟩ := List.any_eq_true.mp waits
    refine List.mem_append_right _ (List.mem_map.mpr ⟨f, hf, if_pos notice⟩)
  next => exact (mem_placeTail ..).mpr (.inr rfl)

/-- A notice takes the place of those that wait, or is the only one that does. -/
theorem produceNotice_countP (now : Nat) :
    (k.produceNotice now).order.countP (·.isNotice) ≤ max 1 (k.order.countP (·.isNotice)) := by
  unfold produceNotice
  dsimp only
  split
  next =>
    rw [List.countP_map]
    refine le_trans (le_of_eq (List.countP_congr fun f _ => ?_)) (le_max_right _ _)
    cases hf : f.isNotice with
    | false => simp [hf]
    | true => simp [hf, Function.comp_apply, show (noticeFrame k.flags now).isNotice = true from rfl]
  next fresh =>
    have zero : k.order.countP (·.isNotice) = 0 := by simpa [List.countP_eq_zero] using fresh
    have one : [noticeFrame k.flags now].countP (·.isNotice) ≤ 1 := List.countP_le_length
    cases hs : k.sending with
    | none => simp [placeTail, hs, zero]
    | some g =>
      simp only [placeTail, hs, List.countP_append, zero]
      omega

@[simp] theorem produceNotice_flags (now : Nat) : (k.produceNotice now).flags = k.flags := by
  unfold produceNotice
  dsimp only
  split
  · rfl
  · exact placeTail_flags ..

theorem raiseFlag_raised {f : NoticeFlag} (raised : k.flags.getLsbD f.bit.val = true) (mask : BitVec 10) (now : Nat) :
    k.raiseFlag mask now f = k := if_pos raised

/-- The rise of a flag: under the mask it produces a notice. -/
theorem raiseFlag_rises {f : NoticeFlag} (low : k.flags.getLsbD f.bit.val = false) (mask : BitVec 10) (now : Nat) :
    k.raiseFlag mask now f = if mask.getLsbD f.bit.val = true then
      produceNotice { k with flags := k.flags ||| (1 <<< f.bit.val) } now else { k with flags := k.flags ||| (1 <<< f.bit.val) } :=
  if_neg (Bool.not_eq_true _ ▸ low)

theorem raiseFlag_notifies {f : NoticeFlag} (low : k.flags.getLsbD f.bit.val = false) (mask : BitVec 10) (now : Nat) :
    (k.raiseFlag mask now f).flags = k.flags ||| (1 <<< f.bit.val) ∧
      (mask.getLsbD f.bit.val = false → (k.raiseFlag mask now f).outgoing = k.outgoing) ∧
      (mask.getLsbD f.bit.val = true →
        noticeFrame (k.flags ||| (1 <<< f.bit.val)) now ∈ (k.raiseFlag mask now f).outgoing ∧
        (k.raiseFlag mask now f).order.countP (·.isNotice) ≤ max 1 (k.order.countP (·.isNotice))) := by
  rw [raiseFlag_rises k low]
  cases masked : mask.getLsbD f.bit.val with
  | false => exact ⟨rfl, fun _ => rfl, nofun⟩
  | true => exact ⟨produceNotice_flags .., nofun, fun _ => ⟨produceNotice_mem _ now, produceNotice_countP _ now⟩⟩

end LinkState

/-- A SET of a mask that adds a raised flag to it produces a notice, and otherwise does nothing more. -/
theorem maskSet_eq (s : State) (l : Link) (before : BitVec 10) : s.maskSet l before =
    if (s.link l).flags &&& s.mask l &&& ~~~before = 0 then s else s.modLink l fun k => k.produceNotice s.clock := rfl

/-- Settles O21. -/
theorem raisingAFlagNotifiesOnce : Obligations.RaisingAFlagNotifiesOnce := by
  refine ⟨fun k mask now f => ⟨fun raised => k.raiseFlag_raised raised mask now, fun low => k.raiseFlag_notifies low mask now⟩,
    fun s l f => modLink_link_same .., fun s before => ⟨rfl, rfl⟩, fun s l before => ⟨fun kept => ?_, fun added => ?_⟩⟩
  · rw [maskSet_eq, if_pos kept]
  · rw [maskSet_eq, if_neg added, modLink_link_same]
    exact ⟨LinkState.produceNotice_flags .., LinkState.produceNotice_mem .., LinkState.produceNotice_countP ..⟩

end Sys2Proof.Machine

/-! # Receivers: frames recovered, taken and discarded (O16, O18) -/

namespace Sys2Proof.Machine

/-! ### Flags that rise (R179) -/

@[simp] theorem LinkState.produceNotice_rx (k : LinkState) (now : Nat) : (k.produceNotice now).rx = k.rx := by
  unfold LinkState.produceNotice
  dsimp only
  split
  · rfl
  · exact LinkState.placeTail_rx ..

@[simp] theorem LinkState.raiseFlag_rx (k : LinkState) (mask : BitVec 10) (now : Nat) (x : NoticeFlag) :
    (k.raiseFlag mask now x).rx = k.rx := by
  unfold LinkState.raiseFlag
  dsimp only
  split
  · rfl
  · split
    · exact LinkState.produceNotice_rx ..
    · rfl

/-- A flag stands raised once it has been raised. -/
theorem LinkState.raiseFlag_flag (k : LinkState) (mask : BitVec 10) (now : Nat) (x : NoticeFlag) :
    (k.raiseFlag mask now x).flags.getLsbD x.bit.val = true := by
  cases h : k.flags.getLsbD x.bit.val with
  | true => rwa [k.raiseFlag_raised h]
  | false =>
    have set : (1#10 <<< x.bit.val).getLsbD x.bit.val = true := by simp
    rw [(k.raiseFlag_notifies h mask now).1, BitVec.getLsbD_or]
    exact Bool.or_eq_true_iff.mpr (.inr set)

theorem notice_flag (s : State) (l : Link) (x : NoticeFlag) : ((s.notice l x).link l).flags.getLsbD x.bit.val = true := by
  rw [State.notice, modLink_link_same]
  exact LinkState.raiseFlag_flag ..

theorem notice_fifo (s : State) (l : Link) (x : NoticeFlag) : ((s.notice l x).link l).fifo = (s.link l).fifo := by
  rw [State.notice, modLink_link_same]
  exact congrArg Desk.fifo (LinkState.raiseFlag_desk ..)

theorem LinkState.judgePause_rx (k : LinkState) (n : Nat) : (k.judgePause n).rx = k.rx := by
  unfold LinkState.judgePause
  split
  · exact LinkState.placeHead_rx ..
  · rfl

/-! ### What a line's receiver reads (R173) -/

theorem rx_lineOf (s : State) (l : Link) : s.rx (lineOf l) = (s.link l).rx := by cases l <;> rfl

@[simp] theorem setRx_rx (s : State) (ln : Line) (r : Receiver) : (s.setRx ln r).rx ln = r := by cases ln <;> rfl

@[simp] theorem setRx_stats (s : State) (ln : Line) (r : Receiver) : (s.setRx ln r).stats = s.stats := by cases ln <;> rfl

@[simp] theorem modLine_rx (s : State) (ln m : Line) (f : LineStats → LineStats) : (s.modLine ln f).rx m = s.rx m := by
  cases m <;> simp [State.rx]

@[simp] theorem notice_rx (s : State) (l : Link) (x : NoticeFlag) (ln : Line) : (s.notice l x).rx ln = s.rx ln := by
  cases l <;> cases ln <;> simp [State.rx, State.notice, State.modLink]

/-! ### Frames that are gathered on a control link (R174) -/

section Gathered
variable (s : State) (l : Link) (f : Frame) (rest : List Byte)

theorem gathered_rx (ln : Line) : (s.gathered ln rest).rx ln = { collecting := false, held := rest } := by
  simp [State.gathered]

theorem gathered_line (ln : Line) :
    (s.gathered ln rest).stats.line ln = { s.stats.line ln with good := bump (s.stats.line ln).good } := by
  simp [State.gathered]

theorem gathered_fifo : ((s.gathered (lineOf l) rest).link l).fifo = (s.link l).fifo := by cases l <;> rfl

/-- A frame that finds a place joins the tail of the FIFO, and its line counts nothing more. -/
theorem joinFifo_joins (room : (s.link l).fifo.length < 8) :
    ((s.joinFifo l f).link l).fifo = (s.link l).fifo ++ [f] ∧ (s.joinFifo l f).stats = s.stats ∧
      (s.joinFifo l f).rx (lineOf l) = s.rx (lineOf l) := by
  refine ⟨?_, ?_, ?_⟩
  · rw [joinFifo_link f room]
    exact congrArg Desk.fifo (LinkState.judgePause_desk ..)
  · rw [State.joinFifo, if_neg (by unfold fifoPlaces; omega)]
    exact modLink_stats ..
  · rw [rx_lineOf, rx_lineOf, joinFifo_link f room]
    exact LinkState.judgePause_rx ..

/-- A frame that finds none is dropped, which is counted and raises LOST_INPUT. -/
theorem joinFifo_drops (full : ¬ (s.link l).fifo.length < 8) :
    s.joinFifo l f = (s.modLine (lineOf l) fun t => { t with dropped := bump t.dropped }).notice l .lostInput :=
  if_pos (by unfold fifoPlaces; omega)

end Gathered

/-- A good frame on a control link (R173, R174). -/
theorem linkFrameReceived_good {s : State} {l : Link} {b rest : List Byte} {f : Frame}
    (good : (s.rx (lineOf l)).find b = .good f rest) :
    exec (.linkFrameReceived l b) s = .next ((s.gathered (lineOf l) rest).joinFifo l f) := by
  refine congrArg Host.Outcome.next ?_
  rw [State.linkFrame, good]

/-! ### Candidates that are discarded (R173) -/

theorem badFrame_bad {s : State} {ln : Line} {b held : List Byte} (bad : (s.rx ln).find b = .bad held) :
    exec (.badFrame ln b) s = .next (s.discard ln held) := by
  refine congrArg Host.Outcome.next ?_
  rw [State.badFrame, bad]

theorem collectingStart_start {s : State} {ln : Line} {b held : List Byte} (start : (s.rx ln).find b = .start held) :
    exec (.collectingStart ln b) s = .next (s.setRx ln { collecting := true, held := held }) := by
  refine congrArg Host.Outcome.next ?_
  rw [State.startCollecting, start]

/-- Settles O18: the three events, and the two ways of a good frame. -/
theorem candidatesAreTakenOrDiscarded : Obligations.CandidatesAreTakenOrDiscarded := by
  refine ⟨fun l b s f rest good => ⟨_, linkFrameReceived_good good, ?frame⟩,
    fun ln b held s bad => ⟨_, badFrame_bad bad, ?discard⟩, fun ln b held s => collectingStart_start⟩
  case frame =>
    have fifo := gathered_fifo s l rest
    have line := gathered_line s rest (lineOf l)
    have rx := gathered_rx s rest (lineOf l)
    split
    next room =>
      obtain ⟨joined, stats, kept⟩ := joinFifo_joins (s.gathered (lineOf l) rest) l f (by rwa [fifo])
      rw [joined, stats, kept, line, fifo]
      exact ⟨rfl, rx, rfl, rfl⟩
    next full =>
      rw [joinFifo_drops (s.gathered (lineOf l) rest) l f (by rwa [fifo])]
      refine ⟨?_, ?_, ?_, ?_, notice_flag ..⟩
      · rw [notice_stats, modLine_line_same, line]
      · rw [notice_rx, modLine_rx, rx]
      · rw [notice_fifo, modLine_link, fifo]
      · rw [notice_stats, modLine_line_same, line]
  case discard =>
    refine ⟨?_, ?_, notice_flag ..⟩
    · rw [State.discard, notice_rx, modLine_rx, setRx_rx]
    · rw [State.discard, notice_stats, modLine_line_same, setRx_stats]

/-! ### Frames that are recovered (R173, R187, R188) -/

/-- The search passes over what holds no delimiter, up to the first one. -/
theorem candidate_after_noise {noise : List Byte} (quiet : delimiter ∉ noise) (l : List Byte) :
    candidate (noise ++ delimiter :: l) = l := by
  have passed : ∀ b ∈ noise, (b != delimiter) = true := fun b hb => bne_iff_ne.mpr fun e => quiet (e ▸ hb)
  rw [candidate, List.dropWhile_append_of_pos passed]
  simp

/-- A candidate of the length that LEN says, with its own check behind it, is a frame, and what follows is left. -/
theorem collect_frame {len k t c d : Byte} {p : List Byte} (rest : List Byte) (length : len.toNat = p.length + 2)
    (check : [c, d] = u16 (frameCheck (len :: k :: t :: p)).toNat) :
    collect len (k :: t :: p ++ c :: d :: rest) = some (some { kind := k, tag := t, payload := p }, rest) := by
  have whole : len.toNat = (k :: t :: p).length := length
  have checked : checkMatches (len :: k :: t :: p) [c, d] = true := decide_eq_true check
  simp only [collect, whole, List.take_left, List.drop_left]
  simp [checked]

/-- LEN of a frame that is not too long is the length of its KIND, TAG and payload. -/
theorem len_toNat {n : Nat} (short : n ≤ 248) : (BitVec.ofNat 8 (n + 2)).toNat = n + 2 := by
  rw [BitVec.toNat_ofNat]
  omega

theorem lenOk_len {n : Nat} (short : n ≤ 248) : lenOk (BitVec.ofNat 8 (n + 2)) = true := by
  rw [lenOk, len_toNat short]
  simpa using short

/-- Settles O16: LEN after the delimiter starts the collecting, and the rest of the frame ends it. -/
theorem receiverRecoversFrame : Obligations.ReceiverRecoversFrame := by
  intro f noise rest short quiet
  refine ⟨[BitVec.ofNat 8 (f.payload.length + 2)], ?start, ?good⟩
  case start =>
    have found : candidate ([] ++ (noise ++ f.bytes.take 2)) = [BitVec.ofNat 8 (f.payload.length + 2)] :=
      candidate_after_noise quiet _
    simp only [Receiver.find, Bool.false_eq_true, if_false, found, lenOk_len short, if_true]
  case good =>
    have stream : f.bytes.drop 2 ++ rest = f.kind :: f.tag :: f.payload ++
        (u16 (frameCheck (BitVec.ofNat 8 (f.payload.length + 2) :: f.kind :: f.tag :: f.payload)).toNat ++ rest) :=
      List.append_assoc ..
    have taken : collect (BitVec.ofNat 8 (f.payload.length + 2)) (f.bytes.drop 2 ++ rest) = some (some f, rest) :=
      stream ▸ collect_frame rest (len_toNat short) rfl
    simp only [Receiver.find, if_true, List.cons_append, List.nil_append, taken]

end Sys2Proof.Machine

/-! # ACK and DUMP (O56: R180, R185) -/

namespace Sys2Proof.Machine

theorem requestOf_ack (l : Link) : requestOf l 0x56 = .ack l := by cases l <;> rfl

theorem requestOf_dump (l : Link) : requestOf l 0x57 = .dump l := by cases l <;> rfl

/-- A request of the flags or the statistics that is refused only answers. -/
theorem takeLocal_refused {s : State} {l : Link} {f : Frame} {k : Byte} {g : State → List Byte → Result} {c : Code}
    (h : Ready s l f k) (hg : g (s.openRequest l f) f.payload = (s.openRequest l f).refuse c) :
    s.takeLocal l (requestOf l k) g = requestAnswered s l f c [] := by
  rw [takeLocal_ready h, hg]
  rfl

/-! ### ACK (R180) -/

theorem openRequest_flags (s : State) (l : Link) (f : Frame) : ((s.openRequest l f).link l).flags = (s.link l).flags := by
  rw [State.openRequest, modLink_link_same, placeTail_flags]
  exact (LinkState.judgeGo_keeps ..).1

/-- The state in which ACK has lowered the flags that it names. -/
def acked (s : State) (l : Link) (f : Frame) (named : BitVec 10) : State :=
  (s.openRequest l f).modLink l fun k => k.lowerFlags named

section Ack
variable {l : Link} {s : State} {f : Frame} (h : Ready s l f 0x56)
include h

theorem ack_done {a b : Byte} (payload : f.payload = [a, b]) :
    exec (.ack l) s = .next ((acked s l f (BitVec.ofNat 10 (rd16 a b))).answer l f.kind .done
      (u16 ((acked s l f (BitVec.ofNat 10 (rd16 a b))).link l).flags.toNat)) := by
  refine congrArg Host.Outcome.next ?_
  rw [← requestOf_ack, takeLocal_ready h, payload]
  rfl

theorem ack_malformed (length : f.payload.length ≠ 2) : exec (.ack l) s = .next (requestAnswered s l f .badArg []) := by
  refine congrArg Host.Outcome.next ?_
  rw [← requestOf_ack]
  refine takeLocal_refused h ?_
  unfold takeAck
  split
  next payload => exact absurd (congrArg List.length payload) length
  next => rfl

end Ack

theorem acked_onlyLink (s : State) (l : Link) (f : Frame) (named : BitVec 10) (k : Byte) (c : Code) (d : List Byte) :
    OnlyLink l s ((acked s l f named).answer l k c d) := by
  unfold acked State.openRequest State.answer
  rw [modLink_modLink, modLink_modLink]
  exact ⟨_, rfl⟩

theorem acked_flags (s : State) (l : Link) (f : Frame) (named : BitVec 10) :
    ((acked s l f named).link l).flags = (s.link l).flags &&& ~~~named := by
  rw [acked, modLink_link_same, LinkState.lowerFlags, openRequest_flags]

theorem answer_flags (s : State) (l : Link) (k : Byte) (c : Code) (d : List Byte) :
    ((s.answer l k c d).link l).flags = (s.link l).flags := by
  rw [State.answer, modLink_link_same]
  rfl

/-- The reply of an ACK is on its way, with the flags that are still raised. -/
theorem acked_reply {s : State} {l : Link} (f : Frame) (named : BitVec 10) (c : Code) (d : List Byte)
    (free : (s.link l).replyBusy = false) :
    { kind := kindReply, tag := f.tag, payload := replyPayload f.kind c d } ∈
      (((acked s l f named).answer l f.kind c d).link l).outgoing := by
  have desk : ((acked s l f named).link l).desk =
      { fifo := (s.link l).fifo.tail, replies := [{ kind := kindReply, tag := f.tag, payload := [] }] } := by
    rw [acked, modLink_link_same]
    exact openRequest_desk f free
  have replies : (((acked s l f named).answer l f.kind c d).link l).desk.replies =
      [{ kind := kindReply, tag := f.tag, payload := replyPayload f.kind c d }] := by
    rw [State.answer, modLink_link_same, LinkState.fillReply_desk, desk]
    rfl
  have listed := List.mem_singleton_self (Frame.mk kindReply f.tag (replyPayload f.kind c d))
  rw [← replies] at listed
  exact (List.mem_filter.mp listed).1

/-! ### DUMP (R185) -/

@[simp] theorem openRequest_stats (s : State) (l : Link) (f : Frame) : (s.openRequest l f).stats = s.stats := modLink_stats ..

theorem dumpArray_eq (s : State) (clear : Bool) : dumpArray s clear =
    State.done { s with stats := if clear then s.stats.clearArray else s.stats } s.stats.arrayData := by
  cases clear <;> rfl

theorem dumpRange_eq (s : State) (l : List Stn) (clear : Bool) : dumpRange s l clear =
    State.done { s with stats := if clear then l.foldl Stats.clearStn s.stats else s.stats }
      (l.map fun i => stnData (s.stats.stn.get i)).flatten := by
  cases clear <;> rfl

section Dump
variable {l : Link} {s : State} {f : Frame} (h : Ready s l f 0x57)
include h

/-- A DUMP that its handler takes with statistics and data is answered with them. -/
theorem dump_done {t : Stats} {d : List Byte}
    (taken : takeDump (s.openRequest l f) f.payload = State.done { s.openRequest l f with stats := t } d) :
    exec (.dump l) s = .next ({ s.openRequest l f with stats := t }.answer l f.kind .done d) := by
  refine congrArg Host.Outcome.next ?_
  rw [← requestOf_dump, takeLocal_ready h, taken]
  rfl

theorem dump_array {c x : Byte} {clear : Bool} (payload : f.payload = [0, c, x]) (flag : rdFlag x = some clear) :
    exec (.dump l) s = .next ({ s.openRequest l f with
      stats := if clear then s.stats.clearArray else s.stats }.answer l f.kind .done s.stats.arrayData) := by
  refine dump_done h ?_
  have array : takeDump (s.openRequest l f) f.payload = dumpArray (s.openRequest l f) clear := by
    rw [payload]
    simp only [takeDump, flag]
    exact if_pos rfl
  rw [array, dumpArray_eq, openRequest_stats]

theorem dump_range {n c x : Byte} {clear : Bool} (payload : f.payload = [n, c, x]) (flag : rdFlag x = some clear)
    (first : 1 ≤ n.toNat) (any : 1 ≤ c.toNat) (few : c.toNat ≤ 8) (last : n.toNat + c.toNat ≤ 33) :
    exec (.dump l) s = .next ({ s.openRequest l f with
      stats := if clear then ((allStns.drop (n.toNat - 1)).take c.toNat).foldl Stats.clearStn s.stats else s.stats
      }.answer l f.kind .done
        (((allStns.drop (n.toNat - 1)).take c.toNat).map fun i => stnData (s.stats.stn.get i)).flatten) := by
  refine dump_done h ?_
  have range : takeDump (s.openRequest l f) f.payload =
      dumpRange (s.openRequest l f) ((allStns.drop (n.toNat - 1)).take c.toNat) clear := by
    rw [payload]
    simp only [takeDump, flag]
    exact (if_neg (by omega)).trans (if_pos ⟨any, few, last⟩)
  rw [range, dumpRange_eq, openRequest_stats]

theorem dump_malformed (bad : f.payload.length ≠ 3 ∨ ∃ n c x, f.payload = [n, c, x] ∧
    (rdFlag x = none ∨ (n.toNat ≠ 0 ∧ ¬ (1 ≤ c.toNat ∧ c.toNat ≤ 8 ∧ n.toNat + c.toNat ≤ 33)))) :
    exec (.dump l) s = .next (requestAnswered s l f .badArg []) := by
  refine congrArg Host.Outcome.next ?_
  rw [← requestOf_dump]
  refine takeLocal_refused h ?_
  obtain length | ⟨n, c, x, payload, flag | ⟨station, outside⟩⟩ := bad
  · unfold takeDump
    split
    next payload => exact absurd (congrArg List.length payload) length
    next => rfl
  · simp only [payload, takeDump, flag]
  · rw [payload]
    unfold takeDump
    dsimp only
    split
    · rfl
    · rw [if_neg station, if_neg outside]

end Dump

/-- Clearing stations returns their counters to 0, and no other. -/
theorem clearStns_get (t : Stats) (l : List Stn) (i : Stn) :
    (l.foldl Stats.clearStn t).stn.get i = if i ∈ l then StnStats.reset else t.stn.get i := by
  induction l generalizing t with
  | nil => simp
  | cons j l ih =>
    rw [List.foldl_cons, ih, Stats.clearStn, upd_get]
    by_cases here : i = j <;> simp [here]

theorem clearStns_rest (t : Stats) (l : List Stn) : { l.foldl Stats.clearStn t with stn := t.stn } = t := by
  induction l generalizing t with
  | nil => rfl
  | cons j l ih => exact congrArg (fun r : Stats => { r with stn := t.stn }) (ih (t.clearStn j))

/-- Settles O56. -/
theorem ackAndDumpComplete : Obligations.AckAndDumpComplete := by
  refine ⟨fun l s f a b h payload => ?ack, fun l s f => ack_malformed, fun l s f x c clear h => dump_array h,
    fun l s f n c x clear h => dump_range h, fun l s f => dump_malformed, fun t => rfl,
    fun t l => ⟨fun i hi => (clearStns_get t l i).trans (if_pos hi), fun i hi => (clearStns_get t l i).trans (if_neg hi),
      clearStns_rest t l⟩⟩
  case ack =>
    obtain ⟨-, free, -⟩ := id h
    refine ⟨_, ack_done h payload, acked_onlyLink .., ?flags, _, acked_reply f _ _ _ free, rfl, rfl, ?still⟩
    case flags => rw [answer_flags, acked_flags]
    case still => rw [answer_flags]

end Sys2Proof.Machine

/-! # What a step takes (O1) -/

namespace Sys2Proof.Machine

variable {s : State}

/-- A step on an empty queue is the idle of it. -/
theorem step_nil (h : s.pending = []) : step s = idle s := by simp only [step, h]

/-- An idle block takes the event that is ready. -/
theorem idle_event {c : Instr} (ready : s.dueEvent = some c) : idle s = exec c s := by simp only [idle, ready]

/-- With no event ready, an idle block lets 1 ms of site time pass (log entry 2). -/
theorem idle_tick (none_ready : s.dueEvent = none) : idle s = .next { s with clock := s.clock + 1 } := by
  simp only [idle, none_ready]

/-- Settles O1: a step by the queue, and on an empty queue by the event that is ready. -/
theorem stepTakesFrontCommand : Obligations.StepTakesFrontCommand := by
  refine ⟨fun c rest s waiting => step_cons waiting, fun s empty => (step_nil empty).trans ?_⟩
  split
  next c ready => exact idle_event ready
  next none_ready => exact idle_tick none_ready

end Sys2Proof.Machine
